-- ==== Sys2Proof/Word.lean ====
section
/-! DEFINITION. Words, bytes and sparse tables in one canonical form. -/
namespace Sys2Proof

/-- One byte (R8). -/
abbrev Byte := BitVec 8

/-- One register word (R10). -/
abbrev Word := BitVec 32

/-- A table indexed by a number, listing only the entries that differ from the entry default. -/
abbrev Tab (α : Type) := List (Nat × α)

/-- The entry at an index. -/
def Tab.get {α : Type} [Inhabited α] : Tab α → Nat → α
  | [], _ => default
  | (i, v) :: r, k => if i = k then v else Tab.get r k

/-- The table with one entry written, in canonical form: an entry equal to the default is not listed. -/
def Tab.put {α : Type} [Inhabited α] [DecidableEq α] : Tab α → Nat → α → Tab α
  | [], k, v => if v = default then [] else [(k, v)]
  | (i, w) :: r, k, v =>
    if v = default then (if i = k then Tab.put r k v else (i, w) :: Tab.put r k v)
    else if k < i then (k, v) :: (i, w) :: r
    else if i = k then (k, v) :: r
    else (i, w) :: Tab.put r k v

/-- The table with one entry changed by a function. -/
def Tab.modify {α : Type} [Inhabited α] [DecidableEq α] (t : Tab α) (k : Nat) (f : α → α) : Tab α :=
  t.put k (f (t.get k))

/-- The table with the entries of a list of indices changed by a function of the index. -/
def Tab.modifyAll {α : Type} [Inhabited α] [DecidableEq α] (t : Tab α) (ks : List Nat) (f : Nat → α → α) :
    Tab α :=
  ks.foldl (fun t k => t.put k (f k (t.get k))) t

/-- The first n entries changed by a function of the index. -/
def Tab.modifyN {α : Type} [Inhabited α] [DecidableEq α] (t : Tab α) (n : Nat) (f : Nat → α → α) : Tab α :=
  t.modifyAll (List.range n) f

/-- Canonical form: indices strictly rising, no entry equal to the default. -/
def Tab.wf {α : Type} [Inhabited α] [DecidableEq α] : Tab α → Bool
  | [] => true
  | [(_, v)] => decide (v ≠ default)
  | (i, v) :: (j, w) :: r => decide (i < j) && decide (v ≠ default) && Tab.wf ((j, w) :: r)

end Sys2Proof
end

