-- ==== Sys2Proof/Config.lean ====
section
/-! DEFINITION. The closed sets of names the spec gives, and the operands that commands carry. -/
namespace Sys2Proof

/-- A value that nothing constrains: the model's name for a value the spec leaves open, taken by the counter that State
holds for it (log entry 8). -/
opaque Config.freeValue : Nat → Int

/-- What SECDED(72,64) makes of a word with three or more wrong cells, which the spec leaves open (R349): none where it finds the
word uncorrectable, else the cells that still differ from what was written when it has read the word. -/
opaque Config.secdedBeyond : List Nat → Option (List Nat)

/-- What the BCH code of an MRAM word makes of four or more wrong bits, which the spec leaves open (R354): none where it finds the
word uncorrectable, else the data bits that still differ when it has read the word. The operands are the wrong data bits of the
word and the number of its wrong check bits. -/
opaque Config.bchBeyond : List Nat → Nat → Option (List Nat)

/-- The 8 Reed-Solomon parity symbols over GF(2^10) of the 205 symbols of a line; the spec names no generator (R354). -/
opaque Config.rsParity : List Nat → List Nat

/-- Temperature band of a string without modules, whose temperature the spec does not give (R241, log entry 29). -/
opaque Config.noModuleBand : Nat → Nat

/-- Bytes of one item of Table 13.5: the spec gives their number and content, not their places (log entry 8). -/
opaque Config.mirrorBytes : Nat → List Int → List Byte

/-- Content of one item of Table 13.5 read back from its bytes (log entry 8). -/
opaque Config.mirrorValues : Nat → List Byte → List Int

/-- Word of a register whose bits the spec does not place, from its offset and the values that it shows (log entry 8). -/
opaque Config.regLayout : Nat → List Int → BitVec 32

/-- Bytes of the flight freeze area from an offset on, of the frames it holds, newest first: R328 gives the order of the copy
and an index, but not where either lies (log entry 8). -/
opaque Config.flightArea : List (List Byte) → Nat → Nat → List Byte

/-- Bytes of a field of the flight window that Tables 11.6 to 11.8 name with its length but without the places of what it holds,
by a number of the field (log entry 8). -/
opaque Config.flightPack : Nat → List Int → List Byte

/-- Block and instance of a STATE record for a point: R309 names the source of every other record type (log entry 8). -/
opaque Config.stateSource : Nat → Nat × Nat

/-- Life-cycle states, in the order of Table 19.8. -/
inductive Lifecycle | blank | provisioned | field | returned | retired
deriving DecidableEq, Repr, Inhabited

/-- Outcomes of the warmer's rules (R504). -/
inductive WarmOutcome | dormant | power | wake
deriving DecidableEq, Repr, Inhabited

/-- What the core die does: held in reset, booting (logical time not started or boot not ended), running. -/
inductive CoreState | held | booting | running
deriving DecidableEq, Repr, Inhabited

/-- Which of steps 7 and 8 of Table 19.4 is still to come. -/
inductive BootStage | done | punty | finish
deriving DecidableEq, Repr, Inhabited

/-- Phase generator states of Table 2.2, coded as in Table 22.10. -/
inductive GenState | acquiring | locked | coasting | fallback | slewing
deriving DecidableEq, Repr, Inhabited

/-- Modes of Table 4.4 with the codes of Table 5.3. -/
inductive Mode | charge | idle | discharge | trim
deriving DecidableEq, Repr, Inhabited

/-- Levels of a PWM pin (R142). -/
inductive PwmLevel | mid | high | low | hiz
deriving DecidableEq, Repr, Inhabited

/-- Stage states, coded as stage point 0 of Table 5.8. -/
inductive StageState | off | running | stopping | halted | ovLatched
deriving DecidableEq, Repr, Inhabited

/-- Rectifier states, coded as in Table 6.9. -/
inductive RectState | absent | parked | unparking | entering | holding | serving | silent | faulted | inputLost
deriving DecidableEq, Repr, Inhabited

/-- Park settings of CMD_RECT_PARK_SET (R190). -/
inductive ParkSet | auto | park | unpark
deriving DecidableEq, Repr, Inhabited

/-- Hold-up states of Table 6.5, coded as point 0x388. -/
inductive HoldState | normal | holdup | handback
deriving DecidableEq, Repr, Inhabited

/-- Domain states of Table 7.4. -/
inductive DomState | offline | active | held | disabled
deriving DecidableEq, Repr, Inhabited

/-- Charge controller states, coded as string point 14 of Table 8.7. -/
inductive ChargeState | idle | cc | cv | float | inhibit | suspended
deriving DecidableEq, Repr, Inhabited

/-- Channel states with the codes of R282 (EMPTY stands for WAITING and OPEN, SEATING for DELAY, STARTING for
CLOSING, ON for CLOSED). -/
inductive ChState | empty | seating | disabled | starting | on | tripped | failed
deriving DecidableEq, Repr, Inhabited

/-- Causes of a latched trip (R264). -/
inductive TripCause | timer | breaker
deriving DecidableEq, Repr, Inhabited

/-- Group states of Table 10.3 in its order. -/
inductive GroupState | off | rising | up | falling | resting | latched | frozen
deriving DecidableEq, Repr, Inhabited

/-- Flight states of REC_STATUS (Table 22.11). -/
inductive FlightState | recording | post | copying
deriving DecidableEq, Repr, Inhabited

/-- Punty states, coded as in CHIP_STATUS. -/
inductive Punty | seeking | standby | claiming | holder
deriving DecidableEq, Repr, Inhabited

/-- Irler policy states, coded as in TIE_STATUS (R411). -/
inductive TieState | detached | linking | silent | idle | requesting | offering | matching | precharge | closed
deriving DecidableEq, Repr, Inhabited

/-- The ports that deliver commands (R309 codes). -/
inductive PortId | mgt | fhp | peer
deriving DecidableEq, Repr, Inhabited

/-- Mailbox states of Table 16.5. -/
inductive MboxState | idle | busy | done
deriving DecidableEq, Repr, Inhabited

/-- TAP instructions (R365). -/
inductive TapInstr
  | bypass | sample | extest | idcode | clamp | highz | intScan | intMbist | intMemacc
deriving DecidableEq, Repr, Inhabited

/-- Routing of one comparator output (R94): capture unit, interrupt aggregator, wake logic. -/
structure Route where
  /-- capture unit number -/
  unit : Nat := 0
  /-- routed to the capture unit -/
  capture : Bool := false
  /-- routed to the interrupt aggregator -/
  interrupt : Bool := false
  /-- routed to the warmer's wake logic -/
  wake : Bool := false
deriving DecidableEq, Repr, Inhabited

/-- One rule of the warmer's decision table (R504); masks over the terms of Table 19.1, VIN_OK at bit 0. -/
structure WarmRule where
  /-- terms that must all be true -/
  setM : BitVec 8 := 0
  /-- terms that must all be false -/
  clrM : BitVec 8 := 0
  /-- outcome; none for an unused rule -/
  out : Option WarmOutcome := none
deriving DecidableEq, Repr, Inhabited

/-- Warmer settings with the ROM values of Table 19.3 and the ROM rules of Table 19.2. -/
structure WarmerCfg where
  /-- mV -/
  vinStart : Int := 40000
  /-- mV -/
  vinHyst : Int := 2500
  /-- periods -/
  vinStartMs : Nat := 100
  /-- filter shift of VIN_HV -/
  kVin : Nat := 3
  /-- filter shift of VWARM -/
  kWarm : Nat := 3
  /-- filter shifts of the logic inputs: PFI, WAKE_N, SEAT_S00 to SEAT_S47 -/
  kLogic : List Nat := List.replicate 50 2
  /-- margin time at which INPUT_MARGINAL is recorded -/
  marginMs : Nat := 1000
  /-- time for which every supply must stand in range -/
  settleMs : Nat := 2
  /-- longest wait for the supplies after WAKE -/
  timeoutMs : Nat := 100
  /-- time PWR_REQ stays low after a supply failure -/
  offMinMs : Nat := 200
  /-- rules W0 to W15 -/
  rules : List WarmRule :=
    [⟨4, 0, some .dormant⟩, ⟨64, 0, some .dormant⟩, ⟨1, 0, some .wake⟩, ⟨8, 0, some .wake⟩,
     ⟨32, 0, some .power⟩]
deriving DecidableEq, Repr, Inhabited

/-- What a command block brings beside its payload: the port that delivered it, the mailbox (port x 2 + urgent) that
receives the reply, its counter and the key slot whose MAC was verified (Table 16.6). -/
structure CmdHeader where
  /-- port whose order governs the command -/
  port : PortId := .mgt
  /-- mailbox of the reply -/
  mbox : Nat := 0
  /-- counter field -/
  counter : Nat := 0
  /-- key slot of a verified MAC -/
  key : Option Nat := none
deriving DecidableEq, Repr, Inhabited

/-- What the channel monitor converts and the power die tests on one channel in a tick (R265, R268). -/
structure ChanSample where
  /-- sense code, LSB 1.5625 uV -/
  sense : Int := 0
  /-- SNSP code, LSB 25 mV -/
  snsp : Nat := 0
  /-- OUT (FAR for ties) code -/
  outv : Nat := 0
  /-- SRC_Tx code -/
  srcv : Nat := 0
  /-- GATE-OUT (GATE-SRC) is at least 8 V -/
  gateUp : Bool := false
deriving DecidableEq, Repr, Inhabited

/-- The levels and samples that a tick boundary takes in (Table 2.4), beside those of the rows of their own. -/
structure TickInputs where
  /-- SEAT_S00 to SEAT_S47 -/
  seats : BitVec 48 := 0
  /-- PFI asserted -/
  pfi : Bool := false
  /-- WAKE_N asserted -/
  wake : Bool := false
  /-- SEQF_N low -/
  seqfLow : Bool := false
  /-- HOLD_N low -/
  holdLow : Bool := false
  /-- VIN_HV sense, mV -/
  vinMv : Int := 0
  /-- channel monitor samples -/
  chans : Tab ChanSample := []
  /-- PMBn_ALERT_N asserted -/
  alerts : BitVec 8 := 0
  /-- loops whose evaluation of the ending tick's round is complete -/
  loopsDone : BitVec 8 := 255
  /-- loops whose late evaluation will not be complete at the next boundary either, so that their evaluation of the ending tick's
  inputs is skipped (R73; a flag that a replay is given, R74) -/
  skips : BitVec 8 := 0
  /-- length of the ending tick, ns of chassis time's reference -/
  dtNs : Nat := 0
deriving DecidableEq, Repr, Inhabited

/-- One thermal conversion (R100, R101). -/
structure SensorConv where
  /-- raw code, 0.0625 degC -/
  raw : Int := 0
  /-- remote diode: forward voltage above the open threshold -/
  opened : Bool := false
  /-- below the short threshold, or raw code at an end of scale -/
  shorted : Bool := false
deriving DecidableEq, Repr, Inhabited

/-- What a frame boundary takes in: the frame's thermal conversions and the supply measurements (R100, R107). -/
structure FrameInputs where
  /-- conversions of the 20 sensors -/
  sensors : Tab SensorConv := []
  /-- VIN_HV, VDD_CORE, VDD_NVM, VDD_ANA, VDD_IO0 to VDD_IO3, VWARM, mV -/
  supplies : List Int := []
deriving DecidableEq, Repr, Inhabited

/-- What the warmer samples in one period (R502). -/
structure WarmInputs where
  /-- VIN_HV, mV -/
  vinMv : Int := 0
  /-- VWARM, mV -/
  warmMv : Int := 0
  /-- PFI asserted -/
  pfi : Bool := false
  /-- WAKE_N asserted -/
  wake : Bool := false
  /-- SEAT_S00 to SEAT_S47 -/
  seats : BitVec 48 := 0
deriving DecidableEq, Repr, Inhabited

/-- What a boot takes in: straps, the start-up BIST's findings, the durations (R509). -/
structure BootInputs where
  /-- ADDR2 to ADDR0 -/
  addr : BitVec 3 := 0
  /-- RECOV_N low -/
  recovLow : Bool := false
  /-- PAIR_ORD level -/
  pairOrd : Bool := false
  /-- BIST targets whose signature differed twice -/
  bistFail : List Nat := []
  /-- release of reset to end of boot, 100 us units -/
  time100us : Nat := 0
  /-- host scratch words left uncorrectable -/
  scratchBad : List Nat := []
deriving DecidableEq, Repr, Inhabited

/-- The header of a PEER frame (R374). -/
structure PeerHdr where
  /-- sequence -/
  seq : Nat := 0
  /-- sender's punty epoch -/
  epoch : Nat := 0
deriving DecidableEq, Repr, Inhabited

/-- The messages of Table 13.2 as the device calls for them; every one carries the sender's epoch. -/
inductive PeerMsg
  | hello (pairOrd : Bool) (digest : List Byte) (frame epoch : Nat) (role : Punty)
  | renew (epoch frame lease : Nat)
  | mirror (slice : Nat) (data : List Byte)
  | mirrorEnd (frame count crc : Nat)
  | counter (slot value : Nat)
  | counterAck (slot value : Nat)
  | forward (mbox : Nat) (block : List Byte)
  | forwardReply (mbox : Nat) (reply : List Byte)
  | guardMsg (chan : Nat)
  | guardAck (chan : Nat)
  | yieldMsg (reason : Nat)
deriving DecidableEq, Repr, Inhabited

/-- How a PMBus transaction ended (R434, Table 17.6). -/
structure PmbResult where
  /-- 0 done, 1 address NACK, 2 data NACK, 3 stretch timeout, 4 bus hung, 5 arbitration lost -/
  res : Nat := 0
  /-- the PEC matched, where used -/
  pecOk : Bool := true
  /-- data bytes read -/
  data : List Byte := []
deriving DecidableEq, Repr, Inhabited

/-- Cells of one SRAM stripe that hold the wrong bit when it is read (R348, R349). -/
structure StripeUpsets where
  /-- word (0 to 7 the data words, 8 the parity word) and bit (0 to 63 data, 64 to 71 check bits) of each wrong cell -/
  cells : List (Nat × Nat) := []
deriving DecidableEq, Repr, Inhabited

/-- The moment at which the sense signal of a phase reaches its threshold (R147). -/
structure PeakTrip where
  /-- the phase -/
  phase : Nat
  /-- the sense voltage, uV -/
  senseUv : Int
  /-- nanoseconds since the on-time began -/
  ns : Nat
deriving DecidableEq, Repr, Inhabited

/-- A channel and a moment of the running tick (R260, R261). -/
structure ChanMoment where
  /-- the channel -/
  chan : Nat
  /-- nanoseconds since the boundary that opened the tick -/
  ns : Nat
deriving DecidableEq, Repr, Inhabited

/-- Cells of one MRAM line and of its outer parity that hold the wrong bit when it is read (R354, R355). -/
structure LineUpsets where
  /-- places in the line's 2,048 data bits, byte 0 first and each byte from its bit 0 -/
  data : List Nat := []
  /-- word (0 to 31) of each wrong check bit of the inner code -/
  check : List Nat := []
  /-- outer parity symbols (0 to 7) that are wrong, as a write that was cut before its last part leaves them -/
  outer : List Nat := []
deriving DecidableEq, Repr, Inhabited

/-- The frame engines whose completion FRAME_WORK_COMPLETE reports (R69, R75, R400). -/
inductive Engine | marver | estimator | sequencer | lehr | recorder | tie
deriving DecidableEq, Repr, Inhabited

end Sys2Proof
end

