-- ==== Sys2Proof/Syntax.lean ====
section
/-! DEFINITION. The commands of the block: one constructor per row of the table of operations and events. -/
namespace Sys2Proof

/-- One command waiting for the block (opcode_table.json, in its order). -/
inductive Instr
  /-- CMD_CHIP_IDENT (R482): Query that returns the chip identity, serial, life-cycle state, punty state, crucible flag and active batch digest and version. -/
  | cmdChipIdent (h : CmdHeader)
  /-- CMD_SYS_RESET (R514): Critical command that performs a command reset at the boundary ending its acceptance frame, after any flush under R314. -/
  | cmdSysReset (h : CmdHeader)
  /-- CMD_SYS_LIFECYCLE (R516): Critical deferred command that moves the OTP life-cycle state forward to the next permitted state. -/
  | cmdSysLifecycle (h : CmdHeader) (target : Nat)
  /-- CMD_SYS_KEY_PROGRAM (R517): Critical deferred command that blows a 256-bit HMAC key and its CRC-32C into an unprogrammed OTP key slot. -/
  | cmdSysKeyProgram (h : CmdHeader) (slot : Nat) (key : List Byte)
  /-- CMD_SYS_ROOT_PROGRAM (R487): Critical deferred command that blows a root-key SHA-384 hash and its CRC into an OTP root slot. -/
  | cmdSysRootProgram (h : CmdHeader) (root : Nat) (hash : List Byte)
  /-- CMD_CHASSIS_TIME_SET (R53): Sets chassis time to a whole second, applied at the next PPS edge or at the acceptance boundary, and sets time_set. -/
  | cmdChassisTimeSet (h : CmdHeader) (seconds : Nat)
  /-- CMD_HST_NOP (R482): Query that returns its payload unchanged. -/
  | cmdHstNop (h : CmdHeader) (payload : List Byte)
  /-- CMD_FLT_REACTION_SET (R347): Critical command that writes one reaction-table entry from the acceptance frame. -/
  | cmdFltReactionSet (h : CmdHeader) (block : Nat) (kind : Nat) (reactions : Byte)
  /-- CMD_FLT_LOST_CLEAR (R339): Clears FLT_LOST and returns its previous value. -/
  | cmdFltLostClear (h : CmdHeader)
  /-- CMD_PEAK_CLEAR (R88): Returns the maxima and minima of a range of points and resets them to the first fresh sample of the acceptance frame. -/
  | cmdPeakClear (h : CmdHeader) (first : Nat) (count : Nat)
  /-- CMD_WM_SET (R95): Changes a window monitor's thresholds, hysteresis or routing at its acceptance boundary, widening before narrowing. -/
  | cmdWmSet (h : CmdHeader) (mon : Nat) (mask : Byte) (lower : Nat) (upper : Nat) (hyst : Nat) (uv : Byte) (ov : Byte)
  /-- CMD_LOOP_ENABLE (R135): Enables or disables loops; a disable drops the loop from evaluation and sets safe outputs at the next tick boundary. -/
  | cmdLoopEnable (h : CmdHeader) (changed : BitVec 8) (value : BitVec 8)
  /-- CMD_LOOP_RESTORE (R133): Returns a loop from a degraded set to set 0 and restarts it under R136. -/
  | cmdLoopRestore (h : CmdHeader) (loop : Nat)
  /-- CMD_STAGE_ENABLE (R160): Turns a stage on (start) or off (slew to zero then mid-level) under Table 5.6. -/
  | cmdStageEnable (h : CmdHeader) (stage : Nat) (on : Bool)
  /-- CMD_STAGE_MODE_SET (R157): Sets a stage's commanded mode, subject to topology, charge-controller ownership and END strings. -/
  | cmdStageModeSet (h : CmdHeader) (stage : Nat) (mode : Nat)
  /-- CMD_STAGE_REF_SET (R159): Writes a stage's voltage or current target, toward which its reference slews. -/
  | cmdStageRefSet (h : CmdHeader) (stage : Nat) (target : Nat) (value : Int)
  /-- CMD_STAGE_OV_CLEAR (R166): Releases a stage's over-voltage latch when the OV comparator is deasserted, then starts or halts the stage. -/
  | cmdStageOvClear (h : CmdHeader) (stage : Nat)
  /-- CMD_PHASE_UNMASK (R174): Returns a masked phase to service as active at its acceptance boundary. -/
  | cmdPhaseUnmask (h : CmdHeader) (phase : Nat)
  /-- CMD_RECT_PARK_SET (R190): Sets a rectifier to AUTO, PARK or UNPARK, PARK being refused when the park test fails. -/
  | cmdRectParkSet (h : CmdHeader) (rect : Nat) (setting : Nat)
  /-- CMD_RECT_RETURN (R183): Returns a FAULTED rectifier whose output is on to ENTERING. -/
  | cmdRectReturn (h : CmdHeader) (rect : Nat)
  /-- CMD_SHED_RELEASE (R201): Releases every standing shed limit at its acceptance boundary. -/
  | cmdShedRelease (h : CmdHeader)
  /-- CMD_DOMAIN_ENABLE (R212): Enables or disables a load domain under Table 7.4. -/
  | cmdDomainEnable (h : CmdHeader) (dom : Nat) (on : Bool)
  /-- CMD_DOMAIN_SET (R221): Sets a domain's priority, ceiling or weight as separate objects. -/
  | cmdDomainSet (h : CmdHeader) (dom : Nat) (mask : Byte) (priority : Nat) (ceiling : Nat) (weight : Nat)
  /-- CMD_GRANT_SET (R221): Pins a domain's target within floor–ceiling or removes the pin. -/
  | cmdGrantSet (h : CmdHeader) (dom : Nat) (pin : Bool) (value : Nat)
  /-- CMD_LEHR_CAP_SET (R208): Sets or removes the host heat cap on the lehr's supply. -/
  | cmdLehrCapSet (h : CmdHeader) (cap : Nat)
  /-- CMD_BAT_SOC_SET (R252): Sets a string's q_rem from a SoC and its confidence, and clears INIT. -/
  | cmdBatSocSet (h : CmdHeader) (string : Nat) (soc : Nat) (conf : Nat)
  /-- CMD_BAT_RELEARN (R242): Marks a capacity relearn pending for a string. -/
  | cmdBatRelearn (h : CmdHeader) (string : Nat)
  /-- CMD_BAT_CYCLES_SET (R248): Critical command that sets a string's cycle count and clears dis_acc. -/
  | cmdBatCyclesSet (h : CmdHeader) (string : Nat) (count : Nat)
  /-- CMD_BAT_ZTABLE_RESET (R249): Returns a module's impedance table to z_default with counts 0. -/
  | cmdBatZtableReset (h : CmdHeader) (module : Nat)
  /-- CMD_BAT_ZTABLE_READ (R252): Deferred query returning a module's 128 impedance cells as they stood at acceptance. -/
  | cmdBatZtableRead (h : CmdHeader) (module : Nat)
  /-- CMD_HSW_SET (R266): Enables or disables a slot or keeper channel, off being an orderly turn-off. -/
  | cmdHswSet (h : CmdHeader) (chan : Nat) (on : Bool)
  /-- CMD_HSW_TOGGLE (R266): Toggles a TRIPPED channel, starting it or leaving the start pending behind cool-down. -/
  | cmdHswToggle (h : CmdHeader) (chan : Nat)
  /-- CMD_HSW_LIMIT_SET (R280): Sets lim_run of a slot or keeper channel and returns the code in force. -/
  | cmdHswLimitSet (h : CmdHeader) (chan : Nat) (limit : Nat)
  /-- CMD_HSW_FAIL_CLEAR (R272): Critical command that returns a FAILED channel to service. -/
  | cmdHswFailClear (h : CmdHeader) (chan : Nat)
  /-- CMD_SEQ_GROUP_SET (R291): Sets a sequencer group's target UP or DOWN. -/
  | cmdSeqGroupSet (h : CmdHeader) (group : Nat) (up : Bool)
  /-- CMD_SEQ_CLEAR (R297): Returns a LATCHED group to OFF, clearing retry counts and possibly releasing SEQF_N. -/
  | cmdSeqClear (h : CmdHeader) (group : Nat)
  /-- CMD_SEQ_LOG_READ (R302): Deferred query returning sequencer fault records from a given sequence number. -/
  | cmdSeqLogRead (h : CmdHeader) (first : Nat)
  /-- CMD_SEQ_LOG_CLEAR (R302): Critical command that empties the sequencer record ring. -/
  | cmdSeqLogClear (h : CmdHeader)
  /-- CMD_REC_FLUSH (R312): Triggers a recorder flush whose cut ends at its acceptance boundary. -/
  | cmdRecFlush (h : CmdHeader)
  /-- CMD_REC_FREEZE (R322): Freezes a log from its acceptance boundary and commits a FREEZE mark. -/
  | cmdRecFreeze (h : CmdHeader) (log : Nat)
  /-- CMD_REC_THAW (R323): Ends a log freeze, commits a THAW mark and writes the pinned records. -/
  | cmdRecThaw (h : CmdHeader) (log : Nat)
  /-- CMD_REC_OPEN_CLEAR (R321): Empties the open log's pointer state and commits a CLEAR mark. -/
  | cmdRecOpenClear (h : CmdHeader)
  /-- CMD_REC_SEALED_OPEN (R320): Critical command that opens or renews a sealed-log session for the issuing port. -/
  | cmdRecSealedOpen (h : CmdHeader)
  /-- CMD_REC_SEALED_CLOSE (R320): Ends the issuing port's sealed-log session. -/
  | cmdRecSealedClose (h : CmdHeader)
  /-- CMD_REC_SEALED_CLEAR (R321): Critical command that empties the sealed log and commits a CLEAR mark. -/
  | cmdRecSealedClear (h : CmdHeader)
  /-- CMD_REC_FLIGHT_TRIGGER (R328): Sets a flight trigger frame, or is ignored under R329. -/
  | cmdRecFlightTrigger (h : CmdHeader)
  /-- CMD_REC_FLIGHT_READ (R329): Deferred query returning a piece of the held flight freeze area. -/
  | cmdRecFlightRead (h : CmdHeader) (offset : Nat) (length : Nat)
  /-- CMD_REC_FLIGHT_RELEASE (R329): Releases a held flight freeze area. -/
  | cmdRecFlightRelease (h : CmdHeader)
  /-- CMD_REC_NOTE (R309): Commits a NOTE record with host bytes in the acceptance frame. -/
  | cmdRecNote (h : CmdHeader) (bytes : List Byte)
  /-- CMD_RED_HANDOVER (R386): Critical command by which the holder sends YIELD so that the standby claims at the next frame boundary. -/
  | cmdRedHandover (h : CmdHeader)
  /-- CMD_RED_INHIBIT (R388): Sets or removes the standby's claim inhibit. -/
  | cmdRedInhibit (h : CmdHeader) (on : Bool)
  /-- CMD_TIE_REQUEST (R410): Requests a draw of a given power on an IDLE tie port. -/
  | cmdTieRequest (h : CmdHeader) (port : Nat) (power : Nat)
  /-- CMD_TIE_RELEASE (R406): Releases a port's tie in the order of Table 14.6. -/
  | cmdTieRelease (h : CmdHeader) (port : Nat)
  /-- CMD_TIE_PORT_SET (R410): Writes a tie port's port_en and supply_en. -/
  | cmdTiePortSet (h : CmdHeader) (port : Nat) (mask : Byte) (values : Byte)
  /-- CMD_CANE_PORT_SET (R431): Enables or disables a cane port; a disable discards queued frames and loses its nodes. -/
  | cmdCanePortSet (h : CmdHeader) (port : Nat) (on : Bool)
  /-- CMD_CANE_NODE_RETRY (R425): Clears a node rejection so that the next query is answered afresh. -/
  | cmdCaneNodeRetry (h : CmdHeader) (port : Nat) (node : Nat)
  /-- CMD_PMB_RECOVER (R435): Runs PMBus bus recovery at its acceptance boundary and replies when the bus activity ends. -/
  | cmdPmbRecover (h : CmdHeader) (port : Nat)
  /-- CMD_PMB_TRANSACT (R440): Issues one host PMBus transaction and replies with data, acknowledgement and PEC result. -/
  | cmdPmbTransact (h : CmdHeader) (port : Nat) (address : Nat) (kind : Nat) (code : Nat) (pec : Bool) (data : Nat)
  /-- CMD_BCH_BEGIN (R490): Critical command that discards staging and records the version, chunk count and digest of a new delivery. -/
  | cmdBchBegin (h : CmdHeader) (version : Nat) (count : Nat) (digest : List Byte)
  /-- CMD_BCH_CHUNK (R483): Delivers one 512-byte piece of a 4 KiB batch chunk for assembly. -/
  | cmdBchChunk (h : CmdHeader) (index : Nat) (piece : Nat) (crc : Nat) (data : List Byte)
  /-- CMD_BCH_ABANDON (R490): Critical command that ends staging. -/
  | cmdBchAbandon (h : CmdHeader)
  /-- CMD_BCH_STATUS (R482): Query that returns delivery progress, slots, versions and the resume bitmap. -/
  | cmdBchStatus (h : CmdHeader)
  /-- CMD_BCH_ACTIVATE (R493): Critical deferred command that runs the activation journal on the staged image. -/
  | cmdBchActivate (h : CmdHeader) (version : Nat) (digest : List Byte)
  /-- CMD_BCH_ROOT_REVOKE (R488): Critical deferred command that blows a root's revocation bit. -/
  | cmdBchRootRevoke (h : CmdHeader) (root : Nat)
  /-- CMD_MEM_BIST_SLICE (R363): Runs a named BIST target's slice next, replying after the region is restored. -/
  | cmdMemBistSlice (h : CmdHeader) (target : Nat)
  /-- CMD_MEM_BIST_FULL (R364): Critical command that runs every BIST target destructively and then a command reset. -/
  | cmdMemBistFull (h : CmdHeader)
  /-- COMMAND_VERIFIED (R466): The command engine completes the checks of a rung block and either queues it for acceptance or rejects it. -/
  | commandVerified
  /-- LOCKOUT_END (R471): A port's lockout expires after lockout_frames. -/
  | lockoutEnd (port : PortId)
  /-- AUTH_COUNT_RESTART (R471): A port's AUTH_FAIL count restarts after 65,536 frames without such a rejection. -/
  | authCountRestart (port : PortId)
  /-- FUSE_BLOW_COMPLETE (R517): Fuses of a life-cycle, key, root or revocation command are blown and read back, and the deferred reply is written. -/
  | fuseBlowComplete (ok : Bool)
  /-- DEFERRED_MRAM_READ_COMPLETE (R480): The MRAM reads of a deferred query complete and its reply is written. -/
  | deferredMramReadComplete (mbox : Nat)
  /-- CHUNK_WRITE_COMPLETE (R483): A verified chunk's MRAM write completes, its bitmap bit is set and the deferred reply is written. -/
  | chunkWriteComplete
  /-- DOORBELL_NORMAL (R460): Writing bit 0 of HST_MB_DOORBELL rings the port's normal mailbox and copies its command block. -/
  | doorbellNormal (port : PortId)
  /-- DOORBELL_URGENT (R460): Writing bit 1 of HST_MB_DOORBELL rings the port's urgent mailbox and copies its command block. -/
  | doorbellUrgent (port : PortId)
  /-- REPLY_READY_CLEAR (R461): Writing 1 to reply_ready returns a DONE mailbox to IDLE. -/
  | replyReadyClear (port : PortId) (urgent : Bool)
  /-- BUSY_RING_CLEAR (R461): Writing 1 to busy_ring clears the busy-ring flag. -/
  | busyRingClear (port : PortId) (urgent : Bool)
  /-- LOP_ENABLE_WRITE (R559): A write of LOP_ENABLE is treated as a loop-enable command of the writing port. -/
  | lopEnableWrite (port : PortId) (value : Word)
  /-- SYS_LOCK_SET (R557): Writing 1 to SYS_LOCK locks every LK register until the next reset. -/
  | sysLockSet (port : PortId)
  /-- TIM_FRAME_LO_READ (R47): Reading TIM_FRAME_LO captures frame number bits [47:32] into TIM_FRAME_HI. -/
  | timFrameLoRead (port : PortId)
  /-- TIM_CHASSIS_LO_READ (R55): Reading TIM_CHASSIS_LO captures chassis time bits [63:32] into TIM_CHASSIS_HI. -/
  | timChassisLoRead (port : PortId)
  /-- TIM_SLACK_WORST_READ (R70): Reading TIM_SLACK_WORST returns it to 0x7FFF_FFFF. -/
  | timSlackWorstRead (port : PortId)
  /-- FLT_INT_OVF_READ (R344): Reading FLT_INT_OVF clears it. -/
  | fltIntOvfRead (port : PortId)
  /-- MSR_CAP_OVF_READ (R98): Reading MSR_CAP_OVF clears the selected unit's discard count. -/
  | msrCapOvfRead (port : PortId)
  /-- FLT_INT_DATA3_READ (R344): Reading FLT_INT_DATA3 removes the oldest host fault FIFO entry. -/
  | fltIntData3Read (port : PortId)
  /-- MSR_CAP_DATA3_READ (R99): Reading MSR_CAP_DATA3 removes the selected capture unit's oldest host FIFO entry. -/
  | msrCapData3Read (port : PortId)
  /-- FLT_ERR_CLEAR_WRITE (R346): Writing 1 to bit 0 releases a latched ERR_N, no earlier than 10 µs after it went low. -/
  | fltErrClearWrite (value : Word)
  /-- FLT_NMA_CAUSE_CLEAR (R346): Clearing FLT_NMA_CAUSE releases NMA_N, no earlier than 10 µs after it went low. -/
  | fltNmaCauseClear (mask : Word)
  /-- WM_EVENT_CLEAR (R96): W1C write clearing window-monitor event bits. -/
  | wmEventClear (reg : Nat) (mask : Word)
  /-- BAT_LEVEL_EVENT_CLEAR (R251): W1C write clearing battery warning-level event bits. -/
  | batLevelEventClear (mask : Word)
  /-- HSW_TRIP_EVENT_CLEAR (R283): W1C write clearing channel trip event bits. -/
  | hswTripEventClear (reg : Nat) (mask : Word)
  /-- LEH_DOM_SEL_WRITE (R556): Selects a domain and captures its context as at the last frame boundary. -/
  | lehDomSelWrite (port : PortId) (value : Nat)
  /-- HSW_CH_SEL_WRITE (R556): Selects a channel and captures its live state, timer, codes and cool-down. -/
  | hswChSelWrite (port : PortId) (value : Nat)
  /-- SEQ_RAIL_SEL_WRITE (R556): Selects a rail and captures its state, retry count and next edge. -/
  | seqRailSelWrite (port : PortId) (value : Nat)
  /-- TIE_MARKER_SEL_WRITE (R556): Selects a tie port and captures its last MARKER_DATA. -/
  | tieMarkerSelWrite (port : PortId) (value : Nat)
  /-- PNT_NODE_SEL_WRITE (R556): Selects a cane node and captures its data. -/
  | pntNodeSelWrite (port : PortId) (value : Nat)
  /-- PMB_PORT_SEL_WRITE (R556): Selects a PMBus port and captures its state and counts. -/
  | pmbPortSelWrite (port : PortId) (value : Nat)
  /-- FLT_REACT_SEL_WRITE (R556): Selects a reaction-table entry and captures it as at the last frame boundary. -/
  | fltReactSelWrite (port : PortId) (value : Nat)
  /-- HST_KEY_SEL_WRITE (R556): Selects a key slot and captures its last accepted counter. -/
  | hstKeySelWrite (port : PortId) (value : Nat)
  /-- PEEK_ENTRY_READ (R415): Reading bytes 0–3 of a peek entry captures bytes 4–15 of that entry. -/
  | peekEntryRead (port : PortId) (entry : Nat)
  /-- REGISTER_WRITE (R443): A write to a register or window with no row of its own takes effect at transaction end. -/
  | registerWrite (port : PortId) (addr : Nat) (data : List Byte)
  /-- MGT_WRITE_TRANSACTION (R446): An MGT write sets the pointer and writes data bytes, taking effect at STOP or repeated START. -/
  | mgtWriteTransaction (target : Nat) (bytes : List Byte)
  /-- MGT_READ_TRANSACTION (R446): An MGT read returns bytes from the pointer, stretching SCL as needed. -/
  | mgtReadTransaction (target : Nat) (count : Nat)
  /-- MGT_START_STOP_ABANDON (R450): A START or STOP at any bit position abandons the byte in progress and releases SDA. -/
  | mgtStartStopAbandon (start : Bool) (ackSlot : Bool)
  /-- SDA_RELEASED (R451): After 10 ms of driving SDA low with SCL unchanged the device releases SDA and abandons the transaction. -/
  | sdaReleased
  /-- IN_BAND_REQUEST (R452): After 50 µs of bus idle the device pulses SDA low for 10 µs, repeating every ibr_repeat. -/
  | inBandRequest (cut : Bool)
  /-- FHP_WRITE (R456): An FHP WRITE frame commits its bytes at the rise of FHP_CS_N. -/
  | fhpWrite (addr : Nat) (data : List Byte) (crc : Nat)
  /-- FHP_READ (R455): An FHP READ frame returns wait bytes, the sync byte and data on one lane. -/
  | fhpRead (addr : Nat) (length : Nat) (crc : Nat) (cut : Bool)
  /-- FHP_QUAD_READ (R454): An FHP QUAD_READ frame returns its data on four lanes. -/
  | fhpQuadRead (addr : Nat) (length : Nat) (crc : Nat) (cut : Bool)
  /-- FHP_STATUS (R458): An FHP STATUS frame returns the status byte describing the previous frame. -/
  | fhpStatus
  /-- HOST_NV_WRITE_COMPLETE (R551): A host non-volatile view write completes in MRAM and clears STATUS bit 3. -/
  | hostNvWriteComplete
  /-- SYNC_EDGE_ACCEPTED (R48): A SYNC_IN edge within the acceptance window becomes phase 0 and updates the phase generator. -/
  | syncEdgeAccepted (interval : Nat) (err : Int)
  /-- SYNC_EDGE_EARLY (R48): A SYNC_IN edge earlier than 0.875 Tsw is ignored and counted in glitch_count. -/
  | syncEdgeEarly
  /-- SYNC_EDGE_MISSED (R48): No edge by 1.125 Tsw: the generator produces phase 0 itself and moves toward COASTING or FALLBACK. -/
  | syncEdgeMissed
  /-- SYNC_ACQUIRE_TIMEOUT (R49): ACQUIRING without lock for 1 ms enters FALLBACK at sync_nominal_period. -/
  | syncAcquireTimeout
  /-- TICK_BOUNDARY (R68): After tick_periods periods the tick boundary applies results, samples levels and runs the tick's ordered work. -/
  | tickBoundary (inp : TickInputs)
  /-- FRAME_BOUNDARY (R69): After frame_ticks ticks the frame boundary applies frame results, executes commands and starts the frame engines. -/
  | frameBoundary (inp : FrameInputs)
  /-- FRAME_NUMBER_SAVE (R46): Every 2^20 frames the frame number is written to MRAM. -/
  | frameNumberSave
  /-- TREF_LOSS (R51): TREF shows no edge for 1 µs; chassis time runs unreferenced and TREF_LOSS is raised. -/
  | trefLoss
  /-- TREF_MEASUREMENT_COMPLETE (R51): A 1 ms TREF frequency measurement completes and may declare TREF invalid. -/
  | trefMeasurementComplete (ppm : Int)
  /-- TREF_LOCK (R51): After 64 ms in tolerance TREF becomes valid again and TREF_LOCK is raised. -/
  | trefLock
  /-- PPS_EDGE (R52): A PPS rising edge corrects chassis time against the nearest whole second. -/
  | ppsEdge
  /-- PPS_LOSS (R52): PPS absent for 2 s raises PPS_LOSS and clears pps_ok. -/
  | ppsLoss
  /-- FAST_CONVERSION (R77): A fast converter samples at a scheduled slot-table position and converts in 200 ns. -/
  | fastConversion (conv : Nat) (entry : Nat) (code : Int)
  /-- SLOW_CONVERSION_COMPLETE (R84): A slow conversion completes, its code becomes a sample of the next tick and the next conversion may start. -/
  | slowConversionComplete (conv : Nat) (code : Int)
  /-- WM_COMPARATOR_EDGE (R89): A window-monitor UV or OV comparator changes state on its input crossing a threshold. -/
  | wmComparatorEdge (mon : Nat) (ov : Bool) (asserted : Bool) (timeHalfNs : Nat) (vinMv : Int)
  /-- WM_NARROW_STEP (R95): The narrowing half of a two-threshold monitor change is applied at least 1 µs after the widening half. -/
  | wmNarrowStep (mon : Nat)
  /-- SENSOR_RESTORED (R102): After 256 clean conversions a broken sensor reads again and raises SENSOR_RESTORED. -/
  | sensorRestored (sensor : Nat)
  /-- THERM_SUBWINDOW_END (R104): At the end of each sub-window the die's rise and warn/throttle states are computed. -/
  | thermSubwindowEnd
  /-- OVERTEMP_SHUTDOWN (R106): A die reaching 150 °C performs the fixed hardware shutdown actions. -/
  | overtempShutdown (core : Bool)
  /-- OVERTEMP_RELEASE (R106): A die falling below 135 °C releases the shutdown. -/
  | overtempRelease (core : Bool)
  /-- BLEND_END (R124): The blend weight reaches 64 and the old region is dropped. -/
  | blendEnd (loop : Nat)
  /-- RESIDUAL (R131): A residual persistence counter reaches its persistence, raising RESIDUAL and applying the residual policy. -/
  | residual (loop : Nat) (input : Nat)
  /-- ON_TIME_START (R146): At its offset after phase 0 a switching phase turns its active switch on. -/
  | onTimeStart (phase : Nat)
  /-- BLANKING_END (R146): The leading-edge blanking time ends and the comparators become active. -/
  | blankingEnd (phase : Nat)
  /-- PEAK_COMPARATOR_TRIP (R147): Sense plus slope ramp reaches the peak reference and ends the on-time. -/
  | peakComparatorTrip (trip : PeakTrip)
  /-- CYCLE_LIMIT_TRIP (R148): The energising sense reaches ±cycle_limit, ending the on-time or putting the phase at mid-level. -/
  | cycleLimitTrip (phase : Nat) (senseUv : Int)
  /-- MAX_DUTY_CLAMP (R146): The on-time reaches max_duty and is ended. -/
  | maxDutyClamp (phase : Nat)
  /-- CYCLE_LIMIT (R150): A phase cycle-limited in limit_ticks consecutive ticks raises CYCLE_LIMIT. -/
  | cycleLimit (phase : Nat)
  /-- SHED_START (R167): The shed dwell reaches shed_dwell and the highest-ranked active phase starts shedding. -/
  | shedStart (stage : Nat)
  /-- PHASE_SHED (R167): The shed ramp reaches attenuation 0 and the phase becomes SHED at mid-level. -/
  | phaseShed (stage : Nat)
  /-- PHASE_OPEN (R171): A phase counting open in open_ticks consecutive ticks raises PHASE_OPEN and is masked. -/
  | phaseOpen (phase : Nat)
  /-- PMB_POLL (R433): A PMBus poll falls due through its pace accumulator and is issued. -/
  | pmbPoll (port : Nat)
  /-- PMB_TRANSACTION_COMPLETE (R433): A PMBus transaction completes and its reading is taken in in that frame. -/
  | pmbTransactionComplete (port : Nat) (result : PmbResult)
  /-- PMB_ALERT (R436): PMBn_ALERT_N sampled asserted makes the next transaction an alert-response read and status read. -/
  | pmbAlert (port : Nat)
  /-- PMB_STRETCH_TIMEOUT (R435): SCL held low 25 ms in a transaction abandons it. -/
  | pmbStretchTimeout (port : Nat)
  /-- PMB_BUS_HUNG (R435): SCL or SDA low for 35 ms declares the bus hung and runs recovery. -/
  | pmbBusHung (port : Nat) (freed : Bool)
  /-- PMB_RECOVERY_RETRY (R435): A hung bus is tested again and recovery repeated after 64 frames. -/
  | pmbRecoveryRetry (port : Nat) (freed : Bool)
  /-- RECT_NO_ACK (R183): Eight consecutive unacknowledged transactions return a rectifier to ABSENT. -/
  | rectNoAck (rect : Nat)
  /-- RECT_SILENT (R183): A rectifier's current point age reaches stale_frames and it becomes SILENT. -/
  | rectSilent (rect : Nat)
  /-- RECT_UNPARK_TIMEOUT (R183): An UNPARKING rectifier without POWER_GOOD after 2 × unpark_latency becomes FAULTED. -/
  | rectUnparkTimeout (rect : Nat)
  /-- RECT_SERVING (R183): A HOLDING rectifier within tolerance for 16 fresh frames becomes SERVING. -/
  | rectServing (rect : Nat)
  /-- SHARE_TOL (R186): Share error or trim saturation persisting share_fault_frames raises SHARE_TOL. -/
  | shareTol (rect : Nat)
  /-- RECT_PARK (R189): The park dwell reaches park_dwell and the highest-ranked SERVING rectifier is parked. -/
  | rectPark
  /-- HANDBACK_START (R204): The return condition held for return_frames; L6 leaves DISCHARGE and battery references ramp down. -/
  | handbackStart
  /-- SHED_INTERVAL (R199): At each shed_interval the next entry applies if SHED is still asserted and the bus has not risen. -/
  | shedInterval (vinMv : Int)
  /-- DEMAND_SILENT (R212): A domain without DEMAND for demand_timeout frames becomes HELD. -/
  | demandSilent (dom : Nat)
  /-- GRANT_REFRESH (R218): After grant_lease/4 frames a domain's GRANT is re-sent. -/
  | grantRefresh (dom : Nat)
  /-- STARTUP_GRANT_HOLD_END (R220): After grant_lease frames from the start of logical time the lehr grants increases again. -/
  | startupGrantHoldEnd
  /-- GRANT_OVERDRAW (R222): A domain's overdraw count reaches the compliance deadline and raises GRANT_OVERDRAW. -/
  | grantOverdraw (dom : Nat)
  /-- ENFORCE_START (R222): A slot's overdraw count reaches the deadline and enforcement starts. -/
  | enforceStart (slot : Nat)
  /-- ENFORCE_END (R223): After enforce_release compliant frames enforcement lifts. -/
  | enforceEnd (slot : Nat)
  /-- BG_RESUME (R226): Background work resumes after a whole frame with PFI deasserted. -/
  | bgResume
  /-- RECORDER_HOUSEKEEPING (R224): One recorder pointer or area maintenance step runs. -/
  | recorderHousekeeping
  /-- SRAM_SCRUB_STRIPE (R353): One SRAM stripe is read, corrected, rebuilt or checked. -/
  | sramScrubStripe (upsets : StripeUpsets)
  /-- MRAM_SCRUB_LINE (R356): One 256-byte MRAM line is decoded and written back if corrected. -/
  | mramScrubLine (upsets : LineUpsets)
  /-- BIST_SLICE (R359): One BIST target is saved, tested, compared with its signature and restored. -/
  | bistSlice (first : Bool) (second : Bool)
  /-- POINT_COMPACTION (R224): 1,024 shadow entries are aged and cleared of long-departed nodes. -/
  | pointCompaction
  /-- ZTABLE_WRITE (R247): One queued impedance cell or cycle record is written to MRAM. -/
  | ztableWrite
  /-- INTEGRATION_STEP_CLOSE (R235): A fast or slow integration step closes, updating q_rem, confidence and corrections in order. -/
  | integrationStepClose (string : Nat)
  /-- REST_CORRECTION (R239): The rest timer reaches rest_time and q_rem is set from the open-circuit voltage. -/
  | restCorrection (string : Nat)
  /-- VOLTAGE_CORRECTION (R241): After vc_interval the compensated voltage corrects q_rem and confidence. -/
  | voltageCorrection (string : Nat)
  /-- CHARGE_TERMINATION (R232): Termination current persists term_frames and the string moves from CV to FLOAT. -/
  | chargeTermination (string : Nat)
  /-- CHARGE_TIMEOUT (R232): cv_timeout frames in CV move the string to FLOAT without anchor. -/
  | chargeTimeout (string : Nat)
  /-- INHIBIT_CLEAR (R232): Inhibiting conditions absent 64 frames return the string to CC. -/
  | inhibitClear (string : Nat)
  /-- EOD_REACHED (R243): The end-of-discharge test holds eod_frames and the string enters END. -/
  | eodReached (string : Nat)
  /-- END_CLEAR (R244): 64 frames in CHARGE above v_avg_eod + 100 mV clear END. -/
  | endClear (string : Nat)
  /-- IMPEDANCE_UPDATE (R246): After z_settle a module's voltage step updates its impedance cell. -/
  | impedanceUpdate (module : Nat)
  /-- CYCLE_RECORD_QUEUE (R248): Every 65,536 frames a string's cycle record is queued. -/
  | cycleRecordQueue (string : Nat)
  /-- MODULE_SILENT (R230): A module's points reach 4 × module_poll age and MODULE_SILENT is raised. -/
  | moduleSilent (module : Nat)
  /-- CURRENT_LIMIT_ENGAGE (R260): Sense voltage reaches the effective code and the limit amplifier regulates the gate. -/
  | currentLimitEngage (m : ChanMoment)
  /-- TIMER_TRIP (R262): The fault timer reaches timer_us; the channel latches off and PG_Snn deasserts. -/
  | timerTrip (m : ChanMoment)
  /-- GATE_PULLDOWN_DELAY (R262): 1.0–1.2 µs after a timer trip or orderly turn-off the fast pull-down begins. -/
  | gatePulldownDelay (chan : Nat)
  /-- BREAKER_TRIP (R263): Sense voltage at twice the limit starts the fast pull-down and latches off. -/
  | breakerTrip (chan : Nat)
  /-- SEAT_DEBOUNCE_COMPLETE (R266): A seat held for seat_db_frames starts the slot, pends it, or disables it. -/
  | seatDebounceComplete (slot : Nat)
  /-- COOL_DOWN_END (R270): Cool-down ends and any pending start takes effect. -/
  | coolDownEnd (chan : Nat)
  /-- GATE_STUCK (R272): The gate fails to reach 8 V within gate_rise_ms and the channel becomes FAILED. -/
  | gateStuck (chan : Nat)
  /-- FET_SHORT (R273): Current or output with the gate held off detects a shorted pass transistor. -/
  | fetShort (chan : Nat)
  /-- KEEPER_INSERT_DELAY_END (R274): VIN_HV in window for insert_frames starts a keeper channel. -/
  | keeperInsertDelayEnd (keeper : Nat)
  /-- KEEPER_VIN_OV (R274): VIN_HV above vin_ov opens the keeper channel without latching. -/
  | keeperVinOv (keeper : Nat)
  /-- EW_ASSERT (R275): VIN_HV below ew_level asserts EW_Kn. -/
  | ewAssert (keeper : Nat)
  /-- RAIL_EDGE (R290): At its placed boundary a LOCAL rail's EN changes or a REMOTE GROUP_ORDER is sent. -/
  | railEdge (rail : Nat)
  /-- RISE_TIMEOUT (R291): A rail unconfirmed at its rise deadline fails and the group falls latching. -/
  | riseTimeout (rail : Nat)
  /-- FALL_TIMEOUT (R292): A rail unconfirmed at its fall deadline is a secondary failure. -/
  | fallTimeout (rail : Nat)
  /-- RAIL_UV (R293): UV at glitch_ticks consecutive boundaries is a running fault. -/
  | railUv (rail : Nat)
  /-- RAIL_OV (R293): OV at glitch_ticks consecutive boundaries is a running fault. -/
  | railOv (rail : Nat)
  /-- RETRY_CLEAR (R294): A rail in window for retry_clear frames returns its retry count to 0. -/
  | retryClear (rail : Nat)
  /-- SEQF_SEEN (R288): SEQF_N sampled low at seqf_ticks boundaries falls cooperating groups latching. -/
  | seqfSeen
  /-- MIN_OFF_END (R291): A RESTING group's min_off ends and it goes OFF or LATCHED. -/
  | minOffEnd (group : Nat)
  /-- GROUP_UNFREEZE (R291): After a whole frame with PFI deasserted a FROZEN group falls. -/
  | groupUnfreeze (group : Nat)
  /-- FLUSH_COMPLETE (R313): The last write of a flush cut completes. -/
  | flushComplete
  /-- SEALED_SESSION_EXPIRY (R320): A sealed session ends at lease expiry. -/
  | sealedSessionExpiry (port : PortId)
  /-- FREEZE_LAPSED (R323): A freeze lapses after freeze_frames and the THAW mark is committed. -/
  | freezeLapsed (log : Nat)
  /-- PFI_ASSERT (R324): PFI first sampled asserted commits staging, adds a PFI mark and starts the power-fail flush. -/
  | pfiAssert
  /-- POWER_FAIL_FLUSH_COMPLETE (R324): The power-fail flush writes, pointer copies and frame number complete. -/
  | powerFailFlushComplete
  /-- FLIGHT_POST_END (R328): post_frames after the trigger the ring stops and the copy starts. -/
  | flightPostEnd
  /-- FLIGHT_COPY_COMPLETE (R328): The flight copy completes; the ring resumes and FLIGHT_FROZEN is raised. -/
  | flightCopyComplete
  /-- FAULT_MESSAGE (R337): A block's fault message arrives at the collector queue. -/
  | faultMessage (index : Nat)
  /-- FAULT_DISPATCH (R341): The collector dispatches the oldest message with its reaction-table entry. -/
  | faultDispatch
  /-- CHIP_RESET (R341): A CHIP_RESET reaction resets the core die after any running flush. -/
  | chipReset
  /-- ERR_PULSE_END (R346): ERR_N in PULSE mode releases after err_pulse_us. -/
  | errPulseEnd
  /-- ALERT_PIN_MIN_LOW_END (R346): NMA_N or latched ERR_N releases after its 10 µs minimum once cleared. -/
  | alertPinMinLowEnd (err : Bool)
  /-- BYPASS (R365): TAP BYPASS instruction. -/
  | bypass
  /-- SAMPLE_PRELOAD (R365): TAP SAMPLE/PRELOAD instruction. -/
  | samplePreload (preload : List Bool)
  /-- EXTEST (R366): TAP EXTEST instruction; logic pins follow the boundary register. -/
  | extest
  /-- IDCODE (R365): TAP IDCODE instruction returning revision, part and manufacturer. -/
  | idcode
  /-- CLAMP (R366): TAP CLAMP instruction. -/
  | clamp
  /-- HIGHZ (R366): TAP HIGHZ instruction. -/
  | highz
  /-- INT_SCAN (R365): Internal scan instruction, permitted only in BLANK and RETURNED. -/
  | intScan
  /-- INT_MBIST (R365): Internal memory BIST instruction, permitted only in BLANK and RETURNED. -/
  | intMbist
  /-- INT_MEMACC (R365): Internal memory access instruction, permitted only in BLANK and RETURNED. -/
  | intMemacc
  /-- HOLD_N_PULSE (R373): HOLD_N seen low for one to three boundaries then high counts as a holder pulse. -/
  | holdNPulse
  /-- PEER_LIVE_TIMEOUT (R372): No HOLD_N pulse for 64 ms clears peer_live. -/
  | peerLiveTimeout
  /-- PEER_ACK (R374): A PEER ACK acknowledges a sent frame. -/
  | peerAck (seq : Nat)
  /-- PEER_HELLO (R376): A PEER HELLO aligns frame numbers or raises PEER_MISMATCH. -/
  | peerHello (p : PeerHdr) (pairOrd : Bool) (digest : List Byte) (frame : Nat) (role : Punty)
  /-- PEER_RENEW (R376): A RENEW aligns the standby or makes a lower-epoch holder yield. -/
  | peerRenew (p : PeerHdr) (frame : Nat) (lease : Nat)
  /-- PEER_MIRROR (R382): A MIRROR slice is taken into the standby's mirror staging. -/
  | peerMirror (p : PeerHdr) (slice : Nat) (data : List Byte)
  /-- PEER_MIRROR_END (R382): A verified MIRROR_END applies the frame's slices to the active copy. -/
  | peerMirrorEnd (p : PeerHdr) (frame : Nat) (count : Nat) (crc : Nat)
  /-- PEER_COUNTER (R384): The standby takes a key counter and answers COUNTER_ACK. -/
  | peerCounter (p : PeerHdr) (slot : Nat) (counter : Nat)
  /-- PEER_COUNTER_ACK (R384): The holder may accept the MAC command whose counter was acknowledged. -/
  | peerCounterAck (p : PeerHdr) (slot : Nat) (counter : Nat)
  /-- PEER_FORWARD (R387): The holder verifies a forwarded command block as a PEER command. -/
  | peerForward (p : PeerHdr) (mbox : Nat) (block : List Byte)
  /-- PEER_FORWARD_REPLY (R387): The standby places a forwarded reply in its port's reply window. -/
  | peerForwardReply (p : PeerHdr) (mbox : Nat) (reply : List Byte)
  /-- PEER_GUARD (R381): The holder latches the guarded channel TRIPPED and answers GUARD_ACK. -/
  | peerGuard (p : PeerHdr) (chan : Nat)
  /-- PEER_GUARD_ACK (R381): The standby releases its guard pull-down at the next frame boundary. -/
  | peerGuardAck (p : PeerHdr) (chan : Nat)
  /-- PEER_YIELD (R377): A YIELD makes an uninhibited standby claim. -/
  | peerYield (p : PeerHdr) (reason : Nat)
  /-- PEER_CRC_DISCARD (R374): A PEER frame failing CRC is discarded without ACK. -/
  | peerCrcDiscard
  /-- PEER_RETRANSMIT (R374): An unacknowledged PEER frame is repeated, and after three repeats the link restarts. -/
  | peerRetransmit
  /-- RENEW_SEND (R374): The holder sends RENEW at least every lease/4 frames. -/
  | renewSend
  /-- HOLD_SILENT (R375): HOLD_N silent for lease frames while PEER is live. -/
  | holdSilent
  /-- PEER_SILENT (R375): PEER silent for lease frames while HOLD_N is live. -/
  | peerSilent
  /-- PUNTY_CLAIM (R377): The silence count reaches its limit and the device begins a claim. -/
  | puntyClaim (gates : BitVec 64) (ens : BitVec 32)
  /-- CLAIM_DRIVE (R378): At tick 8 of the claim frame the claimant drives gates and mid-level PWM. -/
  | claimDrive
  /-- DISPLACED (R379): HOLD_N low 3 ticks not by this device displaces its power die to standby pins. -/
  | displaced
  /-- GUARD_TRIP (R381): The standby's guard breaker pulls a gate down and sends GUARD. -/
  | guardTrip (chan : Nat)
  /-- IRLER_ACK (R395): An Irler ACK acknowledges a sent message. -/
  | irlerAck (port : Nat) (ident : Nat)
  /-- IRLER_HELLO (R400): A HELLO links the port or reveals an ordinal clash. -/
  | irlerHello (port : Nat) (ident : Nat) (ordinal : Nat) (flags : Byte) (role : Nat) (agreed : Nat) (lease : Nat)
  /-- IRLER_REQUEST (R401): A REQUEST is answered by OFFER or REFUSE under the offer test. -/
  | irlerRequest (port : Nat) (ident : Nat) (swap : Bool) (power : Nat) (bus : Nat)
  /-- IRLER_OFFER (R400): An OFFER moves a requesting port to MATCHING with ACCEPT. -/
  | irlerOffer (port : Nat) (ident : Nat) (power : Nat) (lease : Nat) (bus : Nat)
  /-- IRLER_ACCEPT (R403): An ACCEPT moves the offering port to PRECHARGE. -/
  | irlerAccept (port : Nat) (ident : Nat) (power : Nat) (bus : Nat)
  /-- IRLER_REFUSE (R400): A REFUSE returns the requester to IDLE. -/
  | irlerRefuse (port : Nat) (ident : Nat) (reason : Nat)
  /-- IRLER_COLLISION (R405): A COLLISION returns the port to its previous state. -/
  | irlerCollision (port : Nat) (ident : Nat) (winner : Nat)
  /-- IRLER_MATCH (R403): A MATCH updates the precharge follower's cable target. -/
  | irlerMatch (port : Nat) (ident : Nat) (bus : Nat)
  /-- IRLER_CLOSED (R403): A CLOSED releases the follower and the supplier goes CLOSED. -/
  | irlerClosed (port : Nat) (ident : Nat) (power : Nat)
  /-- IRLER_RENEW (R406): A RENEW keeps a closed tie's lease. -/
  | irlerRenew (port : Nat) (ident : Nat) (power : Nat) (lease : Nat)
  /-- IRLER_RELEASE (R406): A RELEASE opens the channel at the far end. -/
  | irlerRelease (port : Nat) (ident : Nat) (reason : Nat)
  /-- IRLER_MARKER_DATA (R398): MARKER_DATA updates the cable rating and temperature. -/
  | irlerMarkerData (port : Nat) (ident : Nat) (rated : Nat) (length : Nat) (temp : Int) (identity : Nat)
  /-- IRLER_CRC (R393): A bad Irler message is discarded without ACK. -/
  | irlerCrc (port : Nat)
  /-- IRLER_RETRANSMIT (R395): No ACK in 800 µs repeats the message, abandoning after three. -/
  | irlerRetransmit (port : Nat)
  /-- IRLER_LINE_COLLISION (R396): A transmitter sampling the line low stops at once. -/
  | irlerLineCollision (port : Nat)
  /-- IRLER_BACKOFF_END (R396): The ordinal-dependent idle wait ends and the message is sent again. -/
  | irlerBackoffEnd (port : Nat)
  /-- IRLER_SEND_START (R395): After 450 µs of idle a queued message starts. -/
  | irlerSendStart (port : Nat)
  /-- OFFER_TIMEOUT (R400): No answer within offer_frames returns the port to IDLE. -/
  | offerTimeout (port : Nat)
  /-- TIE_MATCH_FAIL (R400): match_frames without CLOSED opens the channel and sends RELEASE. -/
  | tieMatchFail (port : Nat)
  /-- FAR_END_SILENT (R399): Nothing from the far end for silence_frames moves the port to SILENT or LINKING. -/
  | farEndSilent (port : Nat)
  /-- TIE_LEASE_EXPIRY (R406): Nothing from the far end for tie_lease releases the tie with reason 9. -/
  | tieLeaseExpiry (port : Nat)
  /-- TIE_RENEW_SEND (R406): A closed tie sends RENEW every tie_lease/4 frames. -/
  | tieRenewSend (port : Nat)
  /-- RELEASE_DEADLINE (R406): After the compliance deadline the requesting end opens and sends RELEASE. -/
  | releaseDeadline (port : Nat)
  /-- MARKER_READ_INTERVAL (R398): Every marker_frames the port reads the cable marker. -/
  | markerReadInterval (port : Nat)
  /-- RESUME_WINDOW_EXPIRY (R408): No matching HELLO within resume_frames opens the adopted tie. -/
  | resumeWindowExpiry (port : Nat)
  /-- CANE_LINK_UP (R418): 64 clean K28.5 bring a cane link UP. -/
  | caneLinkUp (port : Nat)
  /-- CANE_LINK_DOWN (R418): Code errors or 100 µs without K28.5 take the link DOWN and lose its nodes. -/
  | caneLinkDown (port : Nat)
  /-- CANE_ACK (R421): A cane ACK acknowledges frames up to its sequence. -/
  | caneAck (node : Nat) (seq : Nat)
  /-- CANE_POINT_UPDATE (R414): A POINT_UPDATE writes samples of the node's points in its intake frame. -/
  | canePointUpdate (node : Nat) (seq : Nat) (entries : List (Nat × Byte × Int))
  /-- CANE_DEMAND (R211): A DEMAND writes domain requests for the next frame. -/
  | caneDemand (node : Nat) (seq : Nat) (entries : List (Nat × Nat))
  /-- CANE_FAULT_NOTE (R427): A FAULT_NOTE writes the node's fault code, context and count points. -/
  | caneFaultNote (node : Nat) (seq : Nat) (code : Nat) (context : Int)
  /-- CANE_NODE_INFO (R425): A NODE_INFO report joins, rejects or marks a restart of a node. -/
  | caneNodeInfo (port : Nat) (hop : Nat) (node : Nat) (ident : List Byte) (domains : Nat) (highest : Nat)
  /-- CANE_CRC (R419): A faulty cane frame is discarded without ACK. -/
  | caneCrc (port : Nat)
  /-- CANE_RETRANSMIT (R422): After 200 µs unacknowledged frames are resent in order. -/
  | caneRetransmit (node : Nat)
  /-- NODE_QUERY (R425): Every 64 frames a port short of nodes broadcasts a NODE_INFO query. -/
  | nodeQuery (port : Nat)
  /-- NODE_LOST (R425): A node silent for node_timeout frames is lost. -/
  | nodeLost (node : Nat)
  /-- ACTIVATION_VERIFY_COMPLETE (R493): Verification of the staged image completes, passing to the load or failing. -/
  | activationVerifyComplete
  /-- ACTIVATION_LOAD_COMPLETE (R493): Tables are loaded into a shadow and derived values computed. -/
  | activationLoadComplete
  /-- COMMIT_MARKER_WRITTEN (R493): The commit marker naming the staging slot is written. -/
  | commitMarkerWritten
  /-- ACTIVATION_SWITCH (R494): At the first boundary in NORMAL the four-frame service pause begins. -/
  | activationSwitch
  /-- ACTIVATION_PAUSE_END (R494): The pause ends; new tables live, ACTIVATE mark, floor advanced. -/
  | activationPauseEnd
  /-- ACTIVATION_DONE (R493): The journal is cleared, the reply written and ACTIVATION_DONE raised. -/
  | activationDone
  /-- WARMER_PERIOD (R502): Each 1 ms the warmer samples, filters its inputs, forms terms and applies its rules. -/
  | warmerPeriod (inp : WarmInputs)
  /-- CORE_RELEASE (R505): With WAKE and supplies in range for supply_settle_ms the core die is released. -/
  | coreRelease
  /-- SUPPLY_OUT_OF_RANGE (R508): A supply out of range 10 µs holds the core in reset and drops PWR_REQ. -/
  | supplyOutOfRange (supply : Nat)
  /-- SUPPLY_SETTLE_TIMEOUT (R508): Supplies not settled by supply_timeout_ms record SUPPLY_RANGE and retry. -/
  | supplySettleTimeout
  /-- OFF_MIN_END (R508): After off_min_ms the warmer applies its rules again. -/
  | offMinEnd
  /-- POWER_ON_COLD (R514): VWARM rising into range resets everything. -/
  | powerOnCold
  /-- POWER_ON (R514): Core supplies starting with VWARM in range give a power-on reset. -/
  | powerOn
  /-- PIN_RESET (R514): RST_N low resets the core die. -/
  | pinReset
  /-- BOOT (R509): From release of the core reset the boot runs its steps to logical time start. -/
  | boot (inp : BootInputs)
  /-- DIE_LINK_WORD_SEND (R17): The core die sends a link word at least every 8 µs. -/
  | dieLinkWordSend
  /-- CORE_DIE_ABSENT (R17): No valid link word for 32 µs; the power die holds gates and mid-level PWM. -/
  | coreDieAbsent
  /-- DIE_LINK_LOSS (R17): The core die returns after absence and DIE_LINK_LOSS is raised. -/
  | dieLinkLoss
  /-- DIE_LINK_ERROR (R16): An invalid word on the die-to-die link raises DIE_LINK_ERROR. -/
  | dieLinkError (core : Bool)
  /-- FREE_RUN_PHASE_ZERO (R49): In FALLBACK or SLEWING the phase generator produces phase 0 itself from the fallback oscillator at the held period, shifted by slew steps. -/
  | freeRunPhaseZero
  /-- SYNC_OUT_EDGE (R155): SYNC_OUT rises at sync_out_offset × Tsw / 256 after each phase 0 and falls half a period later. -/
  | syncOutEdge (rise : Bool)
  /-- CURRENT_LIMIT_RELEASE (R261): The sense voltage falls below the effective code, the limit becomes inactive and the fault timer starts to fall at one eighth rate. -/
  | currentLimitRelease (m : ChanMoment)
  /-- PULL_COUNTED_AS_TOGGLE (R266): A TRIPPED slot's seat absent for the debounce counts as a toggle, clears any pending start and makes the channel EMPTY. -/
  | pullCountedAsToggle (slot : Nat)
  /-- SUPPLY_IN_RANGE (R508): A board supply enters its range, starting its settle time and, for VDD_IO2 after a power-on reset, the EN drive that peer_live sets. -/
  | supplyInRange (supply : Nat)
  /-- LOOP_EVALUATION_COMPLETE (R70): The tick's last tick-paced evaluation completes, slack is measured, and a late result waits for the next boundary. -/
  | loopEvaluationComplete (loop : Nat) (slack : Int) (times : List Nat)
  /-- FRAME_WORK_COMPLETE (R75): A frame engine's work for a frame completes, on time or late, and its results wait for the next frame boundary. -/
  | frameWorkComplete (engine : Engine)
  /-- FHP_INVALID_FRAME (R454): An FHP frame with an instruction that Table 16.3 does not list has no effect and sets the error bit. -/
  | fhpInvalidFrame
deriving DecidableEq, Repr

end Sys2Proof
end

