-- ==== Sys2Proof/Decode.lean ====
section
/-! DEFINITION. Commands spelled by a word: the table of operations gives no row any bits, so no word spells a command. The
bytes of the command catalogue are in Machine/Operands.lean. -/
namespace Sys2Proof

/-- The command that a word spells by the table's bits: none, since no row has bits. -/
def decodeTableWord (_nbits _w : Nat) : Option Instr := none

end Sys2Proof
end

