-- ==== Sys2Proof/Config/Batch.lean ====
section
/-! DEFINITION. The tables of a batch image, as the owning chapters give them (Table 18.2). A default is the value
of the spec's Default column, which Swiulo writes where the integrator states none (R565); where the spec gives none it is 0. -/
namespace Sys2Proof

/-- One fast slot-table entry (Table 3.1). -/
structure FastSlot where
  /-- entry active -/
  enable : Bool := false
  /-- sampling instant in 1/256 period from phase 0 -/
  position : Nat := 0
  /-- input 0 to 3 of the converter -/
  channel : Nat := 0
  /-- periods of the tick in which it converts -/
  periodMask : BitVec 8 := 0
deriving DecidableEq, Repr, Inhabited

/-- Settings of one fast channel (R566). -/
structure FastCfg where
  /-- MEAN rule, else LAST -/
  mean : Bool := true
  /-- point units per LSB with 16 fraction bits -/
  gain : Int := 65536
  /-- LSB -/
  offset : Int := 0
  /-- point type code of Table 3.2 -/
  typ : Nat := 0
deriving DecidableEq, Repr, Inhabited

/-- Settings of one slow channel (R566). -/
structure SlowCfg where
  /-- point units per LSB with 16 fraction bits -/
  gain : Int := 65536
  /-- LSB -/
  offset : Int := 0
  /-- point type code of Table 3.2 -/
  typ : Nat := 0
deriving DecidableEq, Repr, Inhabited

/-- Protective roles of Table 3.3. -/
inductive MonRole
  | none
  | stageOv (s : Nat)
  | stepDet (s : Nat)
  | holdTrip
  | shed
  | acOk (r : Nat)
  | tiePresence (p : Nat)
  | rail (i : Nat)
deriving DecidableEq, Repr, Inhabited

/-- One window monitor as the batch configures it (R89, R93, R94, R567). -/
structure MonCfg where
  /-- monitor in use -/
  enable : Bool := true
  /-- protective role -/
  role : MonRole := .none
  /-- lower threshold code -/
  lower : Nat := 0
  /-- upper threshold code -/
  upper : Nat := 0
  /-- hysteresis, mV -/
  hyst : Nat := 0
  /-- UV routing -/
  uvRoute : Route := {}
  /-- OV routing -/
  ovRoute : Route := {}
  /-- bus divider the batch declares: bus mV = pin mV x divNum / divDen -/
  divNum : Nat := 1
  /-- bus divider, denominator -/
  divDen : Nat := 1
deriving DecidableEq, Repr, Inhabited

/-- Input source types of Table 4.2. -/
inductive Src
  | fast (c : Nat)
  | slow (c : Nat)
  | point (p : Nat)
  | loopOut (l k : Nat)
  | stageRef (s : Nat)
  | const (v : Int)
deriving DecidableEq, Repr, Inhabited

/-- Corrections of one remote diode (R100); the spec gives neither their widths nor their units. -/
structure DiodeCfg where
  /-- ideality correction -/
  ideality : Int := 0
  /-- series-resistance correction -/
  series : Int := 0
deriving DecidableEq, Repr, Inhabited

/-- One input-map entry with its scale and shift (R113). -/
structure SrcEntry where
  /-- source -/
  src : Src := .const 0
  /-- scale -/
  scale : Int := 1073741824
  /-- shift -/
  shift : Nat := 30
deriving DecidableEq, Repr, Inhabited

/-- Destinations of loop outputs (R115, R153). -/
inductive Dest
  | peakRef
  | slope
  | voltRef (s : Nat)
  | curRef (s : Nat)
deriving DecidableEq, Repr, Inhabited

/-- One loop output (R115, R130). -/
structure OutCfg where
  /-- destination -/
  dest : Dest := .peakRef
  /-- destination units per 1.0 -/
  base : Int := 0
  /-- safe value in destination units -/
  safe : Int := 0
  /-- track scale -/
  trackScale : Int := 0
  /-- track shift -/
  trackShift : Nat := 0
deriving DecidableEq, Repr, Inhabited

/-- The scheduling grid of one loop in one mode (R121, R124). -/
structure Grid where
  /-- scheduling variable a -/
  sa : SrcEntry := {}
  /-- scheduling variable b -/
  sb : SrcEntry := {}
  /-- boundaries and half-widths of axis a -/
  axisA : List (Int × Int) := []
  /-- boundaries and half-widths of axis b -/
  axisB : List (Int × Int) := []
  /-- blend length -/
  blendTicks : Nat := 0
deriving DecidableEq, Repr, Inhabited

/-- Residual policies of R132. -/
inductive DegPolicy
  | flag
  | stop
  | degraded (k : Nat)
deriving DecidableEq, Repr, Inhabited

/-- One loop (R109, R120, R132). -/
structure LoopCfg where
  /-- loop in use -/
  present : Bool := false
  /-- states -/
  n : Nat := 1
  /-- inputs -/
  m : Nat := 1
  /-- outputs -/
  p : Nat := 1
  /-- input map -/
  inputs : List SrcEntry := []
  /-- reference of each output -/
  refs : List SrcEntry := []
  /-- outputs -/
  outs : List OutCfg := []
  /-- grid per mode -/
  grids : Tab Grid := []
  /-- cells of set 5 x mode + set; 16 region record indices, 0xFFFF unused -/
  sets : Tab (List Nat) := []
  /-- inputs that a set excludes -/
  excludes : Tab (BitVec 8) := []
  /-- policy at 8 x set + input -/
  degrade : Tab DegPolicy := []
  /-- mode of L7 -/
  constMode : Mode := .charge
deriving DecidableEq, Repr, Inhabited

/-- One region record (Table 4.3); matrices row-major at full size. -/
structure Region where
  /-- states -/
  n : Nat := 0
  /-- inputs -/
  m : Nat := 0
  /-- outputs -/
  p : Nat := 0
  /-- mode -/
  mode : Nat := 0
  /-- set -/
  rset : Nat := 0
  /-- record tag -/
  tag : Nat := 0
  /-- A, 12 x 12 -/
  a : List Int := []
  /-- B, 12 x 4 -/
  b : List Int := []
  /-- C, 8 x 12 -/
  c : List Int := []
  /-- K, 4 x 12 -/
  k : List Int := []
  /-- L, 12 x 8 -/
  l : List Int := []
  /-- N, diagonal -/
  nn : List Int := []
  /-- M, state basis -/
  mb : List Int := []
  /-- inverse of M -/
  mi : List Int := []
  /-- lower output limits -/
  uMin : List Int := []
  /-- upper output limits -/
  uMax : List Int := []
  /-- slew per tick, 0 unlimited -/
  slew : List Int := []
  /-- residual thresholds -/
  thr : List Int := []
  /-- residual persistence -/
  pers : List Nat := []
deriving DecidableEq, Repr, Inhabited

/-- One stage (Table 5.3). -/
structure StageCfg where
  /-- 0 BUCK, 1 BOOST, 2 BIDIR -/
  topology : Nat := 0
  /-- bit per mode -/
  modesAllowed : BitVec 4 := 0
  /-- default mode -/
  defaultMode : Mode := .idle
  /-- enters RUNNING at activation and end of boot -/
  autoStart : Bool := false
  /-- member of hold-up -/
  battery : Bool := false
  /-- string of a battery stage -/
  string : Nat := 0
  /-- micro-ohm -/
  rSense : Nat := 0
  /-- slope code -/
  slope : Nat := 0
  /-- blanking code -/
  blank : Nat := 0
  /-- clamp in 1/256 Tsw -/
  maxDuty : Nat := 0
  /-- 0.1 mV per step -/
  cycleLimit : Nat := 0
  /-- mA per phase -/
  peakMax : Int := 0
  /-- mV -/
  vMin : Int := 0
  /-- mV -/
  vMax : Int := 0
  /-- mV -/
  vInit : Int := 0
  /-- mA -/
  iInit : Int := 0
  /-- mA -/
  iChgMax : Int := 0
  /-- mA -/
  iDisMax : Int := 0
  /-- uV per us -/
  vSlew : Int := 0
  /-- uA per us -/
  iSlew : Int := 0
  /-- shedding enabled -/
  shedEn : Bool := false
  /-- fewest active phases -/
  minPhases : Nat := 1
  /-- mA -/
  shedLevel : Int := 0
  /-- mA -/
  addLevel : Int := 0
  /-- ticks -/
  shedDwell : Nat := 1
  /-- ticks -/
  shedRamp : Nat := 1
  /-- re-spread offsets -/
  autoSpread : Bool := false
  /-- mA per phase -/
  openRef : Int := 0
  /-- mA -/
  openLevel : Int := 0
  /-- ticks -/
  openTicks : Nat := 1
  /-- ticks -/
  limitTicks : Nat := 1
  /-- mW -/
  phaseRating : Int := 0
  /-- point of stage voltage -/
  vSrc : Nat := 0
  /-- point of stage current -/
  iSrc : Nat := 0
  /-- point of stage temperature -/
  tSrc : Nat := 0
deriving DecidableEq, Repr, Inhabited

/-- One phase (Table 5.4). -/
structure PhaseCfg where
  /-- stage, 7 unassigned -/
  stage : Nat := 7
  /-- on-time start in 1/256 Tsw -/
  offset : Nat := 0
  /-- shed rank -/
  shedRank : Nat := 0
  /-- invert the sense signal -/
  polarity : Bool := false
  /-- fast channel of the phase current, 63 none -/
  phaseChan : Nat := 63
  /-- index in the stage loop's inputs, 15 none -/
  loopInput : Nat := 15
deriving DecidableEq, Repr, Inhabited

/-- One rectifier (Table 6.1). -/
structure RectCfg where
  /-- entry in use -/
  present : Bool := false
  /-- PMBus port -/
  port : Nat := 0
  /-- 7-bit address -/
  address : Nat := 0
  /-- shelf -/
  shelf : Nat := 0
  /-- input feed -/
  feed : Nat := 0
  /-- mW -/
  rating : Int := 0
  /-- mA -/
  ratedMa : Int := 0
  /-- uV -/
  trimMin : Int := 0
  /-- uV -/
  trimMax : Int := 0
  /-- park rank -/
  parkRank : Nat := 0
  /-- ms -/
  unparkMs : Nat := 0
  /-- returns without a command -/
  autoReturn : Bool := false
deriving DecidableEq, Repr, Inhabited

/-- Marver settings (Table 6.2). -/
structure MarverCfg where
  /-- READ_IOUT rate -/
  pollHz : Nat := 500
  /-- STATUS_WORD interval -/
  statusFrames : Nat := 64
  /-- age at which a rectifier is silent -/
  staleFrames : Nat := 64
  /-- proportional gain -/
  kp : Int := 256
  /-- integral gain -/
  ki : Int := 32
  /-- ppm -/
  shareTol : Int := 20000
  /-- frames -/
  shareFaultFrames : Nat := 1024
  /-- ppm per frame -/
  rampPpm : Int := 10000
  /-- uV per frame -/
  baseRate : Int := 10000
  /-- reserve rule NN, else N1 -/
  nn : Bool := false
  /-- automatic parking -/
  parkEn : Bool := false
  /-- fewest rectifiers left -/
  parkMin : Nat := 2
  /-- frames -/
  parkDwell : Nat := 4096
  /-- ppm -/
  parkMargin : Int := 100000
  /-- mW per ms -/
  loadRise : Int := 10000
  /-- OPERATION byte that parks -/
  parkOperation : Nat := 0x40
deriving DecidableEq, Repr, Inhabited

/-- Hold-up and shed settings. -/
structure HoldCfg where
  /-- holdup_setpoint, mV -/
  setpoint : Int := 0
  /-- entries of the shed order -/
  shedEntries : Nat := 1
  /-- us -/
  shedIntervalUs : Nat := 20
  /-- mV -/
  shedRise : Int := 10
  /-- frames -/
  shedClearFrames : Nat := 64
  /-- mW -/
  shedReleaseMargin : Int := 0
  /-- toggle a slot that tripped under its shed limit -/
  shedRestart : Bool := true
  /-- ppm -/
  returnMargin : Int := 100000
  /-- frames -/
  returnFrames : Nat := 1024
  /-- mA per frame -/
  handbackRate : Int := 100
deriving DecidableEq, Repr, Inhabited

/-- Lehr settings (Table 7.2). -/
structure LehrCfg where
  /-- 0.01 degC -/
  tKnee : Int := 5000
  /-- ppm per 0.01 degC -/
  tSlope : Int := 200
  /-- mV -/
  vinKnee : Int := 180000
  /-- ppm per V -/
  vSlope : Int := 10000
  /-- derate_missing_ppm -/
  missing : Int := 500000
  /-- mW -/
  battAllow : Int := 0
  /-- mW -/
  shelfLoss : Int := 0
  /-- ppm -/
  lossPpm : Int := 10000
  /-- mW -/
  heatCap : Int := 0
  /-- frames -/
  grantLease : Nat := 64
  /-- frames -/
  compDeadline : Nat := 8
  /-- frames -/
  holdupDeadline : Nat := 4
  /-- ppm -/
  compTolPpm : Int := 20000
  /-- mW -/
  compTolMw : Int := 50000
  /-- frames -/
  enforceRelease : Nat := 64
  /-- frames -/
  demandTimeout : Nat := 256
  /-- mW -/
  restoreMargin : Int := 500000
deriving DecidableEq, Repr, Inhabited

/-- The batch part of a domain context (Table 7.3). -/
structure DomCfg where
  /-- entry in use -/
  present : Bool := false
  /-- slot that feeds it -/
  slot : Nat := 0
  /-- cane node -/
  node : Nat := 0
  /-- node-local number -/
  number : Nat := 0
  /-- class -/
  essential : Bool := false
  /-- priority -/
  priority : Nat := 0
  /-- mW -/
  floor : Int := 0
  /-- mW -/
  ceiling : Int := 0
  /-- weight -/
  weight : Nat := 1
  /-- draw report, 0 none -/
  drawPt : Nat := 0
deriving DecidableEq, Repr, Inhabited

/-- One warning level (Table 8.5). -/
structure Level where
  /-- hold-up seconds, else soc_cap -/
  seconds : Bool := false
  /-- value -/
  value : Int := 0
  /-- hysteresis -/
  hyst : Int := 0
deriving DecidableEq, Repr, Inhabited

/-- One string (Table 8.1). -/
structure StringCfg where
  /-- entry in use -/
  present : Bool := false
  /-- current point -/
  iPt : Nat := 0
  /-- voltage point -/
  vPt : Nat := 0
  /-- cells in series -/
  cells : Nat := 1
  /-- design capacity -/
  designMah : Nat := 1
  /-- ppm -/
  etaChg : Int := 990000
  /-- 16 open-circuit voltages, mV -/
  ocv : List Int := []
  /-- ppm of C -/
  fastFrac : Int := 20000
  /-- mW -/
  disPowerMax : Int := 0
  /-- mW -/
  disFloor : Int := 0
  /-- ppm -/
  socTaper : Int := 100000
  /-- mV -/
  vCellEod : Int := 3000
  /-- mV -/
  vAvgEod : Int := 3100
  /-- frames -/
  eodFrames : Nat := 4
  /-- micro-ohm -/
  zWiring : Int := 0
  /-- 16 x 8 impedances -/
  zDefault : List Int := []
  /-- charge controller in control -/
  chargeAuto : Bool := true
  /-- mA -/
  iChgSet : Int := 0
  /-- mV -/
  vCellChg : Int := 0
  /-- mV -/
  vCellFloat : Int := 0
  /-- mV -/
  vCellRecharge : Int := 0
  /-- mA -/
  iTerm : Int := 0
  /-- frames -/
  termFrames : Nat := 234375
  /-- frames -/
  cvTimeout : Nat := 56250000
  /-- ppm -/
  rechargeSoc : Int := 950000
  /-- 0.01 degC -/
  chgTMin : Int := 0
  /-- 0.01 degC -/
  chgTMax : Int := 4500
  /-- ppm -/
  chgShare : Int := 500000
  /-- DIS1 to DIS3, CHG1, CHG2 -/
  levels : List Level := [⟨false, 300000, 20000⟩, ⟨false, 150000, 20000⟩, ⟨false, 50000, 20000⟩, ⟨false, 500000, 20000⟩, ⟨false, 0, 0⟩]
deriving DecidableEq, Repr, Inhabited

/-- One module (Table 8.2). -/
structure ModuleCfg where
  /-- entry in use -/
  present : Bool := false
  /-- PMBus port -/
  port : Nat := 0
  /-- 7-bit address -/
  address : Nat := 0
  /-- string -/
  string : Nat := 0
  /-- cells -/
  cells : Nat := 0
  /-- SBS code of the minimum cell voltage -/
  minvCmd : Nat := 0
  /-- SBS code of the maximum cell voltage -/
  maxvCmd : Nat := 0
deriving DecidableEq, Repr, Inhabited

/-- Estimator settings (R230, R237 to R250). -/
structure EstCfg where
  /-- frames -/
  modulePoll : Nat := 256
  /-- ppm per 1 % of FCC -/
  kqPpm : Int := 5000
  /-- ppm per hour -/
  ktPpm : Int := 2000
  /-- rest_i as ppm of C -/
  restIPpm : Int := 10000
  /-- mV per cell -/
  restDv : Int := 2
  /-- s -/
  restTimeS : Nat := 1800
  /-- s -/
  vcIntervalS : Nat := 10
  /-- vc_i_max as ppm of C -/
  vcIMaxPpm : Int := 500000
  /-- vc_di as ppm of C -/
  vcDiPpm : Int := 50000
  /-- ppm -/
  wMax : Int := 50000
  /-- ppm -/
  vcConfMax : Int := 800000
  /-- ppm -/
  discSoc : Int := 100000
  /-- ppm -/
  kDisc : Int := 200000
  /-- ppm -/
  kInit : Int := 100000
  /-- ppm -/
  fccStep : Int := 100000
  /-- z_step as ppm of C -/
  zStepPpm : Int := 100000
  /-- frames -/
  zSettle : Nat := 512
  /-- z_hold as ppm of C -/
  zHoldPpm : Int := 20000
  /-- shift -/
  zShift : Nat := 3
  /-- micro-ohm -/
  zMax : Int := 1000000
  /-- seven temperature edges, 0.01 degC -/
  bandEdges : List Int := []
deriving DecidableEq, Repr, Inhabited

/-- One channel (Table 9.2). -/
structure ChanCfg where
  /-- channel in use -/
  present : Bool := false
  /-- micro-ohm -/
  rSense : Nat := 1
  /-- mA -/
  limStart : Int := 0
  /-- mA -/
  limRun : Int := 0
  /-- us -/
  timerUs : Nat := 1000
  /-- ms -/
  gateRiseMs : Nat := 50
  /-- mV -/
  pgDrop : Int := 1000
  /-- frames -/
  coolFrames : Nat := 19531
  /-- frames -/
  seatDb : Nat := 391
  /-- enabled at activation and end of boot -/
  autoStart : Bool := true
  /-- mV -/
  vinUv : Int := 38000
  /-- mV -/
  vinOv : Int := 75000
  /-- frames -/
  insertFrames : Nat := 1953
  /-- early warning enable -/
  ewEn : Bool := false
  /-- mV -/
  ewLevel : Int := 49000
deriving DecidableEq, Repr, Inhabited

/-- One rail (Table 10.1). -/
structure RailCfg where
  /-- 0 unused, 1 LOCAL, 2 REMOTE, 3 WATCH -/
  kind : Nat := 0
  /-- group -/
  group : Nat := 0
  /-- position -/
  position : Nat := 0
  /-- EN output -/
  en : Nat := 0
  /-- cane node -/
  node : Nat := 0
  /-- node's rail number -/
  nodeRail : Nat := 0
  /-- state report -/
  statePt : Nat := 0
  /-- voltage point, 0 none -/
  vPt : Nat := 0
  /-- 100 us units -/
  upDelay : Nat := 0
  /-- 100 us units -/
  downDelay : Nat := 0
  /-- 100 us units -/
  riseTimeout : Nat := 1
  /-- 100 us units -/
  fallTimeout : Nat := 1
  /-- 0 IGNORE, 1 RETRY_RAIL, 2 GROUP_DOWN, 3 SYSTEM_RESET -/
  reaction : Nat := 0
  /-- retries -/
  retries : Nat := 0
  /-- ticks -/
  glitchTicks : Nat := 1
deriving DecidableEq, Repr, Inhabited

/-- One group (Table 10.2). -/
structure GroupCfg where
  /-- group in use -/
  present : Bool := false
  /-- target UP at activation and end of boot -/
  autoUp : Bool := true
  /-- takes part in SEQF_N -/
  cooperate : Bool := false
  /-- log_mode SNAPSHOT, else FIRST -/
  snapshot : Bool := false
  /-- 0 NONE, 1 NORMAL, 2 MONITOR -/
  input : Nat := 0
  /-- monitor -/
  inputMon : Nat := 0
  /-- frames -/
  minOff : Nat := 391
  /-- frames -/
  retryClear : Nat := 3906
deriving DecidableEq, Repr, Inhabited

/-- One tie port (Table 14.7). -/
structure TieCfg where
  /-- port in use -/
  portEn : Bool := false
  /-- may supply -/
  supplyEn : Bool := false
  /-- mW -/
  supplyMax : Int := 0
  /-- request in HOLDUP -/
  drawAuto : Bool := false
  /-- mW -/
  wantMw : Int := 0
  /-- mW -/
  offerMin : Int := 500000
  /-- mV -/
  busMin : Int := 44000
  /-- frames -/
  lease : Nat := 1024
  /-- frames -/
  offerFrames : Nat := 64
  /-- frames -/
  matchFrames : Nat := 512
  /-- frames -/
  silenceFrames : Nat := 64
  /-- frames -/
  resumeFrames : Nat := 64
  /-- frames -/
  markerFrames : Nat := 3906
  /-- 0.01 degC -/
  cableTMax : Int := 7000
deriving DecidableEq, Repr, Inhabited

/-- One cane node (Table 15.4). -/
structure NodeCfg where
  /-- node in use -/
  present : Bool := false
  /-- cane port -/
  port : Nat := 0
  /-- chain position -/
  position : Nat := 0
  /-- updates per frame -/
  budget : Nat := 4096
  /-- frames -/
  timeout : Nat := 64
deriving DecidableEq, Repr, Inhabited

/-- The tables of a batch (Table 18.2), field by field as the owning chapters give them. -/
structure Batch where
  /-- port_order -/
  portOrder : List PortId := [.fhp, .mgt, .peer]
  /-- ports each key slot is bound to (bit 0 MGT, 1 FHP, 2 PEER) -/
  keyBind : Tab (BitVec 3) := []
  /-- mac_scope -/
  macScope : List Byte := List.replicate 8 0
  /-- further critical opcodes -/
  critExtra : List Nat := []
  /-- mgt_thd -/
  mgtThd : Nat := 0x1E
  /-- mgt_tsu -/
  mgtTsu : Nat := 0x0A
  /-- mgt_glitch -/
  mgtGlitch : Nat := 0x05
  /-- auth_fail_limit -/
  authLimit : Nat := 16
  /-- lockout_frames -/
  lockoutFrames : Nat := 234375
  /-- ibr_repeat, ms -/
  ibrRepeat : Nat := 10
  /-- tick_periods -/
  tickPeriods : Nat := 2
  /-- frame_ticks -/
  frameTicks : Nat := 64
  /-- sync_nominal_period -/
  nominalNs : Nat := 2000
  /-- TREF 25 MHz -/
  tref25 : Bool := false
  /-- PPS used -/
  ppsEn : Bool := false
  /-- SYNC_OUT enabled -/
  syncOutEn : Bool := false
  /-- sync_out_offset -/
  syncOutOffset : Nat := 0
  /-- slack_margin_ns -/
  slackMargin : Int := 0
  /-- warmer settings -/
  warmer : WarmerCfg := {}
  /-- slot table entry e of converter c at 16 c + e -/
  slots : Tab FastSlot := []
  /-- scan list of each slow converter -/
  scan : Tab (List Nat) := []
  /-- slow conversions per tick -/
  slowPerTick : Nat := 1
  /-- fast channels -/
  fast : Tab FastCfg := []
  /-- slow channels -/
  slow : Tab SlowCfg := []
  /-- window monitors -/
  mons : Tab MonCfg := []
  /-- record bit of each capture unit -/
  capRecord : BitVec 16 := 0
  /-- frames of a sub-window -/
  subFrames : Nat := 61
  /-- 0.01 degC -/
  warnRise : Int := 400
  /-- 0.01 degC; the spec gives no default (DESIGN CHOICE, log entry 50) -/
  throttleRise : Int := 800
  /-- 0.01 degC -/
  thermHyst : Int := 100
  /-- 0.01 degC -/
  plausDelta : Int := 2000
  /-- neighbour group of each remote diode -/
  neighbours : Tab (List Nat) := []
  /-- corrections of the remote diodes -/
  diodes : Tab DiodeCfg := []
  /-- loops -/
  loops : Tab LoopCfg := []
  /-- region pool -/
  regions : Tab Region := []
  /-- blend_limit -/
  blendLimit : Nat := 1
  /-- stages -/
  stages : Tab StageCfg := []
  /-- phases -/
  phases : Tab PhaseCfg := []
  /-- rectifiers -/
  rects : Tab RectCfg := []
  /-- marver settings -/
  marver : MarverCfg := {}
  /-- hold-up and shed settings -/
  hold : HoldCfg := {}
  /-- lehr settings -/
  lehr : LehrCfg := {}
  /-- domains -/
  doms : Tab DomCfg := []
  /-- strings -/
  strings : Tab StringCfg := []
  /-- modules -/
  modules : Tab ModuleCfg := []
  /-- estimator settings -/
  est : EstCfg := {}
  /-- channels -/
  chans : Tab ChanCfg := []
  /-- rails -/
  rails : Tab RailCfg := []
  /-- groups -/
  groups : Tab GroupCfg := []
  /-- seqf_ticks -/
  seqfTicks : Nat := 2
  /-- batch state list -/
  stateList : List Nat := []
  /-- flight channels the batch adds -/
  flightChans : List Nat := []
  /-- intake selection: 0 DEMAND, 1 rectifier readings, 2 module readings, 3 REMOTE rail reports, 4 other cane points -/
  flightIntake : List Nat := [0, 1, 2, 3]
  /-- post_frames -/
  postFrames : Nat := 8
  /-- freeze_frames -/
  freezeFrames : Nat := 4096
  /-- sealed_lease -/
  sealedLease : Nat := 234375
  /-- flight_overwrite -/
  flightOverwrite : Bool := false
  /-- reaction table -/
  react : Tab Byte := []
  /-- reset_holdoff -/
  resetHoldoff : Nat := 3906
  /-- err_mode PULSE, else LATCH -/
  errPulse : Bool := false
  /-- err_pulse_us -/
  errPulseUs : Nat := 100
  /-- ce_threshold -/
  ceThreshold : Nat := 16
  /-- rebuild_mapout -/
  rebuildMapout : Nat := 4
  /-- bist_interval -/
  bistInterval : Nat := 3906
  /-- punty_lease -/
  puntyLease : Nat := 16
  /-- rack_ordinal -/
  rackOrdinal : Nat := 1
  /-- tie ports -/
  ties : Tab TieCfg := []
  /-- type of each point the batch assigns -/
  pointMap : Tab Nat := []
  /-- cane nodes -/
  nodes : Tab NodeCfg := []
  /-- port_speed of each PMBus port, kHz -/
  pmbKhz : Tab Nat := []
  /-- devices (port, address) without PEC -/
  pecOff : List (Nat × Nat) := []
deriving DecidableEq, Repr, Inhabited

/-- The tables that the bytes of an image spell: the spec gives the order of the fields but not every place of them, so nothing
constrains this function (log entry 8). -/
opaque Config.batchOfImage : List Byte → Batch

/-- The region records that an image carries, each of 3,072 bytes in the layout of Table 4.3, in the order of their indices; where
they stand in the Loops section the spec does not state (R119, log entry 8). -/
opaque Config.regionRecords : List Byte → List (List Byte)

end Sys2Proof
end

