-- ==== Sys2Proof/Machine/State.lean ====
section
/-! DEFINITION. The state of the device: every register, queue, counter, latch and table the spec gives it, as plain
data, with the values of a cold power-on as the field defaults (R514, R515, R552). -/
namespace Sys2Proof.Machine

/-- A 64-bit fault message with the frame the collector appends (Table 12.1, R60, R337). -/
structure FaultMsg where
  /-- source block ID (R335) -/
  block : Nat := 0
  /-- source object (R335) -/
  inst : Nat := 0
  /-- kind code of Table 12.10 (R335) -/
  kind : Nat := 0
  /-- context (R335) -/
  ctx : Nat := 0
  /-- the message's frame (R337) -/
  frame : Nat := 0
  /-- tick of the raising work; none where it is not tagged to a tick (R308) -/
  tick : Option Nat := none
  /-- the reaction-table entry of its frame, kept once that frame is two boundaries past (R337) -/
  entry : Option Byte := none
deriving DecidableEq, Repr, Inhabited

/-- One entry of the point shadow (Table 15.1). -/
structure Point where
  /-- frame value (R412) -/
  value : Int := 0
  /-- held maximum (R412) -/
  maxv : Int := 0
  /-- held minimum (R412) -/
  minv : Int := 0
  /-- complete frames since the last sample, saturating (R412) -/
  age : Nat := 0
  /-- last sample carried stale (R412) -/
  stale : Bool := false
  /-- last sample carried saturated (R412) -/
  saturated : Bool := false
  /-- last sample carried invalid (R412) -/
  invalid : Bool := false
  /-- at least one sample has been taken since the entry was cleared (R87) -/
  sampled : Bool := false
deriving DecidableEq, Repr, Inhabited

/-- The frame's running sums of one point (R87). -/
structure PointAcc where
  /-- sum of fresh samples (R87) -/
  sum : Int := 0
  /-- count of fresh samples (R87) -/
  n : Nat := 0
  /-- last fresh sample (R87) -/
  last : Int := 0
  /-- extremes restart at the first fresh sample of the frame (R88) -/
  peakArm : Bool := false
  /-- a sample or flags came in the frame (R412) -/
  flagged : Bool := false
  /-- the last sample carried stale (R412) -/
  stale : Bool := false
  /-- the last sample carried saturated (R412) -/
  saturated : Bool := false
  /-- the last sample carried invalid (R412) -/
  invalid : Bool := false
deriving DecidableEq, Repr, Inhabited

/-- The OTP fuse array (R40, R357). -/
structure Otp where
  /-- life-cycle state, the highest state whose fuse pair reads blown (R357) -/
  lifecycle : Lifecycle := .blank
  /-- HMAC key of each programmed slot (R40) -/
  keys : Tab (List Byte) := []
  /-- CRC-32C blown with each key (R357) -/
  keyCrc : Tab Nat := []
  /-- key slots whose fuses have been blown (R517) -/
  keyBlown : BitVec 4 := 0
  /-- SHA-384 hash of each programmed root key (R487) -/
  roots : Tab (List Byte) := []
  /-- CRC-32C blown with each root hash (R357) -/
  rootCrc : Tab Nat := []
  /-- root slots whose fuses have been blown (R487) -/
  rootBlown : BitVec 4 := 0
  /-- revocation bit of each root (R488) -/
  revoked : BitVec 4 := 0
  /-- device serial number (R40) -/
  serial : Nat := 0
  /-- factory analog trims (no rule reads them) (R40) -/
  trims : Nat := 0
deriving DecidableEq, Repr, Inhabited

/-- The warmer's register file (VWARM domain). -/
structure Warmer where
  /-- settings in use; ROM values after a cold power-on (R506) -/
  cfg : WarmerCfg := {}
  /-- filtered VIN_HV, mV (R502) -/
  yVin : Int := 0
  /-- filtered VWARM, mV (R502) -/
  yWarm : Int := 0
  /-- filtered PFI (R502) -/
  yPfi : Int := 0
  /-- filtered WAKE_N (R502) -/
  yWake : Int := 0
  /-- filtered seat lines (R502) -/
  ySeat : Tab Int := []
  /-- PFI filtered asserted (R502) -/
  pfiOn : Bool := false
  /-- WAKE_N filtered asserted (R502) -/
  wakeOn : Bool := false
  /-- seat lines filtered asserted (R502) -/
  seatOn : BitVec 48 := 0
  /-- consecutive periods with y_vin at or above vin_start (R503) -/
  vinPeriods : Nat := 0
  /-- VIN_OK (R503) -/
  vinOk : Bool := false
  /-- VIN_MARGIN (R503) -/
  vinMargin : Bool := false
  /-- MON (R503) -/
  mon : Bool := false
  /-- VWARM_LOW (R503) -/
  vwarmLow : Bool := false
  /-- COLD: no core run since VWARM last came up (R503) -/
  cold : Bool := true
  /-- last outcome (R505) -/
  outcome : WarmOutcome := .dormant
  /-- index of the rule that last matched (R563) -/
  rule : Nat := 0
  /-- the last outcome came from a matching rule (R563) -/
  ruleValid : Bool := false
  /-- PWR_REQ pin (low after cold power-on, Table 20.3) (R505) -/
  pwrReq : Bool := false
  /-- margin time, saturating (R507) -/
  marginMs : Nat := 0
  /-- INPUT_MARGINAL recorded (R507) -/
  marginal : Bool := false
  /-- SUPPLY_RANGE recorded (R508) -/
  supplyRange : Bool := false
  /-- supply of the last SUPPLY_RANGE (R563) -/
  supplyIdx : Nat := 0
  /-- supply indexes recorded and not yet raised by a boot (R508) -/
  supplyRecs : List Nat := []
  /-- supply retries, saturating at 255 (R563) -/
  retries : Nat := 0
  /-- supplies standing in range (VDD_CORE, NVM, ANA, IO0-IO3) (R508) -/
  inRange : BitVec 7 := 0
  /-- periods for which every supply has stood in range (R508) -/
  settleMs : Nat := 0
  /-- periods since the WAKE outcome (R508) -/
  waitMs : Nat := 0
  /-- off_min_ms runs: PWR_REQ low, no rule applied (R508) -/
  offHold : Bool := false
  /-- warmer periods since PWR_REQ was driven low for a supply failure (R508) -/
  offMs : Nat := 0
  /-- the warmer has released the core (R505) -/
  released : Bool := false
  /-- peer_live (R372) -/
  peerLive : Bool := false
  /-- periods since VWARM entered its range, counted to 64 (R372) -/
  msSinceVwarm : Nat := 0
  /-- a core-die over-temperature shutdown has been recorded and not yet raised (R106) -/
  shutdownRec : Bool := false
  /-- start-up BIST found two failed SRAM blocks in one group (R352) -/
  groupFailRec : Bool := false
deriving DecidableEq, Repr, Inhabited

/-- The core die's reset and boot state, straps and the die-to-die link. -/
structure Sys where
  /-- core die: held in reset, booting, or running (R509) -/
  core : CoreState := .held
  /-- kind of the last reset, code of Table 19.6 (0 POWER_ON_COLD) (R514) -/
  resetKind : Nat := 0
  /-- in crucible (R500) -/
  crucible : Bool := false
  /-- RECOV_N sampled low (R563) -/
  crucibleStrap : Bool := false
  /-- neither slot verified (R563) -/
  crucibleSlots : Bool := false
  /-- the marked slot failed and the other became active (R563) -/
  slotFallback : Bool := false
  /-- boot completed an interrupted activation (R497) -/
  activationResumed : Bool := false
  /-- drive_held was set at step 7 (R512) -/
  adopted : Bool := false
  /-- release of reset to end of boot, 100 us units, saturating (R563) -/
  bootTime : Nat := 0
  /-- step 7 or step 8 of Table 19.4 still to come (R509) -/
  bootStage : BootStage := .done
  /-- first frame of logical time, s (R342) -/
  firstFrame : Nat := 0
  /-- ADDR2-ADDR0 as sampled (internal pull-downs) (R526) -/
  addr : BitVec 3 := 0
  /-- RECOV_N sampled low (internal pull-up) (R526) -/
  recovLow : Bool := false
  /-- PAIR_ORD as sampled (R526) -/
  pairOrd : Bool := false
  /-- SYS_LOCK (R557) -/
  lock : Bool := false
  /-- die-to-die link carries valid words (R563) -/
  linkUp : Bool := false
  /-- DIE_LINK_ERROR count, saturating (R563) -/
  linkErrors : Nat := 0
  /-- DIE_LINK_LOSS count, saturating (R563) -/
  linkLosses : Nat := 0
  /-- the power die has declared the core die absent (R17) -/
  coreAbsent : Bool := true
  /-- drive_held, cleared at a cold power-on (R512) -/
  driveHeld : Bool := false
  /-- the power die is displaced (R379) -/
  displaced : Bool := false
  /-- power-die over-temperature shutdown active (R106) -/
  pdShutdown : Bool := false
  /-- core-die over-temperature shutdown active (R106) -/
  cdShutdown : Bool := false
  /-- a core-die shutdown has been recorded since power-on (R563) -/
  cdRecorded : Bool := false
  /-- the power-die shutdown as last sampled (R160) -/
  pdShutSampled : Bool := false
  /-- reset kind due at a coming frame boundary (R514) -/
  resetPending : Option Nat := none
  /-- frame whose ending boundary carries the pending reset (R341) -/
  resetAt : Nat := 0
  /-- the core die holds itself in reset until power-on reset or RST_N (R352) -/
  selfHeld : Bool := false
deriving DecidableEq, Repr, Inhabited

/-- Logical time and chassis time. -/
structure Tim where
  /-- frame number (R46) -/
  frame : Nat := 0
  /-- tick index (R44) -/
  tick : Nat := 0
  /-- phase 0 instants since the last tick boundary (R43) -/
  periods : Nat := 0
  /-- phase generator state (R49) -/
  gen : GenState := .acquiring
  /-- miss count (R49) -/
  miss : Nat := 0
  /-- measured (or held) period, 1/256 ns (R48) -/
  measured : Nat := 0
  /-- last accepted edge intervals, newest first, at most 16 (R48) -/
  intervals : List Nat := []
  /-- held period of FALLBACK, 1/256 ns (R49) -/
  held : Nat := 0
  /-- period that replaces the held one at the next tick boundary (R49) -/
  newPeriod : Option Nat := none
  /-- consecutive edges outside the window in SLEWING (R49) -/
  outside : Nat := 0
  /-- phase error to SYNC_IN in 1/256 Tsw (R49) -/
  phaseErr : Int := 0
  /-- glitch_count, saturating (R48) -/
  glitches : Nat := 0
  /-- a phase generator transition occurred in the current tick (R326) -/
  lastTransition : Bool := false
  /-- chassis time, ns (R51) -/
  chassis : Nat := 0
  /-- ns still to be taken off by running at 0.999 of the rate (R52) -/
  chassisDebt : Nat := 0
  /-- rate trim until the next PPS edge, ppm (R52) -/
  trimPpm : Int := 0
  /-- the part of a nanosecond that chassis time has run past its count, 1e-6 ns (R51) -/
  frac : Nat := 0
  /-- ns of the running tick by which a PPS edge has already brought chassis time up (R52) -/
  edgeNs : Nat := 0
  /-- scale of the internal oscillator against PPS, ppm (R52) -/
  oscPpm : Int := 0
  /-- unreferenced (R51) -/
  unreferenced : Bool := false
  /-- pps_ok (R52) -/
  ppsOk : Bool := false
  /-- the present absence of PPS has raised PPS_LOSS (R52) -/
  ppsLost : Bool := false
  /-- time_set (R53) -/
  timeSet : Bool := false
  /-- tref_valid (R51) -/
  trefValid : Bool := true
  /-- whole seconds to be set at the next PPS edge (R53) -/
  setPending : Option Nat := none
  /-- frame stamp of the current frame (R54) -/
  stamp : Nat := 0
  /-- chassis time was unreferenced at the frame stamp (R308) -/
  stampUnref : Bool := false
  /-- TIM_FRAME_HI capture (R47) -/
  frameHiCap : Nat := 0
  /-- TIM_CHASSIS_HI capture (R55) -/
  chassisHiCap : Nat := 0
  /-- minimum slack of the running frame (R70) -/
  slackCur : Option Int := none
  /-- TIM_SLACK_MIN, minimum over the last complete frame (R70) -/
  slackMin : Int := 0
  /-- TIM_SLACK_WORST (R70) -/
  slackWorst : Int := 2147483647
  /-- the previous frame's minimum was below the margin (R71) -/
  slackWasLow : Bool := false
  /-- loop that finished last at the frame's minimum (R71) -/
  slackLoop : Nat := 0
  /-- frame number last saved in MRAM (R46) -/
  savedFrame : Nat := 0
  /-- the last tick of the frame has ended: its frame boundary is due (R44) -/
  frameDue : Bool := false
  /-- the frame boundary is under way: the running frame has been closed and opened anew, its commands are being taken (R69) -/
  begun : Bool := false
  /-- commands accepted so far at the boundary that is under way (R62) -/
  taken : Nat := 0
  /-- SYNC_OUT pin (R155) -/
  syncOut : Bool := false
deriving DecidableEq, Repr, Inhabited

/-- Working state of one fast channel. -/
structure FastCh where
  /-- codes converted in the running tick, in position order (R80) -/
  codes : List Int := []
  /-- sample value of the last tick (R80) -/
  value : Int := 0
  /-- stale flag of the last tick (R80) -/
  stale : Bool := false
  /-- saturated flag of the last tick (R81) -/
  saturated : Bool := false
deriving DecidableEq, Repr, Inhabited

/-- Working state of one slow channel. -/
structure SlowCh where
  /-- sample value as it stands (R84) -/
  value : Int := 0
  /-- stale flag of the last tick (R84) -/
  stale : Bool := false
  /-- code of a conversion started in the running tick, whose sample falls in the next tick (R84) -/
  pend : Option Int := none
  /-- code that is the sample of the running tick (R84) -/
  due : Option Int := none
  /-- a conversion of the running tick was dropped (R83) -/
  drop : Bool := false
  /-- the sample of the running tick was dropped (R84) -/
  dropDue : Bool := false
deriving DecidableEq, Repr, Inhabited

/-- One capture entry (Table 3.4). -/
structure CapEntry where
  /-- chassis time of the edge in half nanoseconds (R97) -/
  timeHalfNs : Nat := 0
  /-- comparator asserted (R99) -/
  rising : Bool := false
  /-- OV comparator (R99) -/
  ov : Bool := false
  /-- chassis time was unreferenced (R99) -/
  unreferenced : Bool := false
  /-- edges merged (R97) -/
  merged : Bool := false
  /-- entries were discarded immediately before (R98) -/
  lostBefore : Bool := false
  /-- monitor index (R99) -/
  monitor : Nat := 0
  /-- per-unit entry count (R99) -/
  seq : Nat := 0
deriving DecidableEq, Repr, Inhabited

/-- One capture unit. -/
structure CapUnit where
  /-- the logical copy: entries of the running tick (R98) -/
  tick : List CapEntry := []
  /-- entries beyond 64 in the running tick (R98) -/
  tickLoss : Nat := 0
  /-- entries taken in the frame (R107) -/
  frameCount : Nat := 0
  /-- host FIFO, oldest first (R98) -/
  fifo : List CapEntry := []
  /-- MSR_CAP_OVF of the unit (R98) -/
  ovf : Nat := 0
  /-- the next host entry carries lost_before (R98) -/
  lostNext : Bool := false
  /-- time of the unit's last entry, in half nanoseconds (R97) -/
  lastHalfNs : Option Nat := none
  /-- entries counted so far (R99) -/
  seq : Nat := 0
deriving DecidableEq, Repr, Inhabited

/-- Live settings of one window monitor (R89, R95). -/
structure Monitor where
  /-- lower threshold code (R89) -/
  lower : Nat := 0
  /-- upper threshold code (R89) -/
  upper : Nat := 0
  /-- hysteresis, mV (R89) -/
  hyst : Nat := 0
  /-- UV routing (R94) -/
  uvRoute : Route := {}
  /-- OV routing (R94) -/
  ovRoute : Route := {}
  /-- lower code still to be applied as the narrowing step (R95) -/
  narrowLower : Option Nat := none
  /-- upper code still to be applied as the narrowing step (R95) -/
  narrowUpper : Option Nat := none
  /-- assertions seen at tick boundaries, saturating (R107) -/
  asserts : Nat := 0
deriving DecidableEq, Repr, Inhabited

/-- One thermal sensor. -/
structure Sensor where
  /-- value in 0.01 degC as it reads (R100) -/
  value : Int := 0
  /-- last raw code (R101) -/
  raw : Int := 0
  /-- consecutive conversions with an identical raw code (R101) -/
  same : Nat := 0
  /-- consecutive implausible conversions (R101) -/
  implausible : Nat := 0
  /-- consecutive clean conversions while broken (R102) -/
  clean : Nat := 0
  /-- bit of MSR_SENSOR_BROKEN (R102) -/
  broken : Bool := false
  /-- measured value of the last conversion, 0.01 degC (R102) -/
  measured : Int := 0
deriving DecidableEq, Repr, Inhabited

/-- Rise detection of one die (R104). -/
structure DieTherm where
  /-- die maximum of the last conversion, 0.01 degC (R103) -/
  maxNow : Int := 0
  /-- maximum over the running sub-window (R104) -/
  subMax : Option Int := none
  /-- sub-window maxima, newest first (R104) -/
  ring : List Int := []
  /-- rise over the window (R104) -/
  rise : Int := 0
  /-- warn (R104) -/
  warn : Bool := false
  /-- throttle (R104) -/
  throttle : Bool := false
  /-- warn as in effect since the last frame boundary (R105) -/
  warnEff : Bool := false
  /-- throttle as in effect since the last frame boundary (R105) -/
  throttleEff : Bool := false
deriving DecidableEq, Repr, Inhabited

/-- Measurement, window monitors and thermal sensing. -/
structure Msr where
  /-- fast channels (R80) -/
  fast : Tab FastCh := []
  /-- slow channels (R84) -/
  slow : Tab SlowCh := []
  /-- position in each slow converter's scan list (R83) -/
  scanPos : Tab Nat := []
  /-- channel of a conversion started in the previous tick and still running, per slow converter (R84) -/
  slowRun : Tab (Option Nat) := []
  /-- conversions of the running tick started by each slow converter (R83) -/
  slowDone : Tab Nat := []
  /-- fast conversions made in the running switching period, by converter (R77) -/
  slotNext : Tab Nat := []
  /-- slot_missed, saturating (R79) -/
  slotMissed : Nat := 0
  /-- live UV levels (R91) -/
  uv : BitVec 128 := 0
  /-- live OV levels (R91) -/
  ov : BitVec 128 := 0
  /-- UV levels sampled at the last tick boundary (R92) -/
  uvS : BitVec 128 := 0
  /-- OV levels sampled at the last tick boundary (R92) -/
  ovS : BitVec 128 := 0
  /-- MSR_WM_EVENT0-3 (R96) -/
  evUv : BitVec 128 := 0
  /-- MSR_WM_EVENT4-7 (R96) -/
  evOv : BitVec 128 := 0
  /-- MSR_WM_INT_EN0-15 (R553) -/
  intEn : Tab (BitVec 32) := []
  /-- live monitor settings (R89) -/
  mons : Tab Monitor := []
  /-- capture units (R97) -/
  caps : Tab CapUnit := []
  /-- T0-T11 (0-11), RD0-RD7 (12-19) (R100) -/
  sensors : Tab Sensor := []
  /-- core-die rise detection (R104) -/
  coreTherm : DieTherm := {}
  /-- power-die rise detection (R104) -/
  powerTherm : DieTherm := {}
  /-- frames of the running sub-window (R104) -/
  subFrame : Nat := 0
deriving DecidableEq, Repr, Inhabited

/-- One loop of the loop engine. -/
structure Loop where
  /-- enabled (LOP_ENABLE bit) (R135) -/
  enabled : Bool := false
  /-- started and evaluated (R136) -/
  running : Bool := false
  /-- halted by STOP (R133) -/
  stopped : Bool := false
  /-- control mode in use (R127) -/
  mode : Mode := .charge
  /-- region set in force (R120) -/
  rset : Nat := 0
  /-- axis index a (R121) -/
  ia : Nat := 0
  /-- axis index b (R121) -/
  ib : Nat := 0
  /-- region record in use (R122) -/
  region : Nat := 0xFFFF
  /-- region record blending out (R124) -/
  old : Option Nat := none
  /-- blend evaluation count (R124) -/
  j : Nat := 0
  /-- blend length of the running blend (R124) -/
  blendLen : Nat := 0
  /-- state estimate (R117) -/
  xh : List Int := []
  /-- state of the region blending out (R123) -/
  xhOld : List Int := []
  /-- applied output of the latest evaluation (R117) -/
  ua : List Int := []
  /-- residuals (R117) -/
  res : List Int := []
  /-- residual persistence counters (R131) -/
  counters : List Nat := []
  /-- a region change is held back by blend_limit (R122) -/
  heldBack : Bool := false
  /-- some output was rate limited (R141) -/
  rateLimiting : Bool := false
  /-- some output tracked its destination (R141) -/
  tracking : Bool := false
  /-- degraded set due at the next evaluation (R132) -/
  policySet : Option Nat := none
  /-- STOP is due at the next evaluation (R132) -/
  policyStop : Bool := false
  /-- the next evaluation is the first after a mode or set change (R129) -/
  justChanged : Bool := false
  /-- outputs in destination units now applied at the destination (R18) -/
  out : List Int := []
  /-- outputs computed and due at the next boundary (R18) -/
  pendOut : Option (List Int) := none
  /-- outputs of an evaluation that missed the boundary by which it was due (R72) -/
  lateOut : Option (List Int) := none
  /-- the outputs take their safe values at the next tick boundary (R133) -/
  safeDue : Bool := false
  /-- the late evaluation does not complete by the next boundary, so that the evaluation of this tick's inputs is skipped (R73) -/
  skipping : Bool := false
  /-- an evaluation of the running tick supplies samples at its end (R141) -/
  evaluated : Bool := false
  /-- 0 on time, 1 late, 2 skipped (R74) -/
  flag : Nat := 0
  /-- late evaluations, saturating (R141) -/
  lateCount : Nat := 0
  /-- skipped evaluations, saturating (R141) -/
  skipCount : Nat := 0
  /-- evaluation time of the latest evaluation (R141) -/
  evalNs : Nat := 0
deriving DecidableEq, Repr, Inhabited

/-- The loop engine. -/
structure Lop where
  /-- L0-L7 (R109) -/
  loops : Tab Loop := []
  /-- ticks whose last evaluation has not completed yet (R70) -/
  roundOpen : Nat := 0
  /-- LOP_FLOOR0-7, ns (R139) -/
  floors : Tab Nat := []
  /-- LOP_FLOOR_TOTAL, ns (R139) -/
  floorTotal : Nat := 0
  /-- the total is not below the shortest tick (R139) -/
  floorExceeded : Bool := false
  /-- LOP_STATUS0-7 as of the last tick boundary (R141) -/
  status : Tab Nat := []
  /-- POINT source values as of the opening boundary of the frame (R112) -/
  framePts : Tab Int := []
  /-- invalid flags of the POINT sources as of the opening boundary of the frame (R114) -/
  frameInv : Tab Bool := []
deriving DecidableEq, Repr, Inhabited

/-- One phase channel. -/
structure Phase where
  /-- masked (R172) -/
  masked : Bool := false
  /-- active (neither shed nor masked) (R167) -/
  active : Bool := false
  /-- shed at mid-level (R167) -/
  shed : Bool := false
  /-- shed attenuation in effect (R167) -/
  atten : Nat := 256
  /-- active from the next tick boundary (R167) -/
  nxtActive : Bool := false
  /-- shed from the next tick boundary (R167) -/
  nxtShed : Bool := false
  /-- attenuation from the next tick boundary (R167) -/
  nxtAtten : Nat := 256
  /-- offset in effect, 1/256 Tsw (R154) -/
  offset : Nat := 0
  /-- PWM_Pnn level (R142) -/
  pwm : PwmLevel := .hiz
  /-- direction of the latest on-time: boost (R158) -/
  boost : Bool := false
  /-- an on-time is running (R146) -/
  onTime : Bool := false
  /-- leading-edge blanking runs (R146) -/
  blanked : Bool := false
  /-- at mid-level for the rest of the period (R164) -/
  midRest : Bool := false
  /-- on-times started in the running tick (R171) -/
  onTimes : Nat := 0
  /-- on-times of the running tick ended by the cycle limit (R149) -/
  limEnds : Nat := 0
  /-- on-times of the running tick ended by the clamp (R149) -/
  clampEnds : Nat := 0
  /-- the same, as reported at the last tick boundary (R149) -/
  limRep : Nat := 0
  /-- clamp count as reported at the last tick boundary (R149) -/
  clampRep : Nat := 0
  /-- the clamp ended every on-time of the reported tick (R149) -/
  clampAll : Bool := false
  /-- the phase counted as open in the reported tick (R171) -/
  openTick : Bool := false
  /-- consecutive ticks with a cycle-limit termination (R150) -/
  limitRun : Nat := 0
  /-- consecutive ticks counted open (R171) -/
  openRun : Nat := 0
  /-- a mask takes effect at the next tick boundary (R171) -/
  maskDue : Bool := false
deriving DecidableEq, Repr, Inhabited

/-- One stage. -/
structure Stage where
  /-- stage state (R160) -/
  st : StageState := .off
  /-- stage enabled (R568) -/
  enabled : Bool := false
  /-- mode of the last accepted command, or the hand-back mode (R157) -/
  cmdMode : Option Mode := none
  /-- mode in effect (R157) -/
  mode : Mode := .charge
  /-- mode in effect in the tick whose inputs are evaluated next (R127) -/
  modeTick : Mode := .charge
  /-- OFF is reached at the next tick boundary (R160) -/
  offDue : Bool := false
  /-- phases go to mid-level at the next tick boundary (R160) -/
  midDue : Bool := false
  /-- slewed reference of the mode in effect as the running tick's STAGE_REF value, mV or mA (R159) -/
  rampRef : Int := 0
  /-- voltage target, mV (R159) -/
  vTarget : Int := 0
  /-- current target, mA (R159) -/
  iTarget : Int := 0
  /-- slewed voltage reference, uV (R159) -/
  vSlew : Int := 0
  /-- slewed current reference, uA (R159) -/
  iSlew : Int := 0
  /-- applied peak reference, mA per phase (R153) -/
  peakRef : Int := 0
  /-- applied slope code (R153) -/
  slopeRef : Nat := 0
  /-- the phases switch (the loop's first applied output has taken effect) (R161) -/
  switching : Bool := false
  /-- phase being shed (R167) -/
  shedding : Option Nat := none
  /-- shed ramp count (R167) -/
  j : Nat := 0
  /-- shed dwell (R167) -/
  dwell : Nat := 0
  /-- abort latch in the power die (R169) -/
  abortLatch : Bool := false
  /-- abort latch as last sampled (R170) -/
  abortSampled : Bool := false
  /-- over-voltage latch in the power die (R163) -/
  ovLatch : Bool := false
  /-- the hold-up transfer takes effect at the next tick boundary (R194) -/
  transferDue : Bool := false
  /-- DISCHARGE by hold-up is in effect (R157) -/
  inHoldup : Bool := false
  /-- hand-back step per tick, uA, while hand-back governs the current reference (R204) -/
  handStep : Option Int := none
  /-- stage power sample of the last tick (R177) -/
  powerMw : Int := 0
  /-- over-voltage latches since power-on, saturating (R176) -/
  ovCount : Nat := 0
  /-- shed aborts since power-on, saturating (R176) -/
  abortCount : Nat := 0
  /-- completed sheds since power-on, saturating (R176) -/
  shedCount : Nat := 0
  /-- starts at the first frame boundary after the power-die shutdown releases (R160) -/
  restartDue : Bool := false
deriving DecidableEq, Repr, Inhabited

/-- Stages and phases. -/
structure Stg where
  /-- ST0-ST5 (R160) -/
  stages : Tab Stage := []
  /-- phase channels (R142) -/
  phases : Tab Phase := []
deriving DecidableEq, Repr, Inhabited

/-- One rectifier as the marver keeps it. -/
structure Rect where
  /-- rectifier state (R183) -/
  st : RectState := .absent
  /-- INPUT_LOST marked input-good (R183) -/
  inputGood : Bool := false
  /-- consecutive unacknowledged transactions (R183) -/
  nacks : Nat := 0
  /-- VOUT_MODE exponent read at discovery (R185) -/
  expN : Option Int := none
  /-- the VOUT_MODE read of the discovery has completed (R183) -/
  vmodeOk : Bool := false
  /-- STATUS_WORD taken in since the last marver frame (R183) -/
  statusNew : Option Nat := none
  /-- STATUS_WORD as read (R205) -/
  status : Nat := 0
  /-- READ_VIN held with the derating state (R207) -/
  vinMv : Option Int := none
  /-- complete frames since the frame of the last READ_VIN (R207) -/
  vinAge : Nat := 0
  /-- READ_VIN taken in in the running frame (R207) -/
  vinNew : Bool := false
  /-- last READ_VOUT, mV (R205) -/
  vout : Option Int := none
  /-- re-entry ramp, ppm (R184) -/
  ramp : Int := 0
  /-- integrator, uV (R184) -/
  integ : Int := 0
  /-- trim, uV (R184) -/
  trim : Int := 0
  /-- trim base, uV (R185) -/
  base : Int := 0
  /-- consecutive fresh frames in tolerance while HOLDING (R183) -/
  holdCount : Nat := 0
  /-- share, ppm (R184) -/
  share : Int := 0
  /-- consecutive fresh frames beyond share_tol (R186) -/
  errRun : Nat := 0
  /-- consecutive fresh frames at trim_min or trim_max (R186) -/
  satRun : Nat := 0
  /-- the saturation run is at trim_max (R186) -/
  satHigh : Bool := false
  /-- SHARE_TOL raised in this error excursion (R186) -/
  errRaised : Bool := false
  /-- SHARE_TOL raised in this saturation excursion (R186) -/
  satRaised : Bool := false
  /-- AUTO, PARK or UNPARK setting (R190) -/
  park : ParkSet := .auto
  /-- nanoseconds spent UNPARKING (R183) -/
  unparkNs : Nat := 0
  /-- last VOUT_TRIM code issued whose write has not failed (R182) -/
  lastCode : Option Int := none
  /-- OPERATION byte due to be written (R182) -/
  opDue : Option Nat := none
  /-- OPERATION byte last written, repeated once if its write fails (R182) -/
  opSent : Option Nat := none
  /-- a VOUT_TRIM write is due (R182) -/
  trimDue : Bool := false
  /-- the last VOUT_TRIM write failed once (R182) -/
  failTrim : Bool := false
  /-- the last OPERATION write failed once (R182) -/
  failOp : Bool := false
  /-- CLEAR_FAULTS is due to be sent (R437) -/
  clearDue : Bool := false
  /-- command code of a write that failed twice, until the marver takes it in (R182) -/
  writeFault : Option Nat := none
  /-- a PARK was accepted and the marver has not evaluated it yet (R190) -/
  parkNow : Bool := false
  /-- a CMD_RECT_RETURN was accepted and the marver has not evaluated it yet (R190) -/
  returnNow : Bool := false
  /-- AC_OK UV sampled asserted at some tick of the running frame (R183) -/
  acLost : Bool := false
  /-- the same over the last complete frame (R183) -/
  acLostF : Bool := false
  /-- derated rating of the previous lehr frame, mW (R207) -/
  derated : Option Int := none
deriving DecidableEq, Repr, Inhabited

/-- The marver's own state and its published results. -/
structure MarverSt where
  /-- RECT00-RECT35 (R183) -/
  rects : Tab Rect := []
  /-- mean share, ppm (R184) -/
  meanPpm : Int := 0
  /-- counted capacity C, mW (R187) -/
  capC : Int := 0
  /-- reserve, mW (R187) -/
  reserve : Int := 0
  /-- parking headroom H, mW (R188) -/
  headH : Int := 0
  /-- input-good capacity G, mW (R203) -/
  inGood : Int := 0
  /-- reserve over the input-good rectifiers, mW (R203) -/
  inGoodRes : Int := 0
  /-- park dwell (R189) -/
  dwell : Nat := 0
  /-- frames for which parking stays suspended after NORMAL resumes (R189) -/
  parkHold : Nat := 0
  /-- RESERVE_SHORT raised in this excursion (R191) -/
  shortRaised : Bool := false
  /-- a counted rectifier was lost this frame (R189) -/
  lostCounted : Bool := false
deriving DecidableEq, Repr, Inhabited

/-- One entry of a shed order. -/
structure ShedEntry where
  /-- slot (R198) -/
  slot : Nat := 0
  /-- keep, mA (R198) -/
  keep : Nat := 0
deriving DecidableEq, Repr, Inhabited

/-- Hold-up state and the hardware shed. -/
structure HoldUp where
  /-- hold-up state (R193) -/
  st : HoldState := .normal
  /-- hold-up state at the frame's opening boundary (R208) -/
  stFrame : HoldState := .normal
  /-- hold-up entries since power-on, saturating (R205) -/
  entries : Nat := 0
  /-- an entry route tested true in the running frame (R203) -/
  routeHit : Bool := false
  /-- the PMBus route tests true at the coming boundary (R192) -/
  pmbusRoute : Bool := false
  /-- consecutive frames of the return condition (R203) -/
  retRun : Nat := 0
  /-- HOLDUP_NO_CAPABILITY raised in this excursion (R193) -/
  noCapRaised : Bool := false
  /-- shed order in effect in the power die (R198) -/
  order : List ShedEntry := []
  /-- order computed this frame, loaded at the next boundary (R198) -/
  nextOrder : List ShedEntry := []
  /-- active bank of the shed-order store (R358) -/
  bank : Bool := false
  /-- order the running progression uses (R200) -/
  prog : List ShedEntry := []
  /-- a progression is running (R200) -/
  progRun : Bool := false
  /-- steps applied in the running or last progression (R200) -/
  steps : Nat := 0
  /-- next entry of the progression (R199) -/
  progPos : Nat := 0
  /-- VIN_HV sense at the last applied step, mV (R199) -/
  vinAtStep : Int := 0
  /-- slots with a shed limit standing, last applied first (R201) -/
  standing : List Nat := []
  /-- applied steps not yet sampled by the core die (R200) -/
  stepsToSample : List Nat := []
  /-- a shed limit is released at the boundary that ends the running frame (R201) -/
  relDue : Bool := false
  /-- SHED sampled asserted at some tick boundary of the running frame (R201) -/
  shedSeen : Bool := false
  /-- consecutive frames without SHED sampled asserted (R201) -/
  clearRun : Nat := 0
  /-- slots that tripped while their shed limit stood (R202) -/
  trippedUnder : List Nat := []
deriving DecidableEq, Repr, Inhabited

/-- Rectifier sharing and hold-up. -/
structure Shr where
  /-- marver results in effect (R183) -/
  cur : MarverSt := {}
  /-- marver work of the running frame, in effect at the next boundary (R182) -/
  nxt : MarverSt := {}
  /-- hold-up and shed state (R193) -/
  hold : HoldUp := {}
deriving DecidableEq, Repr, Inhabited

/-- One load domain's dynamic context (Table 7.3). -/
structure Domain where
  /-- priority (R210) -/
  prio : Nat := 0
  /-- ceiling, mW (R210) -/
  ceiling : Int := 0
  /-- weight (R210) -/
  weight : Nat := 0
  /-- request, mW (R211) -/
  request : Int := 0
  /-- request taken in during the running frame (R211) -/
  reqNew : Option Int := none
  /-- pinned target (R221) -/
  pin : Option Int := none
  /-- domain state (R212) -/
  st : DomState := .offline
  /-- this frame's target (R215) -/
  target : Int := 0
  /-- grant in force (R216) -/
  grant : Int := 0
  /-- open decrease: prior grant (R216) -/
  gHi : Int := 0
  /-- last frame of the open decrease (R216) -/
  hiUntil : Nat := 0
  /-- frames a pending increase has waited (R217) -/
  waited : Nat := 0
  /-- shed for floors (R214) -/
  shed : Bool := false
  /-- enabled by CMD_DOMAIN_ENABLE (R212) -/
  enabled : Bool := true
  /-- frames since the last DEMAND (R212) -/
  demandAge : Nat := 0
  /-- a DEMAND was taken in during the input set's frame (R211) -/
  demandNew : Bool := false
  /-- a DEMAND was taken in during the running frame (R211) -/
  demandCur : Bool := false
  /-- some DEMAND has been taken in (R211) -/
  demanded : Bool := false
  /-- issue frame of the last GRANT (R218) -/
  issued : Nat := 0
  /-- frame that decided a decrease whose GRANT has not been acknowledged (R216) -/
  decFrom : Option Nat := none
  /-- consecutive overdraw frames (R222) -/
  overFrames : Nat := 0
  /-- GRANT_OVERDRAW raised in this excursion (R222) -/
  overRaised : Bool := false
  /-- the node is lost or its port is disabled (R212) -/
  nodeGone : Bool := false
deriving DecidableEq, Repr, Inhabited

/-- Enforcement of one slot. -/
structure Enforce where
  /-- consecutive slot overdraw frames (R222) -/
  overFrames : Nat := 0
  /-- enforced (R222) -/
  on : Bool := false
  /-- consecutive frames without slot overdraw while enforced (R223) -/
  clean : Nat := 0
  /-- enforcement limit, mA (R223) -/
  limMa : Int := 0
deriving DecidableEq, Repr, Inhabited

/-- One background job's pace (R224). -/
structure BgJob where
  /-- pace accumulator (R224) -/
  acc : Nat := 0
  /-- operations due that no frame's schedule holds (R224) -/
  due : Nat := 0
  /-- operations still to run in the current frame (R224) -/
  run : Nat := 0
  /-- operations scheduled for the next frame (R224) -/
  next : Nat := 0
  /-- operations completed in the current pass (R224) -/
  pos : Nat := 0
  /-- frames since the last full pass (R224) -/
  passFrames : Nat := 0
  /-- BG_LATE raised in this excursion (R224) -/
  late : Bool := false
  /-- paused (R225) -/
  paused : Bool := false
  /-- catches up after a paused frame (R224) -/
  catchup : Bool := false
deriving DecidableEq, Repr, Inhabited

/-- The lehr's own state and its published results. -/
structure LehrSt where
  /-- D000-D511 (R210) -/
  doms : Tab Domain := []
  /-- enforcement per slot (R222) -/
  enf : Tab Enforce := []
  /-- S, mW (R208) -/
  supply : Int := 0
  /-- rectifier term (R209) -/
  tRect : Int := 0
  /-- battery term (R209) -/
  tBatt : Int := 0
  /-- tie term (R209) -/
  tTie : Int := 0
  /-- loss term (R209) -/
  tLoss : Int := 0
  /-- heat cap in force (R209) -/
  tCap : Int := 0
  /-- hold-up state that selected the terms (R209) -/
  tHold : HoldState := .normal
  /-- cap of the last accepted CMD_LEHR_CAP_SET; 0 none (R208) -/
  hostCap : Int := 0
  /-- LEH_HEADROOM (R217) -/
  headroom : Int := 0
  /-- LEH_COMMIT (R217) -/
  commit : Int := 0
  /-- COMMIT_OVER raised in this excursion (R217) -/
  overRaised : Bool := false
  /-- total demand of the last frame (R189) -/
  demand : Int := 0
  /-- increases are granted from this frame on (R220) -/
  holdUntil : Nat := 0
  /-- the start-up grant hold stands (R220) -/
  startHold : Bool := false
deriving DecidableEq, Repr, Inhabited

/-- The lehr. -/
structure Leh where
  /-- lehr results in effect (R206) -/
  cur : LehrSt := {}
  /-- lehr work of the running frame (R206) -/
  nxt : LehrSt := {}
  /-- background jobs, in the order of Table 7.8 (R224) -/
  jobs : Tab BgJob := []
  /-- domains whose GRANT enters the transmit queues at the next boundary (R218) -/
  grantsDue : List Nat := []
  /-- no background operation starts since PFI was sampled (R226) -/
  pfiHold : Bool := false
deriving DecidableEq, Repr, Inhabited

/-- A current step whose impedance updates are awaited (R246). -/
structure ZStep where
  /-- the step frame (R246) -/
  frame : Nat := 0
  /-- current change, mA (R246) -/
  di : Int := 0
  /-- the new i_step, mA (R246) -/
  iNew : Int := 0
  /-- SoC index of the step (R246) -/
  sidx : Nat := 0
deriving DecidableEq, Repr, Inhabited

/-- One battery string's estimator and charge controller. -/
structure BatString where
  /-- INIT (R250) -/
  init : Bool := true
  /-- DISCORDANT (R242) -/
  discordant : Bool := false
  /-- END (R243) -/
  ended : Bool := false
  /-- relearn pending (R242) -/
  relearn : Bool := false
  /-- fast rate (R235) -/
  fast : Bool := false
  /-- the last closed step had no valid current sample (R236) -/
  senseLost : Bool := false
  /-- held current, mA (R235) -/
  iHold : Int := 0
  /-- current of the last closed step, mA (R235) -/
  iStep : Int := 0
  /-- current of the last frame, mA (R235) -/
  iFrame : Int := 0
  /-- frames since the last closed step (R235) -/
  elapsed : Nat := 0
  /-- sum of fresh samples of the open step (R235) -/
  isum : Int := 0
  /-- count of fresh samples of the open step (R235) -/
  icnt : Nat := 0
  /-- sum of the current point's fresh samples in the last complete frame (R235) -/
  sumF : Int := 0
  /-- count of those samples (R235) -/
  cntF : Nat := 0
  /-- some frame of the open step had a valid current sample (R236) -/
  senseAny : Bool := false
  /-- the step closes in this frame (R235) -/
  closeDue : Bool := false
  /-- the step of this frame has closed and its corrections may run (R238) -/
  closed : Bool := false
  /-- a rest correction was taken in the closed step (R238) -/
  rested : Bool := false
  /-- remaining charge, mA ns (R235) -/
  qRem : Int := 0
  /-- confidence, ppm (R237) -/
  k : Int := 0
  /-- full-charge capacity, mAh (the design capacity where no cycle record is loaded) (R240) -/
  fccMah : Nat := 0
  /-- discharge accumulator, mA ns (R248) -/
  disAcc : Int := 0
  /-- cycle count (R248) -/
  cycles : Nat := 0
  /-- last soc_v, ppm (R241) -/
  socV : Int := 0
  /-- SoC for capping, ppm (R245) -/
  socCap : Int := 0
  /-- discharge limit, mW (R245) -/
  disLimit : Int := 0
  /-- string impedance z, micro-ohm (R253) -/
  zString : Int := 0
  /-- ns since the last compensated-voltage evaluation (R241) -/
  vcTime : Nat := 0
  /-- lowest current frame value since that evaluation (R241) -/
  vcLo : Option Int := none
  /-- highest current frame value since that evaluation (R241) -/
  vcHi : Option Int := none
  /-- rest timer, ns (R239) -/
  restTime : Nat := 0
  /-- voltage mark, mV (R239) -/
  restMark : Option Int := none
  /-- ns since the mark was taken (R239) -/
  restSince : Nat := 0
  /-- reference SoC of the capacity relearn (R240) -/
  refSoc : Option Int := none
  /-- charge discharged since the reference, mA ns (R240) -/
  refDis : Int := 0
  /-- net charge taken in since the reference, mA ns (R240) -/
  refIn : Int := 0
  /-- consecutive frames of the end-of-discharge test (R243) -/
  eodRun : Nat := 0
  /-- consecutive frames of the END release condition (R244) -/
  endRun : Nat := 0
  /-- charge controller state (R232) -/
  charge : ChargeState := .idle
  /-- consecutive frames at or below the termination current (R232) -/
  termRun : Nat := 0
  /-- frames in CV (R232) -/
  cvFrames : Nat := 0
  /-- consecutive frames without an inhibiting condition (R232) -/
  inhibRun : Nat := 0
  /-- mode the charge controller gives its stage (R231) -/
  chgMode : Option Mode := none
  /-- voltage target the controller gives, mV (R231) -/
  chgV : Option Int := none
  /-- current target the controller gives, mA (R231) -/
  chgI : Option Int := none
  /-- live warning levels DIS1-DIS3, CHG1, CHG2 (R251) -/
  levels : BitVec 5 := 0
  /-- a full-charge anchor was taken in this frame (R251) -/
  anchored : Bool := false
  /-- frames since the cycle record was last queued (R248) -/
  recFrames : Nat := 0
  /-- current step whose module voltage steps are awaited (R246) -/
  zstep : Option ZStep := none
  /-- voltage frame value of the input set, none while invalid (R229) -/
  voltage : Option Int := none
deriving DecidableEq, Repr, Inhabited

/-- One battery module's readings. -/
structure BatModule where
  /-- last Voltage reading, mV (R246) -/
  voltage : Option Int := none
  /-- its intake frame (R246) -/
  voltFrame : Nat := 0
  /-- Voltage reading before the last one, mV (R246) -/
  vPrev : Option Int := none
  /-- last reading tagged before the step frame (R246) -/
  vBefore : Option Int := none
  /-- first reading tagged z_settle after the step frame (R246) -/
  vAfter : Option Int := none
  /-- last temperature, 0.01 degC (R230) -/
  temp : Option Int := none
  /-- last BatteryStatus (R230) -/
  status : Nat := 0
  /-- last minimum cell voltage, mV (R230) -/
  minCell : Option Int := none
  /-- last maximum cell voltage, mV (R230) -/
  maxCell : Option Int := none
  /-- ChargingCurrent read at discovery, mA (R230) -/
  chgI : Option Int := none
  /-- ChargingVoltage read at discovery, mV (R230) -/
  chgV : Option Int := none
  /-- frames since the last reading (R230) -/
  age : Nat := 0
  /-- silent (R230) -/
  silent : Bool := true
  /-- MODULE_SILENT raised in this excursion (R230) -/
  silentRaised : Bool := false
  /-- MODULE_ALARM raised in this excursion (R230) -/
  alarmRaised : Bool := false
deriving DecidableEq, Repr, Inhabited

/-- One impedance cell. -/
structure ZCell where
  /-- impedance, micro-ohm (R246) -/
  z : Int := 0
  /-- update count, saturating (R246) -/
  n : Nat := 0
deriving DecidableEq, Repr, Inhabited

/-- A cycle record (R248, R249). -/
structure CycleRec where
  /-- sequence number (R249) -/
  seq : Nat := 0
  /-- cycle count (R248) -/
  cycles : Nat := 0
  /-- discharge accumulator (R248) -/
  disAcc : Int := 0
  /-- full-charge capacity (R248) -/
  fccMah : Nat := 0
  /-- relearn flag (R248) -/
  relearn : Bool := false
deriving DecidableEq, Repr, Inhabited

/-- One queued write of the estimator-table job: an impedance cell or a cycle record. -/
structure ZWrite where
  /-- an impedance cell (else a cycle record) (R247) -/
  isCell : Bool := false
  /-- module or string (R247) -/
  index : Nat := 0
  /-- cell index 8 s + b (R246) -/
  cellIx : Nat := 0
  /-- the cell written (R246) -/
  cell : ZCell := {}
  /-- the record written (R248) -/
  crec : CycleRec := {}
deriving DecidableEq, Repr, Inhabited

/-- The estimator's own state and its published results. -/
structure BatSt where
  /-- BS0-BS5 (R228) -/
  strings : Tab BatString := []
deriving DecidableEq, Repr, Inhabited

/-- Battery strings. -/
structure Bat where
  /-- estimator results in effect (R231) -/
  cur : BatSt := {}
  /-- estimator work of the running frame (R231) -/
  nxt : BatSt := {}
  /-- module readings (R230) -/
  modules : Tab BatModule := []
  /-- impedance cells in battery memory, at 128 m + 8 s + b (R249) -/
  ztab : Tab ZCell := []
  /-- impedance cells as the estimator reads them (R224) -/
  zlive : Tab ZCell := []
  /-- updates decided (cell, value, frame from which the estimator reads it) (R224) -/
  zpend : List (Nat × ZCell × Nat) := []
  /-- cycle record copies as written, at 2 s + copy (R249) -/
  crecs : Tab (List Byte) := []
  /-- write queue (R247) -/
  zq : List ZWrite := []
  /-- writes dropped, saturating (R247) -/
  zDropped : Nat := 0
  /-- ZTABLE_DROP raised in this excursion (R247) -/
  zDropRaised : Bool := false
  /-- BAT_LEVEL_EVENT, five bits per string (R251) -/
  levelEvent : BitVec 32 := 0
  /-- BAT_LEVEL_EN (R251) -/
  levelEn : BitVec 32 := 0
deriving DecidableEq, Repr, Inhabited

/-- One slot, keeper or tie channel (Tables 9.3, 9.4; R276). -/
structure Channel where
  /-- state code of R282 (R282) -/
  st : ChState := .empty
  /-- enabled (R266) -/
  enabled : Bool := false
  /-- the charge pump drives the gate (R255) -/
  gate : Bool := false
  /-- trip latched in the power die (R264) -/
  latched : Option TripCause := none
  /-- the latched trip has been sampled (R264) -/
  tripSeen : Bool := false
  /-- opened and latched off by the power-die over-temperature shutdown (R106) -/
  shutLatch : Bool := false
  /-- what the core die last asked of the gate while the power die saw it absent (R279) -/
  held : Option Bool := none
  /-- configured or enforcement code that stands while the core die is in reset or absent (R279) -/
  heldCode : Option Nat := none
  /-- a cable pull during a core-die reset, recorded at adoption (R277) -/
  pulledDue : Bool := false
  /-- the current limit is active (R260) -/
  limit : Bool := false
  /-- the limit was active at some time in the running tick (R264) -/
  limitTick : Bool := false
  /-- the limit was active in the last tick (R264) -/
  limitRep : Bool := false
  /-- fault timer in eighths of a nanosecond (R261) -/
  timer8 : Nat := 0
  /-- consecutive boundaries of the power-good test (R268) -/
  pgRun : Nat := 0
  /-- power-good (PG_Snn pin), or tie closed (R268) -/
  pg : Bool := false
  /-- power-good as sampled at the last tick boundary (R283) -/
  pgS : Bool := false
  /-- the configured code is lim_run (R259) -/
  runCode : Bool := false
  /-- lim_run set by CMD_HSW_LIMIT_SET, mA (R280) -/
  limRun : Option Nat := none
  /-- enforcement code (R223) -/
  enforce : Option Nat := none
  /-- shed code (R199) -/
  shed : Option Nat := none
  /-- seat as sampled at the last tick boundary (R266) -/
  seatS : Bool := false
  /-- seat sampled asserted at every boundary of the running frame so far (R266) -/
  seatAll : Bool := false
  /-- seat sampled absent at every boundary of the running frame so far (R266) -/
  gapAll : Bool := false
  /-- whole frames of seat present (R266) -/
  seatRun : Nat := 0
  /-- whole frames of seat absent (R266) -/
  gapRun : Nat := 0
  /-- start pending (R266) -/
  pending : Bool := false
  /-- last frame of the cool-down (R270) -/
  cool : Option Nat := none
  /-- the fast pull-down begins 1.0-1.2 us after a trip or turn-off (R262) -/
  pullDue : Bool := false
  /-- ns of the running tick that fault timer and gate-rise time have taken in (R261) -/
  limNs : Nat := 0
  /-- gate-rise time spent with the limit inactive, ns (R272) -/
  riseNs : Nat := 0
  /-- the gate has reached 8 V since the start (R272) -/
  gateUp : Bool := false
  /-- guard pull-down standing (R381) -/
  guard : Bool := false
  /-- GUARD_ACK taken in: released at the next frame boundary (R381) -/
  guardRel : Bool := false
  /-- GUARD taken in: latched TRIPPED at the next frame boundary (R381) -/
  guardTrip : Bool := false
  /-- trips since power-on, saturating (R282) -/
  trips : Nat := 0
  /-- EW_Kn pin (asserted while the keeper is not ON) (R275) -/
  ew : Bool := true
  /-- EW asserted by VIN_HV or hold-up, not yet deasserted (R275) -/
  ewVin : Bool := false
  /-- sense code of the channel monitor (R265) -/
  sense : Int := 0
  /-- SNSP code of the channel monitor (R265) -/
  snsp : Nat := 0
  /-- OUT (FAR for ties) code (R265) -/
  outv : Nat := 0
  /-- SRC_Tx code (R265) -/
  srcv : Nat := 0
  /-- precharge follower set (R403) -/
  follower : Bool := false
  /-- cable target of the follower, mV (R403) -/
  target : Int := 0
  /-- whole frames with VIN_HV in the keeper window (R274) -/
  vinRun : Nat := 0
  /-- VIN_HV in window at every boundary of the running frame so far (R274) -/
  vinAll : Bool := false
  /-- the Irler machine opens the channel at the next boundary (R406) -/
  openDue : Bool := false
deriving DecidableEq, Repr, Inhabited

/-- Slot, keeper and tie channels: slots 0-47, keepers 48-51, ties 52-53. -/
structure Hsw where
  /-- the channels (R254) -/
  chans : Tab Channel := []
  /-- HSW_TRIP_EVENT0-1 (R283) -/
  tripEvent : BitVec 64 := 0
  /-- VIN_HV sample of the last tick boundary, mV (R195) -/
  vinMv : Int := 0
deriving DecidableEq, Repr, Inhabited

/-- A failing tick (R300). -/
structure SeqTag where
  /-- absolute tick (R295) -/
  tag : Nat := 0
  /-- tick index (R301) -/
  tick : Nat := 0
  /-- frame number (R301) -/
  frame : Nat := 0
  /-- frame stamp (R301) -/
  stamp : Nat := 0
deriving DecidableEq, Repr, Inhabited

/-- A failure of a rail that the sequencer has still to take in (R293, R295, R300). -/
structure Happening where
  /-- 1 rise deadline, 2 fall deadline, 3 UV, 4 OV, 5 FAULT (R293) -/
  kind : Nat := 0
  /-- tick boundary at which it was seen (absolute tick) (R295) -/
  bound : Nat := 0
  /-- its failing tick (R300) -/
  tag : SeqTag := {}
  /-- v_pt sample in the failing tick (R300) -/
  v : Int := 0
  /-- monitor state in the failing tick, or state_pt code (R300) -/
  mon : Nat := 0
  /-- readings of the group in the failing tick (R300) -/
  snap : List (List Byte) := []
deriving DecidableEq, Repr, Inhabited

/-- One sequenced rail. -/
structure Rail where
  /-- tick boundary of the edge placed and still to come (absolute tick) (R290) -/
  edge : Option Nat := none
  /-- direction of the placed or last edge (R290) -/
  edgeUp : Bool := false
  /-- edge placed in the current rise or fall (R290) -/
  placed : Bool := false
  /-- tick boundary of the last edge (R289) -/
  edgeAt : Nat := 0
  /-- deadline boundary (absolute tick) (R290) -/
  deadline : Option Nat := none
  /-- edge to low placed behind one that is still to come before B (absolute tick) (R290) -/
  nextEdge : Option Nat := none
  /-- deadline boundary of that edge (absolute tick) (R290) -/
  nextDl : Option Nat := none
  /-- confirmed up (R289) -/
  up : Bool := false
  /-- confirmed off (R289) -/
  off : Bool := false
  /-- tick boundary of the last confirmation (R290) -/
  confAt : Nat := 0
  /-- consecutive boundaries in window since the edge (R289) -/
  winRun : Nat := 0
  /-- consecutive boundaries with the levels that make a running fault (R293) -/
  badRun : Nat := 0
  /-- failed at its deadline or by a running fault (R568) -/
  failed : Bool := false
  /-- retry count (R294) -/
  retries : Nat := 0
  /-- frames counted toward retry_clear (R294) -/
  inWin : Nat := 0
  /-- in window at every boundary of the running frame so far (R294) -/
  winAll : Bool := false
  /-- RETRY_RAIL in progress (R293) -/
  retrying : Bool := false
  /-- last state_pt code of a REMOTE rail (R289) -/
  code : Nat := 0
  /-- the present FAULT reading of a REMOTE rail has been raised (R293) -/
  faultDone : Bool := false
  /-- happenings still to be taken in, oldest first (R293) -/
  pends : List Happening := []
  /-- monitor state sampled at the last boundary (R300) -/
  state : Nat := 15
deriving DecidableEq, Repr, Inhabited

/-- One sequencer group. -/
structure Group where
  /-- group state (R291) -/
  st : GroupState := .off
  /-- target UP (R291) -/
  target : Bool := false
  /-- the fall latches (R291) -/
  latching : Bool := false
  /-- the latching fall is the group's own failure (R296) -/
  ownFail : Bool := false
  /-- position of the step in progress (R290) -/
  pos : Option Nat := none
  /-- boundary at which the previous step completed (R290) -/
  tPrev : Nat := 0
  /-- last frame of min_off (R291) -/
  restUntil : Nat := 0
  /-- secondary records written in this fall (R300) -/
  secondary : Nat := 0
  /-- state adopted and edges held until the first intake frame has closed (R303) -/
  adopted : Bool := false
  /-- the primary failure of the running evaluation has been taken in (R295) -/
  primTaken : Bool := false
  /-- the fall decided in the running frame comes from a GROUP_DOWN reaction or from the pull it causes (R295) -/
  reacted : Bool := false
  /-- frozen in mid-sequence: its next record is marked interrupted (R299) -/
  interrupted : Bool := false
  /-- the fall decided in the running frame has SEQF_N as its primary cause (R297) -/
  bySeqf : Bool := false
deriving DecidableEq, Repr, Inhabited

/-- One sequencer fault record in its ring (Tables 10.5, 10.6). -/
structure SeqRec where
  /-- record sequence number (R301) -/
  seq : Nat := 0
  /-- slots of the record (R301) -/
  slots : Nat := 0
  /-- first slot (R301) -/
  slotAt : Nat := 0
  /-- SNAPSHOT (R301) -/
  snapshot : Bool := false
  /-- interrupted (R301) -/
  interrupted : Bool := false
  /-- secondary (R301) -/
  secondary : Bool := false
  /-- incomplete (R301) -/
  incomplete : Bool := false
  /-- its write is under way (R302) -/
  writing : Bool := false
  /-- the header slot in MRAM fails its CRC-32C (R302) -/
  badCrc : Bool := false
  /-- group (R301) -/
  group : Nat := 0
  /-- rail index, 0xFFF for SEQF_N (R301) -/
  rail : Nat := 0
  /-- fault kind (R301) -/
  kind : Nat := 0
  /-- tick index of the failing tick (R301) -/
  tick : Nat := 0
  /-- frame of the failing tick (R301) -/
  frame : Nat := 0
  /-- frame stamp of that frame (R301) -/
  stamp : Nat := 0
  /-- v_pt sample in the failing tick (R301) -/
  vpt : Int := 0
  /-- monitor state or state_pt code (R301) -/
  mon : Nat := 0
  /-- readings of Table 10.6 (R301) -/
  readings : List (List Byte) := []
deriving DecidableEq, Repr, Inhabited

/-- The sequencer. -/
structure Seq where
  /-- group states in effect (R291) -/
  cur : Tab Group := []
  /-- group states decided by the running frame's work (R291) -/
  nxt : Tab Group := []
  /-- rails (R289) -/
  rails : Tab Rail := []
  /-- EN_00-EN_31, 1 released (low after a power-on reset) (R287) -/
  en : BitVec 32 := 0
  /-- EN outputs as driven at the last tick boundary (R307) -/
  enSampled : BitVec 32 := 0
  /-- state codes of the groups as they stood at the last frame boundary (R291) -/
  shown : Tab Nat := []
  /-- consecutive boundaries with SEQF_N sampled low (R288) -/
  seqfRun : Nat := 0
  /-- SEQF_N sampled low at the last boundary (R288) -/
  seqfLow : Bool := false
  /-- the device drives SEQF_N low (R296) -/
  seqfDrive : Bool := false
  /-- the device drives SEQF_N low from the coming boundary (R296) -/
  seqfDriveNxt : Bool := false
  /-- SEQF_N counted asserted (R288) -/
  seqfSeen : Bool := false
  /-- boundary at which SEQF_N was first counted asserted and not yet taken in (R291) -/
  seqfAt : Option Nat := none
  /-- the tick that this boundary ended (R300) -/
  seqfTag : SeqTag := {}
  /-- readings of the cooperating groups in that tick (R300) -/
  seqfSnap : Tab (List (List Byte)) := []
  /-- the tick that the last boundary ended (R300) -/
  lastTag : SeqTag := {}
  /-- SYSTEM_RESET has been decided in the running frame (R295) -/
  sysReset : Bool := false
  /-- input condition false at some boundary of the running frame, per group (R298) -/
  monFail : Tab Bool := []
  /-- input condition holds, per group (R298) -/
  condOk : Tab Bool := []
  /-- records in the ring, oldest first (R301) -/
  recs : List SeqRec := []
  /-- next record sequence number (R301) -/
  nextSeq : Nat := 0
  /-- next ring slot (R301) -/
  nextSlot : Nat := 0
  /-- secondary records dropped, saturating (R300) -/
  dropped : Nat := 0
  /-- incomplete records found at boot, saturating (R302) -/
  incomplete : Nat := 0
  /-- GROUP_ORDERs (node, group x 256 + position, up) due at the coming frame boundary (R290) -/
  orders : List (Nat × Nat × Bool) := []
  /-- PFI has frozen the groups (R299) -/
  frozen : Bool := false
deriving DecidableEq, Repr, Inhabited

/-- One 64-byte record (Table 11.1), before its CRC-32C. -/
structure Record where
  /-- type, 0 marks an empty slot (R308) -/
  typ : Nat := 0
  /-- destined for the sealed log (R308) -/
  sealed : Bool := false
  /-- destined for the open log (R308) -/
  opened : Bool := false
  /-- waited while its log was frozen (R308) -/
  frozenWait : Bool := false
  /-- written by the power-fail flush (R308) -/
  pfi : Bool := false
  /-- chassis time was unreferenced at the frame stamp (R308) -/
  unref : Bool := false
  /-- records were dropped immediately before (R308) -/
  lostBefore : Bool := false
  /-- tick index, none where untagged (R308) -/
  tick : Option Nat := none
  /-- source block (R308) -/
  block : Nat := 0
  /-- staging sequence number (R308) -/
  seq : Nat := 0
  /-- frame number (R308) -/
  frame : Nat := 0
  /-- source object (R308) -/
  inst : Nat := 0
  /-- frame stamp (R308) -/
  stamp : Nat := 0
  /-- body bytes 24-59, trailing zeros left out (R308) -/
  body : List Byte := []
  /-- the slot's check does not verify (R318) -/
  torn : Bool := false
deriving DecidableEq, Repr, Inhabited

/-- One staging slot. -/
structure Staged where
  /-- the record (R311) -/
  record : Record := {}
  /-- lies in a flush cut (R312) -/
  inCut : Bool := false
  /-- not yet written to the sealed log (R311) -/
  needSealed : Bool := false
  /-- not yet written to the open log (R311) -/
  needOpen : Bool := false
deriving DecidableEq, Repr, Inhabited

/-- The commit of one frame, or one mark behind it, that waits (R338, R569). -/
structure WaitCommit where
  /-- the frame whose end the commit belongs to (R338) -/
  frame : Nat := 0
  /-- its records (R310) -/
  recs : List Record := []
  /-- the frame stamp of that frame (R54) -/
  stamp : Nat := 0
  /-- chassis time was unreferenced at that stamp (R308) -/
  unref : Bool := false
  /-- a mark committed at that boundary (R569) -/
  isMark : Bool := false
  /-- a clear of the sealed log at that boundary released its sealed copies (R321) -/
  relSealed : Bool := false
  /-- a clear of the open log at that boundary released its open copies (R321) -/
  relOpen : Bool := false
deriving DecidableEq, Repr, Inhabited

/-- One saved copy of a log's pointer state (R317). -/
structure PtrCopy where
  /-- sequence number of the copy (R317) -/
  seq : Nat := 0
  /-- permUsed (R317) -/
  perm : Nat := 0
  /-- circHead (R317) -/
  head : Nat := 0
  /-- circFull (R317) -/
  full : Bool := false
  /-- overwritten (R317) -/
  ovw : Nat := 0
  /-- staging sequence number that the records behind it begin at (log entry 55) (R318) -/
  next : Nat := 0
  /-- its CRC-32C fails (R317) -/
  bad : Bool := false
deriving DecidableEq, Repr, Inhabited

/-- One log in MRAM with its pointer state (R316). -/
structure LogSt where
  /-- the log's slots (R315) -/
  slots : Tab Record := []
  /-- permanent slots used (R316) -/
  permUsed : Nat := 0
  /-- circulating head (R316) -/
  circHead : Nat := 0
  /-- circulating area full (R316) -/
  circFull : Bool := false
  /-- records overwritten, saturating (R316) -/
  overwritten : Nat := 0
  /-- the two alternating pointer copies in MRAM (R317) -/
  copies : Tab PtrCopy := []
  /-- first acceptance frame of a standing freeze (R322) -/
  frozenFrom : Option Nat := none
  /-- records dropped while frozen (R323) -/
  frozeDrop : Nat := 0
deriving DecidableEq, Repr, Inhabited

/-- One frame of the flight window (Tables 11.6 to 11.8). -/
structure FlightFrame where
  /-- frame number (R326) -/
  frame : Nat := 0
  /-- frame block (R326) -/
  block : List Byte := []
  /-- tick entries (R326) -/
  ticks : List (List Byte) := []
  /-- frame items with their headers (R326) -/
  items : List (List Byte) := []
deriving DecidableEq, Repr, Inhabited

/-- The recorder. -/
structure Rec where
  /-- records of the running frame (R310) -/
  frameRecs : List Record := []
  /-- commits that wait for the dispatch of their frame's messages, and marks behind them, oldest first (R338) -/
  waiting : List WaitCommit := []
  /-- staging ring (R311) -/
  staging : Tab Staged := []
  /-- slot after the newest (R311) -/
  stageNext : Nat := 0
  /-- next staging sequence number (R310) -/
  seqNo : Nat := 0
  /-- the next committed record carries lost_before (R310) -/
  lostNext : Bool := false
  /-- REC_STAGE_OVF, saturating (R310) -/
  stageOvf : Nat := 0
  /-- STAGING_OVERFLOW raised in this excursion (R311) -/
  ovfRaised : Bool := false
  /-- a flush is running (R312) -/
  flushing : Bool := false
  /-- newest trigger frame: records committed up to the end of that frame lie in the cut (R312) -/
  cutFrame : Option Nat := none
  /-- the flush runs without the quota (chip reset waits) (R314) -/
  flushFree : Bool := false
  /-- writes of the cut that the frame's flush has still to make (R313) -/
  writesDue : Nat := 0
  /-- writes the quota left unused in the frame (R328) -/
  quotaLeft : Nat := 0
  /-- sealed log (R315) -/
  sealedLog : LogSt := {}
  /-- open log (R315) -/
  openLog : LogSt := {}
  /-- REC_OPEN_CUR per port (R319) -/
  openCur : Tab Nat := []
  /-- REC_SEALED_CUR per port (R319) -/
  sealedCur : Tab Nat := []
  /-- last frame of the port's sealed session (R320) -/
  session : Tab (Option Nat) := []
  /-- REC_FREEZE_OVF, saturating (R322) -/
  freezeOvf : Nat := 0
  /-- REC_TORN, saturating (R318) -/
  torn : Nat := 0
  /-- REC_PFI_SKIP, saturating (R324) -/
  pfiSkip : Nat := 0
  /-- the power-fail flush runs (R324) -/
  pfiFlush : Bool := false
  /-- staging slots the power-fail flush writes, oldest first (R324) -/
  pfiList : List Nat := []
  /-- paced flushing and the flight copy are stopped by PFI (R324) -/
  paused : Bool := false
  /-- value of each state-list point at the last frame boundary (R309) -/
  statePts : Tab Int := []
  /-- flight ring, newest first (R326) -/
  ring : List FlightFrame := []
  /-- flight frame being written (R326) -/
  runFrame : FlightFrame := {}
  /-- COMMAND items of the commands accepted so far at the boundary under way (R326) -/
  cmdItems : List (List Byte) := []
  /-- flight state (R328) -/
  flight : FlightState := .recording
  /-- trigger frame (R328) -/
  trigFrame : Nat := 0
  /-- cause of the trigger: 0 reaction, 1 command (R309) -/
  trigCause : Nat := 0
  /-- flight freeze area, newest first (R328) -/
  area : List FlightFrame := []
  /-- the area is held (R328) -/
  areaHeld : Bool := false
  /-- frames copied so far (R328) -/
  copied : Nat := 0
  /-- MRAM index shows a copy begun and not complete (R330) -/
  copyWas : Bool := false
  /-- triggers ignored, saturating (R329) -/
  flightIgn : Nat := 0
  /-- FLIGHT_IGNORED raised in this excursion (R329) -/
  ignRaised : Bool := false
deriving DecidableEq, Repr, Inhabited

/-- The fault collector, the alert pins and the reaction table. -/
structure Flt where
  /-- messages raised and still to arrive at the collector (R337) -/
  inflight : List FaultMsg := []
  /-- collector queue, oldest first (R337) -/
  queue : List FaultMsg := []
  /-- FLT_LOST, saturating (R339) -/
  lost : Nat := 0
  /-- host fault FIFO, oldest first (R344) -/
  fifo : List FaultMsg := []
  /-- FLT_INT_OVF (R344) -/
  ovf : Nat := 0
  /-- FLT_INT_MASK (R344) -/
  mask : BitVec 32 := 0
  /-- FLT_ALERT_EN (R345) -/
  alertEn : BitVec 32 := 1
  /-- FLT_NMA_CAUSE (R346) -/
  nmaCause : BitVec 32 := 0
  /-- NMA_N low (R346) -/
  nma : Bool := false
  /-- NMA_N has been low for less than 10 us (R346) -/
  nmaMin : Bool := false
  /-- ERR_N low (R346) -/
  err : Bool := false
  /-- latched ERR_N has been low for less than 10 us (R346) -/
  errMin : Bool := false
  /-- ERR_N cleared by the host and waiting for its minimum low time (R346) -/
  errClear : Bool := false
  /-- ERR_N is in a PULSE (R346) -/
  errPulse : Bool := false
  /-- a batch's reaction table is live (else the ROM default) (R340) -/
  live : Bool := false
  /-- reaction table in force while live (R340) -/
  react : Tab Byte := []
  /-- the table as it stood in the previous frame (R337) -/
  reactPrev : Tab Byte := []
  /-- whether that was a batch table (R337) -/
  reactPrevLive : Bool := false
  /-- block resets due (block, object, frame whose end carries it) (R341) -/
  blockDue : List (Nat × Nat × Nat) := []
  /-- frame whose ending boundary carries a chip reset (R341) -/
  chipDue : Option Nat := none
  /-- the chip reset waits for the flush (R314) -/
  chipWait : Bool := false
  /-- sources whose CHIP_RESET is still being carried out (R339) -/
  chipSrc : List (Nat × Nat) := []
  /-- messages whose reactions the memory controller added: object, kind, frame (R352) -/
  added : List (Nat × Nat × Nat) := []
  /-- (block, object, kind) raised in an excursion that still stands (R7) -/
  once : List (Nat × Nat × Nat) := []
deriving DecidableEq, Repr, Inhabited

/-- Scrub counts of one SRAM SRAM block. -/
structure SramMacro where
  /-- corrections within the pass (R350) -/
  ce : Nat := 0
  /-- SRAM_CE raised in the pass (R350) -/
  ceRaised : Bool := false
  /-- distinct rows rebuilt within the pass (R351) -/
  rebuilt : List Nat := []
  /-- frame of the last SRAM_REBUILT (R350) -/
  rebFrame : Option Nat := none
deriving DecidableEq, Repr, Inhabited

/-- Memory integrity and self-test. -/
structure Mem where
  /-- data SRAM blocks 0-63 and parity SRAM blocks 64-71 (R350) -/
  macros : Tab SramMacro := []
  /-- degraded-block set in force (R362) -/
  degraded : BitVec 64 := 0
  /-- the set in force in the tick whose samples the loops take (Table 2.4) -/
  degTick : BitVec 64 := 0
  /-- degraded-block set from the next frame boundary (R361) -/
  degNext : BitVec 64 := 0
  /-- next target of the sliced BIST (R358) -/
  bistPos : Nat := 0
  /-- targets that failed the last full BIST (R363) -/
  bistResult : BitVec 96 := 0
  /-- commanded slices: target and port x 2 + mailbox (R363) -/
  bistAsk : List (Nat × Nat) := []
  /-- a full BIST runs at the coming reset (R364) -/
  bistFull : Bool := false
  /-- MRAM inner corrections within the pass (R356) -/
  mce : Nat := 0
  /-- MRAM_CE raised in the pass (R356) -/
  mceRaised : Bool := false
  /-- frame of the last MRAM_RS_CORRECTED (R356) -/
  rsFrame : Option Nat := none
  /-- host scratch SRAM (R510) -/
  scratch : Tab Byte := []
  /-- stripe parity words of parity SRAM blocks 64-71, by stripe; the bytes of host scratch are what the spec lays out of their data (R348) -/
  parity : Tab (BitVec 64) := []
  /-- outer parity symbols of the lines of the host non-volatile area; a line not listed has those of its bytes (R354) -/
  outer : Tab (List Nat) := []
  /-- host scratch words that are uncorrectable (R352) -/
  scratchBad : List Nat := []
  /-- host non-volatile area in MRAM (R550) -/
  nv : Tab Byte := []
  /-- host non-volatile words that are uncorrectable (R551) -/
  nvBad : List Nat := []
  /-- bytes of a host non-volatile write in progress (R551) -/
  nvPend : List (Nat × Byte) := []
  /-- a host non-volatile write is in progress (R551) -/
  nvBusy : Bool := false
  /-- TEST_ACCESS_DENIED is due at the next frame boundary (R365) -/
  testDenied : Bool := false
deriving DecidableEq, Repr, Inhabited

/-- The mirrored items of Table 13.5, as applied slices. -/
structure Mirror where
  /-- slices by index (R382) -/
  slices : Tab (List Byte) := []
deriving DecidableEq, Repr, Inhabited

/-- Redundancy: the punty, HOLD_N and PEER. -/
structure Red where
  /-- punty state (R377) -/
  st : Punty := .seeking
  /-- claim inhibit (R388) -/
  inhibit : Bool := false
  /-- punty epoch (saved) (R377) -/
  epoch : Nat := 0
  /-- mirrored epoch (R382) -/
  mirEpoch : Nat := 0
  /-- frames silent on both paths (R375) -/
  silence : Nat := 0
  /-- consecutive frames silent on HOLD_N (R375) -/
  holdSilent : Nat := 0
  /-- consecutive frames silent on PEER (R375) -/
  peerSilent : Nat := 0
  /-- a pulse ended in the running frame (R375) -/
  pulse : Bool := false
  /-- a valid PEER message was taken in in the running frame (R375) -/
  peerMsg : Bool := false
  /-- consecutive boundaries with HOLD_N sampled low (R373) -/
  holdLow : Nat := 0
  /-- HOLD_N sampled high at the last boundary (R377) -/
  holdHigh : Bool := true
  /-- consecutive frames with HOLD_N low at every boundary (R377) -/
  lowFrames : Nat := 0
  /-- HOLD_N sampled low at every boundary of the running frame so far (R377) -/
  lowAll : Bool := true
  /-- the device pulls HOLD_N low (R373) -/
  holdPull : Bool := false
  /-- the device drives the shared nets (R369) -/
  drive : Bool := false
  /-- claim frame (R378) -/
  claimFrame : Nat := 0
  /-- a YIELD was taken in since the last frame boundary (R377) -/
  yieldIn : Bool := false
  /-- frame and tick aligned at the first RENEW (R376) -/
  aligned : Bool := false
  /-- the frame number is advanced to this at the next boundary (R376) -/
  alignPend : Option Nat := none
  /-- PEER link live (HELLO exchanged) (R374) -/
  peerUp : Bool := false
  /-- next sequence number sent on PEER (R374) -/
  txSeq : Nat := 0
  /-- sequence number of the unacknowledged frame (R374) -/
  unacked : Option Nat := none
  /-- repeats of the unacknowledged frame (R374) -/
  retries : Nat := 0
  /-- PEER retries counted (R389) -/
  linkRetries : Nat := 0
  /-- PEER errors counted (R389) -/
  linkErrors : Nat := 0
  /-- PEER_MISMATCH stands (R376) -/
  mismatch : Bool := false
  /-- active copy of the mirror (R382) -/
  mirror : Mirror := {}
  /-- slices of the frame being received, in the order of their arrival (R382) -/
  mirStage : List (Nat × List Byte) := []
  /-- the mirror is complete (R382) -/
  mirComplete : Bool := false
  /-- slices of the current full pass taken so far (R382) -/
  mirPass : List Nat := []
  /-- newest mirrored frame (R389) -/
  mirFrame : Nat := 0
  /-- gap count (R389) -/
  mirGaps : Nat := 0
  /-- values of each mirrored item as last sent by the holder (R382) -/
  mirSent : Tab (List Int) := []
  /-- a full refresh pass runs since HELLO on the holder (R382) -/
  mirTrack : Bool := false
  /-- HOLD_N was sampled low at one to three boundaries and then high (R373) -/
  pulseDue : Bool := false
  /-- sequence number of the PEER frame last taken in (R374) -/
  lastRx : Option Nat := none
  /-- sequence number in the last ACK sent on PEER (R374) -/
  ackTx : Option Nat := none
  /-- a RENEW with a higher epoch was taken in on the holder (R377) -/
  yieldDue : Bool := false
  /-- every grant is re-sent at the next boundary (R376) -/
  grantsAll : Bool := false
  /-- the EN outputs follow peer_live (R372) -/
  enFollow : Bool := false
  /-- position of the rolling refresh (R382) -/
  refresh : Nat := 0
  /-- PEER messages called for and not yet acknowledged, oldest first (R374) -/
  sent : List PeerMsg := []
  /-- frames since the last RENEW (R374) -/
  renewAge : Nat := 0
  /-- counter acknowledged by COUNTER_ACK per key slot (R384) -/
  ctrAcked : Tab Nat := []
  /-- mirrored last accepted counter per key slot (R382) -/
  mirCtr : Tab Nat := []
  /-- forwarded blocks awaiting FORWARD_REPLY (port, mailbox) (R387) -/
  fwd : List (Nat × Nat) := []
  /-- gates sampled on at the claim boundary (R378) -/
  claimGates : BitVec 64 := 0
  /-- EN nets sampled released at the claim boundary (R378) -/
  claimEn : BitVec 32 := 0
deriving DecidableEq, Repr, Inhabited

/-- One Irler message (Table 14.1). -/
structure IrlerMsg where
  /-- type (R394) -/
  typ : Nat := 0
  /-- message ID (R393) -/
  ident : Nat := 0
  /-- sender role (R393) -/
  role : Nat := 0
  /-- addressed to the marker (R393) -/
  marker : Bool := false
  /-- payload (R394) -/
  payload : List Byte := []
deriving DecidableEq, Repr, Inhabited

/-- One tie port. -/
structure TiePort where
  /-- policy state (R400) -/
  st : TieState := .detached
  /-- cable present as sampled at the last tick boundary (R390) -/
  cable : Bool := false
  /-- cable present at every boundary of the running frame so far (R400) -/
  cableAll : Bool := false
  /-- port_en (R409) -/
  portEn : Bool := false
  /-- supply_en (R409) -/
  supplyEn : Bool := false
  /-- this end is the offering end (R400) -/
  offered : Bool := false
  /-- agreed power, mW (R402) -/
  agreed : Int := 0
  /-- power of the outstanding request, mW (R400) -/
  want : Int := 0
  /-- frames in the present wait (R400) -/
  timer : Nat := 0
  /-- frames since anything was taken in from the far end (R399) -/
  heard : Nat := 0
  /-- TIE_ORDINAL_CLASH raised; every REQUEST refused (R400) -/
  clash : Bool := false
  /-- far end's rack ordinal (R394) -/
  farOrdinal : Nat := 0
  /-- far end's role in its last HELLO (R394) -/
  farRole : Nat := 0
  /-- far end's channel closed in its last HELLO (R394) -/
  farClosed : Bool := false
  /-- frames since the last RENEW sent (R406) -/
  renewAge : Nat := 0
  /-- frame at which the requesting end opens and sends RELEASE (R406) -/
  releaseAt : Option Nat := none
  /-- reason of the release under way (R406) -/
  releaseWhy : Nat := 0
  /-- release decided (reason) and due at the coming boundary (R406) -/
  relDue : Option Nat := none
  /-- match held at every boundary of the running frame so far (R404) -/
  matchAll : Bool := false
  /-- match held in the previous frame (R404) -/
  matched : Bool := false
  /-- MATCHING with the own tie channel closing (R411) -/
  closing : Bool := false
  /-- bus value last sent, mV (R404) -/
  lastBus : Int := 0
  /-- frames since the last MATCH sent (R404) -/
  matchAge : Nat := 0
  /-- import, mW (R402) -/
  imp : Int := 0
  /-- the accepted power counts from the next frame (R402) -/
  importDue : Bool := false
  /-- last frame of the resume window (R408) -/
  resume : Option Nat := none
  /-- marker's rated current, mA (R398) -/
  markerMa : Option Nat := none
  /-- marker temperature, 0.01 degC (R398) -/
  markerT : Int := 0
  /-- last MARKER_DATA (R411) -/
  markerData : List Byte := []
  /-- frames since the last MARKER_READ (R398) -/
  markerAge : Nat := 0
  /-- a marker read for a silent far end is outstanding (R399) -/
  markerWait : Bool := false
  /-- messages taken in in the running frame (R397) -/
  intake : List IrlerMsg := []
  /-- type and ID of the last message taken in (R395) -/
  lastIn : Option (Nat × Nat) := none
  /-- ID in the header of the last ACK sent (R394) -/
  ackTx : Option Nat := none
  /-- messages to send, the head in transmission or awaiting its ACK (R395) -/
  txq : List IrlerMsg := []
  /-- the head has been sent and awaits its ACK (R395) -/
  sending : Bool := false
  /-- repeats of the head (R395) -/
  repeats : Nat := 0
  /-- next message ID (R395) -/
  nextId : Nat := 0
  /-- waiting after a line collision (R396) -/
  backoff : Bool := false
  /-- repeat count (R411) -/
  nRepeat : Nat := 0
  /-- CRC count (R411) -/
  nCrc : Nat := 0
  /-- collision count (R411) -/
  nColl : Nat := 0
  /-- falls silent when its channel is OPEN (R410) -/
  disable : Bool := false
  /-- request due (power) at the coming policy frame (R400) -/
  wantReq : Option Int := none
  /-- a SWAP was accepted: OFFER follows the release (R405) -/
  swap : Bool := false
  /-- power of that offer, mW (R405) -/
  carrySwap : Int := 0
  /-- cable present at every boundary of the frame before (R400) -/
  cableSeen : Bool := false
  /-- the far end is silent (R399) -/
  quiet : Bool := false
  /-- messages of the frame before, from which the running frame decides (R397) -/
  prev : List IrlerMsg := []
deriving DecidableEq, Repr, Inhabited

/-- The rack tie. -/
structure Tie where
  /-- TIE_A, TIE_B (R400) -/
  ports : Tab TiePort := []
  /-- hold-up state at the last policy frame (R400) -/
  holdPrev : HoldState := .normal
deriving DecidableEq, Repr, Inhabited

/-- One cane frame (Table 15.3). -/
structure CaneFrame where
  /-- type (R419) -/
  typ : Nat := 0
  /-- node number, 0 broadcast (R419) -/
  node : Nat := 0
  /-- sequence (R420) -/
  seq : Nat := 0
  /-- payload (R419) -/
  payload : List Byte := []
  /-- times sent (R422) -/
  sends : Nat := 0
deriving DecidableEq, Repr, Inhabited

/-- One cane port. -/
structure CanePort where
  /-- port enabled (R431) -/
  enabled : Bool := true
  /-- link UP (R418) -/
  up : Bool := false
  /-- transmit queue (R430) -/
  txq : List CaneFrame := []
  /-- frames since the last query (R425) -/
  queryAge : Nat := 0
  /-- reported node numbers whose rejection stands (R425) -/
  rejected : List Nat := []
  /-- nodes that join at the boundary ending the next frame (R425) -/
  joinDue : List Nat := []
  /-- matching reports taken in in the running frame (R425) -/
  joinNew : List Nat := []
  /-- CANE_QUEUE_DISCARD raised in this excursion (R430) -/
  discardRaised : Bool := false
  /-- a frame found the queue full at the last boundary (R430) -/
  discardNow : Bool := false
  /-- rejects to queue at the coming boundary: reported number, reason (R425) -/
  rejectDue : List (Nat × Nat) := []
  /-- frames that left since the last frame boundary (R430) -/
  sent : List CaneFrame := []
  /-- a query is queued at the coming boundary (R425) -/
  queryDue : Bool := false
deriving DecidableEq, Repr, Inhabited

/-- One cane node. -/
structure CaneNode where
  /-- joined (R425) -/
  joined : Bool := false
  /-- next expected sequence from the node (R420) -/
  rxNext : Nat := 1
  /-- next sequence toward the node (R420) -/
  txNext : Nat := 1
  /-- sequenced frames unacknowledged, oldest first (R422) -/
  unacked : List CaneFrame := []
  /-- frames since the last valid frame (R425) -/
  silent : Nat := 0
  /-- a valid frame arrived in the running frame (R425) -/
  heard : Bool := false
  /-- point updates taken in the running intake frame (R429) -/
  taken : Nat := 0
  /-- INTAKE_OVERFLOW raised in this excursion (R429) -/
  overRaised : Bool := false
  /-- an update of the running frame passed the budget (R429) -/
  overNow : Bool := false
  /-- lost at the boundary that ends this frame (R425) -/
  lostDue : Bool := false
  /-- frames since it was lost (R425) -/
  lostFor : Nat := 0
  /-- running note count (R427) -/
  notes : Nat := 0
  /-- retransmissions counted (R441) -/
  retries : Nat := 0
  /-- node identity of its report (R441) -/
  ident : List Byte := []
  /-- domain count of its report (R426) -/
  domains : Nat := 0
deriving DecidableEq, Repr, Inhabited

/-- Points and cane links. -/
structure Pnt where
  /-- point shadow (R412) -/
  shadow : Tab Point := []
  /-- the running frame's samples (R87) -/
  acc : Tab PointAcc := []
  /-- peek capture of bytes 4-15 per port and point (port x 2^18 + point ID) (R415) -/
  held : Tab (List Byte) := []
  /-- PNT_PEEK_BASE per port (R415) -/
  peekBase : Tab Nat := []
  /-- cane ports (R417) -/
  ports : Tab CanePort := []
  /-- cane nodes 1-63 (R424) -/
  nodes : Tab CaneNode := []
  /-- discarded updates (R441) -/
  updDiscard : Nat := 0
  /-- wrong-direction or reserved frames (R441) -/
  frmDiscard : Nat := 0
  /-- queue discards (R441) -/
  queueDiscard : Nat := 0
deriving DecidableEq, Repr, Inhabited

/-- One host PMBus transaction (R440). -/
structure HostXact where
  /-- PMBus port (R440) -/
  port : Nat := 0
  /-- address (R440) -/
  addr : Nat := 0
  /-- transaction of Table 15.6 (R440) -/
  kind : Nat := 0
  /-- command code (R440) -/
  code : Nat := 0
  /-- PEC used (R440) -/
  pec : Bool := false
  /-- write data (R440) -/
  data : Nat := 0
  /-- port x 2 + mailbox to reply to (R440) -/
  mbox : Nat := 0
  /-- command opcode (R440) -/
  opcode : Nat := 0
deriving DecidableEq, Repr, Inhabited

/-- One PMBus port. -/
structure PmbPort where
  /-- bus hung (R435) -/
  hung : Bool := false
  /-- frames since the last recovery try (R435) -/
  hungFrames : Nat := 0
  /-- ALERT_N sampled asserted: the next transaction is an alert response (R436) -/
  alert : Bool := false
  /-- the line is ignored (R436) -/
  alertIgn : Bool := false
  /-- deasserted at every boundary of the running frame so far (R436) -/
  alertHigh : Bool := false
  /-- address that last answered (R436) -/
  alertAddr : Option Nat := none
  /-- consecutive answers with its status unchanged (R436) -/
  alertRun : Nat := 0
  /-- device whose status is read ahead of all polls (R436) -/
  statusFirst : Option Nat := none
  /-- host transactions in acceptance order (R433) -/
  hostq : List HostXact := []
  /-- poll pace accumulators by position (R433) -/
  acc : Tab Nat := []
  /-- polls due and not started (position, command code) (R433) -/
  pollq : List (Nat × Nat) := []
  /-- transaction in progress (address, command code) (R433) -/
  active : Option (Nat × Nat) := none
  /-- its place in the order: 0 alert response, 1 status after an alert, 2 write, 3 host, 4 poll (R433) -/
  activeKind : Nat := 0
  /-- host results (mailbox, opcode, status, payload) whose replies wait for the frame boundary (R440) -/
  doneq : List (Nat × Nat × Nat × List Byte) := []
  /-- PMB_POLL_OVERRUN raised in this excursion (R433) -/
  overRaised : Bool := false
  /-- PMB_NACK raised in this excursion, per position (R434) -/
  nackRaised : BitVec 16 := 0
  /-- PMB_PEC raised in this excursion, per position (R434) -/
  pecRaised : BitVec 16 := 0
  /-- transactions counted (R441) -/
  count : Nat := 0
  /-- errors counted (R441) -/
  errors : Nat := 0
  /-- mailboxes that await a CMD_PMB_RECOVER reply (R440) -/
  recoverMbox : List Nat := []
deriving DecidableEq, Repr, Inhabited

/-- PMBus ports. -/
structure Pmb where
  /-- PMBus ports (R432) -/
  ports : Tab PmbPort := []
deriving DecidableEq, Repr, Inhabited

/-- One mailbox (Table 16.5). -/
structure Mailbox where
  /-- state (R461) -/
  st : MboxState := .idle
  /-- reply_ready (R461) -/
  ready : Bool := false
  /-- busy_ring (R461) -/
  busyRing : Bool := false
  /-- command window (R459) -/
  cmd : Tab Byte := []
  /-- command block copied at the doorbell (R460) -/
  block : List Byte := []
  /-- doorbell order of the block awaiting verification (R462) -/
  rung : Option Nat := none
  /-- reply window (R461) -/
  reply : List Byte := []
  /-- MAILBOX_BUSY raised in this excursion (R461) -/
  busyRaised : Bool := false
deriving DecidableEq, Repr, Inhabited

/-- One verified command waiting for its acceptance boundary (R61, R62). -/
structure Queued where
  /-- port whose order governs it (R61) -/
  port : PortId := .mgt
  /-- mailbox that receives the reply: port x 2 + urgent (R62) -/
  mbox : Nat := 0
  /-- doorbell completion order within its port (R65) -/
  order : Nat := 0
  /-- the command block (R464) -/
  block : List Byte := []
  /-- verification order (R62) -/
  verAt : Nat := 0
  /-- its MAC was verified (R466) -/
  keyed : Bool := false
  /-- a command-type register write (LOP_ENABLE) (R64) -/
  isReg : Bool := false
  /-- its value (R559) -/
  regVal : Nat := 0
deriving DecidableEq, Repr, Inhabited

/-- Authentication counts of one port (R471). -/
structure AuthPort where
  /-- AUTH_FAIL count (R471) -/
  count : Nat := 0
  /-- frames since the last such rejection (R471) -/
  since : Nat := 0
  /-- frames of lockout remaining (R471) -/
  lock : Option Nat := none
deriving DecidableEq, Repr, Inhabited

/-- One host port's own registers. -/
structure HostPort where
  /-- HST_KEY_SEL (R470) -/
  keySel : Nat := 0
  /-- captured HST_KEY_CTR (R470) -/
  keyCtr : Nat := 0
  /-- MSR_CAP_SEL (R555) -/
  capSel : Nat := 0
  /-- FLT_REACT_SEL (R368) -/
  reactSel : Nat := 0
  /-- captured FLT_REACT_DATA (R368) -/
  reactData : Nat := 0
  /-- LEH_DOM_SEL (R227) -/
  domSel : Nat := 0
  /-- captured LEH_DOM_DATA0-7 (R227) -/
  domData : List (BitVec 32) := []
  /-- HSW_CH_SEL (R283) -/
  chSel : Nat := 0
  /-- captured HSW_CH_DATA0-3 (R283) -/
  chData : List (BitVec 32) := []
  /-- SEQ_RAIL_SEL (R307) -/
  railSel : Nat := 0
  /-- captured SEQ_RAIL_DATA0-3 (R307) -/
  railData : List (BitVec 32) := []
  /-- TIE_MARKER_SEL (R411) -/
  tieSel : Nat := 0
  /-- captured TIE_MARKER_DATA0-2 (R411) -/
  tieData : List (BitVec 32) := []
  /-- PNT_NODE_SEL (R441) -/
  nodeSel : Nat := 0
  /-- captured PNT_NODE_DATA0-3 (R441) -/
  nodeData : List (BitVec 32) := []
  /-- PMB_PORT_SEL (R441) -/
  pmbSel : Nat := 0
  /-- captured PMB_PORT_DATA0-3 (R441) -/
  pmbData : List (BitVec 32) := []
  /-- bytes the port's last read returned (R446) -/
  out : List Byte := []
deriving DecidableEq, Repr, Inhabited

/-- One reply that a command defers (R480). -/
structure Deferred where
  /-- port that sent the command (R480) -/
  port : PortId := .mgt
  /-- mailbox that waits (R461) -/
  mbox : Nat := 0
  /-- the command's opcode (R465) -/
  opcode : Nat := 0
  /-- its acceptance frame (R480) -/
  frame : Nat := 0
  /-- its counter (R465) -/
  counter : Nat := 0
  /-- key slot of its verified MAC (R467) -/
  key : Option Nat := none
deriving DecidableEq, Repr, Inhabited

/-- Host ports, mailboxes and authentication. -/
structure Hst where
  /-- MGT pointer (R446) -/
  mgtPtr : Nat := 0
  /-- MGT target address (R445) -/
  mgtAddr : Nat := 0x48
  /-- HST_MGT_THD (R449) -/
  thd : Nat := 0x1E
  /-- HST_MGT_TSU (R449) -/
  tsu : Nat := 0x0A
  /-- HST_MGT_GLITCH (R449) -/
  glitch : Nat := 0x05
  /-- HST_MGT_THD as in effect since the last START (R449) -/
  thdAct : Nat := 0x1E
  /-- HST_MGT_TSU as in effect since the last START (R449) -/
  tsuAct : Nat := 0x0A
  /-- HST_MGT_GLITCH as in effect since the last START (R449) -/
  glitchAct : Nat := 0x05
  /-- HST_IBR_EN (R452) -/
  ibrEn : BitVec 32 := 0
  /-- an in-band request has been issued since the condition became true (R452) -/
  ibrSent : Bool := false
  /-- a controller has addressed the device since the last request (R452) -/
  addressed : Bool := false
  /-- in-band requests issued (R452) -/
  ibrCount : Nat := 0
  /-- crc_en of HST_FHP_CFG (R457) -/
  crcEn : Bool := false
  /-- crc_en as in effect since the last fall of FHP_CS_N (R457) -/
  crcAct : Bool := false
  /-- HST_FHP_CFG (R457) -/
  fhpCfg : BitVec 32 := 0
  /-- HST_FHP_STATUS: failing address of the last failed read (R458) -/
  failAddr : Nat := 0
  /-- STATUS bit 0 (R458) -/
  fhpCrc : Bool := false
  /-- STATUS bit 1 (R458) -/
  fhpErr : Bool := false
  /-- own registers of MGT (0) and FHP (1) (R555) -/
  ports : Tab HostPort := []
  /-- mailbox port x 2 + urgent (R459) -/
  mboxes : Tab Mailbox := []
  /-- doorbells completed (R460) -/
  ring : Nat := 0
  /-- FORWARD blocks awaiting verification (standby port x 2 + mailbox, place in the order of doorbells, block) (R387) -/
  forwarded : List (Nat × Nat × List Byte) := []
  /-- verified commands in wait order (R61) -/
  queue : List Queued := []
  /-- blocks verified (R462) -/
  verCount : Nat := 0
  /-- last verified counter per slot (R469) -/
  verCtr : Tab Nat := []
  /-- last accepted counter per slot (MRAM) (R469) -/
  accCtr : Tab Nat := []
  /-- MGT (0), FHP (1), PEER (2) (R471) -/
  auth : Tab AuthPort := []
  /-- deferred replies still to be written, oldest first (R480) -/
  deferred : List Deferred := []
  /-- payload of a deferred MRAM read as it stood at acceptance (R480) -/
  defData : Tab (List Byte) := []
  /-- fuse blows in progress (opcode, index, bytes, mailbox) (R517) -/
  fuse : List (Nat × Nat × List Byte × Nat) := []
deriving DecidableEq, Repr, Inhabited

/-- Batch slots, staging and activation. -/
structure Bch where
  /-- slot A (R489) -/
  slotA : Tab Byte := []
  /-- slot B (R489) -/
  slotB : Tab Byte := []
  /-- slot named by the newest commit marker (0 A, 1 B) (R489) -/
  marker : Option Nat := none
  /-- version in the commit marker (R493) -/
  markVersion : Nat := 0
  /-- digest in the commit marker (R493) -/
  markDigest : List Byte := []
  /-- active slot this boot (R489) -/
  active : Option Nat := none
  /-- version of the active batch (R562) -/
  version : Nat := 0
  /-- digest of the active batch (R562) -/
  digest : List Byte := []
  /-- root of the active batch (R488) -/
  root : Nat := 0
  /-- a delivery is recorded (R490) -/
  staging : Bool := false
  /-- version of the delivery (R490) -/
  stVersion : Nat := 0
  /-- chunk count of the delivery (R490) -/
  stCount : Nat := 0
  /-- digest of the delivery (R490) -/
  stDigest : List Byte := []
  /-- resume bitmap (R490) -/
  bitmap : Tab Bool := []
  /-- held pieces at 8 chunk + piece (R483) -/
  pieces : Tab (List Byte) := []
  /-- CRC field of a chunk's held pieces (R483) -/
  pieceCrc : Tab Nat := []
  /-- chunk writes in progress (chunk, bytes, mailbox) (R483) -/
  writing : List (Nat × List Byte × Nat) := []
  /-- last completed activation step (R493) -/
  journal : Nat := 0
  /-- an activation runs (R493) -/
  running : Bool := false
  /-- mailbox of the activation's deferred reply (R493) -/
  actMbox : Nat := 0
  /-- tables loaded in step 2 (R493) -/
  shadow : Option Batch := none
  /-- frames of the pause still to end, and one more until its first boundary is over (R494) -/
  pause : Nat := 0
  /-- the service pause runs (R494) -/
  inPause : Bool := false
  /-- step 4 is a command reset (R496) -/
  switchReset : Bool := false
  /-- the pause has ended at the frame boundary that is under way, so the reaction table of the ended frame is already kept aside (R337) -/
  pauseEnd : Bool := false
  /-- version floor (R499) -/
  floorVersion : Nat := 0
  /-- digest of the floor (R499) -/
  floorDigest : List Byte := []
deriving DecidableEq, Repr, Inhabited

/-- The test access port. -/
structure Tap where
  /-- current instruction (R365) -/
  instr : TapInstr := .bypass
  /-- boundary register (R366) -/
  boundary : List Bool := []
  /-- the core die's logic pins follow the boundary register (R366) -/
  pinsHeld : Bool := false
  /-- HIGHZ is the current instruction (R366) -/
  highz : Bool := false
  /-- data register selected by the last instruction as captured (R365) -/
  dr : Nat := 0
deriving DecidableEq, Repr, Inhabited

/-- Completion of the frame engines' work of the running frame (R75). -/
structure Eng where
  /-- the marver's work is complete (R75) -/
  marver : Bool := false
  /-- the estimator's work is complete (R75) -/
  estimator : Bool := false
  /-- the sequencer's work is complete (R75) -/
  sequencer : Bool := false
  /-- the lehr's work is complete (R75) -/
  lehr : Bool := false
  /-- the recorder's writes are complete (R313) -/
  recorder : Bool := false
  /-- the policy machine's work is complete (R75) -/
  tie : Bool := false
  /-- FRAME_OVERRUN in the frame (R326) -/
  overrun : Bool := false
  /-- the frame engines started on the running frame (R494) -/
  started : Bool := false
  /-- block IDs of the engines that were late at the boundary under way (R75) -/
  late : List Nat := []
deriving DecidableEq, Repr, Inhabited

/-- Pins and levels that no other block holds. -/
structure Pins where
  /-- PFI as sampled at the last tick boundary (R324) -/
  pfi : Bool := false
  /-- PFI sampled asserted at some boundary of the running frame (R226) -/
  pfiAny : Bool := false
  /-- PFI has been sampled asserted and background work has not resumed (R324) -/
  pfiSeen : Bool := false
  /-- WAKE_N as sampled at the last tick boundary (R502) -/
  wake : Bool := false
  /-- RST_N low (R514) -/
  rstLow : Bool := false
  /-- tick boundaries passed since logical time started (absolute tick) (R30) -/
  tickInputs : Nat := 0
deriving DecidableEq, Repr, Inhabited

/-- The whole device. -/
structure State where
  /-- dies, reset and boot (R15) -/
  sys : Sys := {}
  /-- warmer (R502) -/
  wrm : Warmer := {}
  /-- OTP (R40) -/
  otp : Otp := {}
  /-- time (R41) -/
  tim : Tim := {}
  /-- measurement (R76) -/
  msr : Msr := {}
  /-- loop engine (R109) -/
  lop : Lop := {}
  /-- phases and stages (R142) -/
  stg : Stg := {}
  /-- sharing and hold-up (R178) -/
  shr : Shr := {}
  /-- lehr (R206) -/
  leh : Leh := {}
  /-- batteries (R228) -/
  bat : Bat := {}
  /-- channels (R254) -/
  hsw : Hsw := {}
  /-- sequencer (R284) -/
  seq : Seq := {}
  /-- recorder (R308) -/
  recd : Rec := {}
  /-- fault collector (R337) -/
  flt : Flt := {}
  /-- memory (R348) -/
  mem : Mem := {}
  /-- redundancy (R371) -/
  red : Red := {}
  /-- rack tie (R400) -/
  tie : Tie := {}
  /-- points and cane (R412) -/
  pnt : Pnt := {}
  /-- PMBus (R432) -/
  pmb : Pmb := {}
  /-- host ports (R442) -/
  hst : Hst := {}
  /-- batch images (R484) -/
  bch : Bch := {}
  /-- TAP (R365) -/
  tap : Tap := {}
  /-- engine completion (R75) -/
  eng : Eng := {}
  /-- pins (R519) -/
  pin : Pins := {}
  /-- tables of the live batch, none while no batch is live (R484) -/
  batch : Option Batch := none
  /-- settings the power die holds, loaded from the live tables; they stand through every reset but a cold power-on (R19) -/
  pd : Option Batch := none
  /-- counter that selects the next free value (the model's own field) -/
  free : Nat := 0
  /-- commands waiting, first in first out (the model's own field) -/
  pending : List Instr := []
deriving DecidableEq, Repr

/-- Why the machine stops. No command of this block stops the device, so no meaning raises one: the faults the spec
describes are messages to the collector (R337), which are effects on State. -/
inductive Fault
  /-- Raised by nobody: the device has no step that halts it. Safe: it is never answered. -/
  | halted
deriving DecidableEq, Repr

/-- Why a command has no meaning. -/
inductive Refusal
  /-- Raised by the dispatch for a command whose meaning is not written. Safe: nothing is claimed of it. -/
  | notModelled (mnemonic : String)
  /-- Raised by the meanings of the internal test instructions where R365 permits them: the spec gives the instruction no
  effect on any state that it describes. Safe: the machine stops where the hardware goes on. -/
  | internalTest
deriving DecidableEq, Repr

/-- The device right after a cold power-on as it arrives: the core die is held in reset, the warmer runs from its ROM
values, every fuse is unblown, nothing is stored in MRAM and no command waits (R514, R515, R517). Values the spec does not
give are the field defaults (DESIGN CHOICE, log entry 2). -/
def State.reset : State := {}

end Sys2Proof.Machine
end

