-- ==== Sys2Proof/Machine/Arith.lean ====
section
/-! DEFINITION. Control arithmetic (R11, R12), little-endian fields (R8) and the two CRCs the spec names. -/
namespace Sys2Proof.Machine

/-- Quotient of exact integers rounded half to even (R12); the divisor is positive. -/
def divRhe (a : Int) (b : Int) : Int :=
  let q := a.fdiv b
  let r := a - q * b
  if 2 * r < b then q
  else if 2 * r > b then q + 1
  else if q % 2 = 0 then q else q + 1

/-- Right shift by n places rounded half to even (R12). -/
def shrRhe (a : Int) (n : Nat) : Int := divRhe a ((2 : Int) ^ n)

/-- A value held between two limits. -/
def clampI (lo hi v : Int) : Int := if v < lo then lo else if v > hi then hi else v

/-- Saturation of a signed result at n bits (R12). -/
def satS (n : Nat) (v : Int) : Int := clampI (-((2 : Int) ^ (n - 1))) ((2 : Int) ^ (n - 1) - 1) v

/-- Saturation at a signed 32-bit value. -/
def sat32 (v : Int) : Int := clampI (-2147483648) 2147483647 v

/-- Saturation of an unsigned result at n bits. -/
def satU (n : Nat) (v : Int) : Int := clampI 0 ((2 : Int) ^ n - 1) v

/-- A saturating 32-bit count one step on. -/
def inc32 (n : Nat) : Nat := if n ≥ 4294967295 then 4294967295 else n + 1

/-- A saturating 32-bit count k steps on. -/
def add32 (n k : Nat) : Nat := min (n + k) 4294967295

/-- A saturating count of a width in bits, one step on. -/
def incSat (bits n : Nat) : Nat := min (n + 1) (2 ^ bits - 1)

/-- The natural number of a non-negative integer, 0 for a negative one. -/
def natOf (v : Int) : Nat := v.toNat

/-- The unsigned number that holds a signed one in n bits. -/
def toBits (n : Nat) (v : Int) : Nat := (v % (2 : Int) ^ n).toNat

/-- The signed number that n bits hold. -/
def ofBits (n : Nat) (v : Nat) : Int :=
  let w := v % 2 ^ n
  if w < 2 ^ (n - 1) then (w : Int) else (w : Int) - (2 : Int) ^ n

/-- Bit k of a number. -/
def bitAt (v k : Nat) : Bool := (v / 2 ^ k) % 2 = 1

/-- Bits hi down to lo of a number. -/
def bitsOf (v hi lo : Nat) : Nat := (v / 2 ^ lo) % 2 ^ (hi + 1 - lo)

/-- One bit as a number. -/
def b2n (b : Bool) : Nat := if b then 1 else 0

/-- The n low bytes of a number, least significant first (R8). -/
def leBytes : Nat → Nat → List Byte
  | 0, _ => []
  | n + 1, v => BitVec.ofNat 8 v :: leBytes n (v / 256)

/-- The number that little-endian bytes spell. -/
def leNat : List Byte → Nat
  | [] => 0
  | b :: r => b.toNat + 256 * leNat r

/-- n little-endian bytes of a signed value. -/
def leInt (n : Nat) (v : Int) : List Byte := leBytes n (toBits (8 * n) v)

/-- The n bytes at an offset, zeros beyond the end. -/
def slice (l : List Byte) (off n : Nat) : List Byte :=
  let t := (l.drop off).take n
  t ++ List.replicate (n - t.length) 0

/-- The little-endian number of n bytes at an offset. -/
def field (l : List Byte) (off n : Nat) : Nat := leNat (slice l off n)

/-- A list cut or filled with zeros to a length. -/
def padTo (n : Nat) (l : List Byte) : List Byte := slice l 0 n

/-- A list without its trailing zeros (the form in which bodies are held). -/
def trimZeros (l : List Byte) : List Byte := (l.reverse.dropWhile (· == 0)).reverse

/-- The entry of a list, a default beyond its end. -/
def nth {α : Type} [Inhabited α] (l : List α) (i : Nat) : α := l.getD i default

/-- The list with one entry replaced, filled with defaults up to it. -/
def setNth {α : Type} [Inhabited α] : List α → Nat → α → List α
  | [], 0, v => [v]
  | [], n + 1, v => default :: setNth [] n v
  | _ :: r, 0, v => v :: r
  | x :: r, n + 1, v => x :: setNth r n v

/-- Every listed entry of a table changed by a function of its index. -/
def tabMap {α : Type} [Inhabited α] [DecidableEq α] (f : Nat → α → α) (t : Tab α) : Tab α :=
  t.modifyAll (t.map (·.1)) f

/-- The indices that a table lists. -/
def tabKeys {α : Type} (t : Tab α) : List Nat := t.map (·.1)

/-- Sum of a list of integers. -/
def sumI (l : List Int) : Int := l.foldl (· + ·) 0

/-- Largest of a list of integers, none of an empty list. -/
def maxI : List Int → Option Int
  | [] => none
  | x :: r => some (r.foldl (fun a b => if b > a then b else a) x)

/-- Smallest of a list of integers, none of an empty list. -/
def minI : List Int → Option Int
  | [] => none
  | x :: r => some (r.foldl (fun a b => if b < a then b else a) x)

/-- Insertion of one element before the first that it precedes (a stable sort's step). -/
def insertBy {α : Type} (lt : α → α → Bool) (x : α) : List α → List α
  | [] => [x]
  | y :: r => if lt x y then x :: y :: r else y :: insertBy lt x r

/-- A stable sort by insertion. -/
def sortBy {α : Type} (lt : α → α → Bool) (l : List α) : List α :=
  l.foldl (fun acc x => insertBy lt x acc) []

/-- One bit of a bit vector. -/
def bvGet {n : Nat} (v : BitVec n) (i : Nat) : Bool := v.getLsbD i

/-- A bit vector with one bit set or cleared. -/
def bvPut {n : Nat} (v : BitVec n) (i : Nat) (b : Bool) : BitVec n :=
  if b then v ||| BitVec.ofNat n (2 ^ i) else v &&& ~~~(BitVec.ofNat n (2 ^ i))

/-- A bit vector from the values of a function at each place. -/
def bvOf (n : Nat) (f : Nat → Bool) : BitVec n :=
  (List.range n).foldl (fun v i => if f i then bvPut v i true else v) 0

/-- How many of the first n bits are set. -/
def popCount {n : Nat} (v : BitVec n) : Nat := ((List.range n).filter (bvGet v)).length

/-- One shift of a reflected CRC register. -/
def crcShift (poly : Nat) (c : Nat) : Nat := if c % 2 = 1 then (c / 2) ^^^ poly else c / 2

/-- One byte into a reflected CRC register. -/
def crcByte (poly c : Nat) (b : Byte) : Nat :=
  let f := crcShift poly
  f (f (f (f (f (f (f (f (c ^^^ b.toNat))))))))

/-- CRC-32C, the Castagnoli polynomial in its reflected form 0x82F63B78, started at all ones and complemented at the end
(the parameters of the published CRC-32C: PRESUMED, log entry 11). -/
def crc32c (l : List Byte) : Nat := (l.foldl (crcByte 0x82F63B78) 0xFFFFFFFF) ^^^ 0xFFFFFFFF

/-- One bit into the CRC-16 register, most significant bit first. -/
def crc16Shift (c : Nat) : Nat := if c ≥ 32768 then ((c * 2) % 65536) ^^^ 0x1021 else c * 2

/-- CRC-16 with polynomial 0x1021 started at 0xFFFF, most significant bit first (R457 gives polynomial,
start value and order of bits). -/
def crc16 (l : List Byte) : Nat :=
  l.foldl (fun c b =>
    let f := crc16Shift
    f (f (f (f (f (f (f (f (c ^^^ (b.toNat * 256)))))))))) 0xFFFF


end Sys2Proof.Machine
end

