-- ==== Sys2Proof/Machine/Crypto.lean ====
section
/-! DEFINITION. The cryptographic functions the spec names: SHA-256 with HMAC (R463 to R467), SHA-384 and ECDSA over
P-384 (R484 to R488). The spec names the standards and gives none of their steps: everything in this file is the published
standard (PRESUMED, log entry 11). -/
namespace Sys2Proof.Machine

/-- Round constants of SHA-256. -/
def sha256K : List Nat :=
  [0x428a2f98, 0x71374491, 0xb5c0fbcf, 0xe9b5dba5, 0x3956c25b, 0x59f111f1, 0x923f82a4, 0xab1c5ed5] ++
  [0xd807aa98, 0x12835b01, 0x243185be, 0x550c7dc3, 0x72be5d74, 0x80deb1fe, 0x9bdc06a7, 0xc19bf174] ++
  [0xe49b69c1, 0xefbe4786, 0xfc19dc6, 0x240ca1cc, 0x2de92c6f, 0x4a7484aa, 0x5cb0a9dc, 0x76f988da] ++
  [0x983e5152, 0xa831c66d, 0xb00327c8, 0xbf597fc7, 0xc6e00bf3, 0xd5a79147, 0x6ca6351, 0x14292967] ++
  [0x27b70a85, 0x2e1b2138, 0x4d2c6dfc, 0x53380d13, 0x650a7354, 0x766a0abb, 0x81c2c92e, 0x92722c85] ++
  [0xa2bfe8a1, 0xa81a664b, 0xc24b8b70, 0xc76c51a3, 0xd192e819, 0xd6990624, 0xf40e3585, 0x106aa070] ++
  [0x19a4c116, 0x1e376c08, 0x2748774c, 0x34b0bcb5, 0x391c0cb3, 0x4ed8aa4a, 0x5b9cca4f, 0x682e6ff3] ++
  [0x748f82ee, 0x78a5636f, 0x84c87814, 0x8cc70208, 0x90befffa, 0xa4506ceb, 0xbef9a3f7, 0xc67178f2]

/-- Initial value of SHA-256. -/
def sha256H : List Nat :=
  [0x6a09e667, 0xbb67ae85, 0x3c6ef372, 0xa54ff53a, 0x510e527f, 0x9b05688c, 0x1f83d9ab, 0x5be0cd19]

/-- Round constants of SHA-384. -/
def sha512K : List Nat :=
  [0x428a2f98d728ae22, 0x7137449123ef65cd, 0xb5c0fbcfec4d3b2f, 0xe9b5dba58189dbbc] ++
  [0x3956c25bf348b538, 0x59f111f1b605d019, 0x923f82a4af194f9b, 0xab1c5ed5da6d8118] ++
  [0xd807aa98a3030242, 0x12835b0145706fbe, 0x243185be4ee4b28c, 0x550c7dc3d5ffb4e2] ++
  [0x72be5d74f27b896f, 0x80deb1fe3b1696b1, 0x9bdc06a725c71235, 0xc19bf174cf692694] ++
  [0xe49b69c19ef14ad2, 0xefbe4786384f25e3, 0xfc19dc68b8cd5b5, 0x240ca1cc77ac9c65] ++
  [0x2de92c6f592b0275, 0x4a7484aa6ea6e483, 0x5cb0a9dcbd41fbd4, 0x76f988da831153b5] ++
  [0x983e5152ee66dfab, 0xa831c66d2db43210, 0xb00327c898fb213f, 0xbf597fc7beef0ee4] ++
  [0xc6e00bf33da88fc2, 0xd5a79147930aa725, 0x6ca6351e003826f, 0x142929670a0e6e70] ++
  [0x27b70a8546d22ffc, 0x2e1b21385c26c926, 0x4d2c6dfc5ac42aed, 0x53380d139d95b3df] ++
  [0x650a73548baf63de, 0x766a0abb3c77b2a8, 0x81c2c92e47edaee6, 0x92722c851482353b] ++
  [0xa2bfe8a14cf10364, 0xa81a664bbc423001, 0xc24b8b70d0f89791, 0xc76c51a30654be30] ++
  [0xd192e819d6ef5218, 0xd69906245565a910, 0xf40e35855771202a, 0x106aa07032bbd1b8] ++
  [0x19a4c116b8d2d0c8, 0x1e376c085141ab53, 0x2748774cdf8eeb99, 0x34b0bcb5e19b48a8] ++
  [0x391c0cb3c5c95a63, 0x4ed8aa4ae3418acb, 0x5b9cca4f7763e373, 0x682e6ff3d6b2b8a3] ++
  [0x748f82ee5defb2fc, 0x78a5636f43172f60, 0x84c87814a1f0ab72, 0x8cc702081a6439ec] ++
  [0x90befffa23631e28, 0xa4506cebde82bde9, 0xbef9a3f7b2c67915, 0xc67178f2e372532b] ++
  [0xca273eceea26619c, 0xd186b8c721c0c207, 0xeada7dd6cde0eb1e, 0xf57d4f7fee6ed178] ++
  [0x6f067aa72176fba, 0xa637dc5a2c898a6, 0x113f9804bef90dae, 0x1b710b35131c471b] ++
  [0x28db77f523047d84, 0x32caab7b40c72493, 0x3c9ebe0a15c9bebc, 0x431d67c49c100d4c] ++
  [0x4cc5d4becb3e42b6, 0x597f299cfc657e2a, 0x5fcb6fab3ad6faec, 0x6c44198c4a475817]

/-- Initial value of SHA-384. -/
def sha384H : List Nat :=
  [0xcbbb9d5dc1059ed8, 0x629a292a367cd507, 0x9159015a3070dd17, 0x152fecd8f70e5939] ++
  [0x67332667ffc00b31, 0x8eb44a8768581511, 0xdb0c2e0d64f98fa7, 0x47b5481dbefa4fa4]

/-- The parameters of one member of the SHA-2 family. -/
structure ShaKind where
  /-- word width in bits -/
  w : Nat
  /-- rotations of the two big sigmas and the two small ones; the last of each small one is a shift -/
  rot : List Nat
  /-- round constants -/
  k : List Nat
  /-- initial value -/
  h : List Nat

/-- SHA-256. -/
def sha256Kind : ShaKind := ⟨32, [2, 13, 22, 6, 11, 25, 7, 18, 3, 17, 19, 10], sha256K, sha256H⟩

/-- SHA-384. -/
def sha384Kind : ShaKind := ⟨64, [28, 34, 39, 14, 18, 41, 1, 8, 7, 19, 61, 6], sha512K, sha384H⟩

/-- Rotation right of a word. -/
def rotr (w n x : Nat) : Nat := (x >>> n) ||| ((x <<< (w - n)) % 2 ^ w)

/-- The message schedule: words are held newest first. -/
def shaExpand (q : ShaKind) : Nat → List Nat → List Nat
  | 0, ws => ws
  | n + 1, ws =>
    let r := fun i => q.rot.getD i 0
    let x := ws.getD 14 0
    let y := ws.getD 1 0
    let s0 := (rotr q.w (r 6) x ^^^ rotr q.w (r 7) x) ^^^ (x >>> r 8)
    let s1 := (rotr q.w (r 9) y ^^^ rotr q.w (r 10) y) ^^^ (y >>> r 11)
    shaExpand q n ((ws.getD 15 0 + s0 + ws.getD 6 0 + s1) % 2 ^ q.w :: ws)

/-- One round on the eight working words. -/
def shaRound (q : ShaKind) (v : List Nat) (kw : Nat × Nat) : List Nat :=
  match v with
  | [a, b, c, d, e, f, g, h] =>
    let r := fun i => q.rot.getD i 0
    let m := 2 ^ q.w
    let s1 := (rotr q.w (r 3) e ^^^ rotr q.w (r 4) e) ^^^ rotr q.w (r 5) e
    let ch := (e &&& f) ^^^ ((m - 1 - e) &&& g)
    let t1 := (h + s1 + ch + kw.1 + kw.2) % m
    let s0 := (rotr q.w (r 0) a ^^^ rotr q.w (r 1) a) ^^^ rotr q.w (r 2) a
    let mj := ((a &&& b) ^^^ (a &&& c)) ^^^ (b &&& c)
    [(t1 + s0 + mj) % m, a, b, c, (d + t1) % m, e, f, g]
  | _ => v

/-- The number that big-endian bytes spell. -/
def beNat (l : List Byte) : Nat := l.foldl (fun a b => a * 256 + b.toNat) 0

/-- n big-endian bytes of a number. -/
def beBytes (n v : Nat) : List Byte := (leBytes n v).reverse

/-- The list cut into pieces of n entries, at most the given number of them. -/
def chunksOf {α : Type} (n : Nat) : Nat → List α → List (List α)
  | 0, _ => []
  | _, [] => []
  | c + 1, l => l.take n :: chunksOf n c (l.drop n)

/-- One block into the chaining value. -/
def shaBlock (q : ShaKind) (hs : List Nat) (blk : List Byte) : List Nat :=
  let ws := (chunksOf (q.w / 8) 16 blk).map beNat
  let sched := (shaExpand q (q.k.length - 16) ws.reverse).reverse
  let v := (q.k.zip sched).foldl (shaRound q) hs
  (hs.zip v).map (fun p => (p.1 + p.2) % 2 ^ q.w)

/-- The padded message. -/
def shaPad (q : ShaKind) (l : List Byte) : List Byte :=
  let blk := q.w * 2
  let lenB := q.w / 4
  let z := (blk - (l.length + 1 + lenB) % blk) % blk
  l ++ [0x80] ++ List.replicate z 0 ++ beBytes lenB (8 * l.length)

/-- The digest, cut to a length in bytes. -/
def sha (q : ShaKind) (n : Nat) (l : List Byte) : List Byte :=
  let m := shaPad q l
  let hs := (chunksOf (q.w * 2) (m.length / (q.w * 2)) m).foldl (shaBlock q) q.h
  (hs.flatMap (beBytes (q.w / 8))).take n

/-- SHA-256 of a message, 32 bytes. -/
def sha256 (l : List Byte) : List Byte := sha sha256Kind 32 l

/-- SHA-384 of a message, 48 bytes. -/
def sha384 (l : List Byte) : List Byte := sha sha384Kind 48 l

/-- HMAC-SHA-256 of a message under a key of at most one block. -/
def hmac256 (key msg : List Byte) : List Byte :=
  let k := padTo 64 key
  sha256 (k.map (· ^^^ 0x5c) ++ sha256 (k.map (· ^^^ 0x36) ++ msg))

/-- Field prime of P-384. -/
def p384P : Nat := 0xfffffffffffffffffffffffffffffffffffffffffffffffffffffffffffffffeffffffff0000000000000000ffffffff

/-- Constant b of the curve. -/
def p384B : Nat := 0xb3312fa7e23ee7e4988e056be3f82d19181d9c6efe8141120314088f5013875ac656398d8a2ed19d2a85c8edd3ec2aef

/-- Order of the base point. -/
def p384N : Nat := 0xffffffffffffffffffffffffffffffffffffffffffffffffc7634d81f4372ddf581a0db248b0a77aecec196accc52973

/-- The base point. -/
def p384G : Nat × Nat := (0xaa87ca22be8b05378eb1c71ef320ad746e1d3b628ba79b9859f741e082542a385502f25dbf55296c3a545e3872760ab7,
  0x3617de4a96262c6f5d9e98bf9292dc29f8f41dbd289a147ce9da3113b5f0b8c00a60b1ce1d7e819d7a431d7c90ea0e5f)

/-- A power by squaring over the bits of the exponent, lowest first. -/
def powMod (m : Nat) : Nat → Nat → Nat → Nat → Nat
  | 0, _, _, acc => acc
  | fuel + 1, b, e, acc =>
    powMod m fuel (b * b % m) (e / 2) (if e % 2 = 1 then acc * b % m else acc)

/-- The inverse modulo a prime below 2^384. -/
def invMod (m a : Nat) : Nat := powMod m 384 (a % m) (m - 2) 1

/-- Difference modulo m. -/
def subMod (m a b : Nat) : Nat := (a + (m - b % m)) % m

/-- Sum of two points of the curve; none is the point at infinity. -/
def ecAdd : Option (Nat × Nat) → Option (Nat × Nat) → Option (Nat × Nat)
  | none, q => q
  | q, none => q
  | some (x1, y1), some (x2, y2) =>
    let m := p384P
    if x1 = x2 ∧ (y1 + y2) % m = 0 then none
    else
      let l := if x1 = x2 then subMod m (3 * x1 * x1) 3 * invMod m (2 * y1) % m
        else subMod m y2 y1 * invMod m (subMod m x2 x1) % m
      let x := subMod m (l * l) (x1 + x2)
      some (x, subMod m (l * subMod m x1 x) y1)

/-- Multiple of a point over the bits of a number, lowest first. -/
def ecMul : Nat → Nat → Option (Nat × Nat) → Option (Nat × Nat) → Option (Nat × Nat)
  | 0, _, _, acc => acc
  | fuel + 1, k, pt, acc => ecMul fuel (k / 2) (ecAdd pt pt) (if k % 2 = 1 then ecAdd acc pt else acc)

/-- ECDSA verification over P-384 of a 48-byte digest: key X then Y and signature r then s, each number big-endian. -/
def ecdsaVerify (key sig digest : List Byte) : Bool :=
  let x := beNat (slice key 0 48)
  let y := beNat (slice key 48 48)
  let r := beNat (slice sig 0 48)
  let s := beNat (slice sig 48 48)
  let m := p384P
  let onCurve := decide (x < m ∧ y < m ∧ y * y % m = (subMod m (x * x * x) (3 * x) + p384B) % m)
  let rangeOk := decide (0 < r ∧ r < p384N ∧ 0 < s ∧ s < p384N)
  if onCurve && rangeOk then
    let w := invMod p384N s
    let u1 := beNat digest * w % p384N
    let u2 := r * w % p384N
    match ecAdd (ecMul 384 u1 (some p384G) none) (ecMul 384 u2 (some (x, y)) none) with
    | none => false
    | some (px, _) => px % p384N = r
  else false

end Sys2Proof.Machine
end

