-- ==== Sys2Proof/Machine/Kinds.lean ====
section
/-! DEFINITION. The fault kinds of Table 12.10 as (block, code), and the ROM default reaction table (R340, R367). -/
namespace Sys2Proof.Machine

/-- SYS_ DIE_LINK_ERROR. -/
def kDieLinkError : Nat × Nat := (0x01, 0x01)

/-- SYS_ DIE_LINK_LOSS. -/
def kDieLinkLoss : Nat × Nat := (0x01, 0x02)

/-- SYS_ FRAME_OVERRUN. -/
def kFrameOverrun : Nat × Nat := (0x01, 0x03)

/-- SYS_ THERM_SHUTDOWN. -/
def kThermShutdown : Nat × Nat := (0x01, 0x04)

/-- SYS_ INPUT_MARGINAL. -/
def kInputMarginal : Nat × Nat := (0x01, 0x05)

/-- SYS_ SUPPLY_RANGE. -/
def kSupplyRange : Nat × Nat := (0x01, 0x06)

/-- SYS_ ADOPT_MISMATCH. -/
def kAdoptMismatch : Nat × Nat := (0x01, 0x07)

/-- TIM_ SYNC_LOSS. -/
def kSyncLoss : Nat × Nat := (0x02, 0x01)

/-- TIM_ SYNC_RANGE. -/
def kSyncRange : Nat × Nat := (0x02, 0x02)

/-- TIM_ SYNC_LOCK. -/
def kSyncLock : Nat × Nat := (0x02, 0x03)

/-- TIM_ TREF_LOSS. -/
def kTrefLoss : Nat × Nat := (0x02, 0x04)

/-- TIM_ TREF_LOCK. -/
def kTrefLock : Nat × Nat := (0x02, 0x05)

/-- TIM_ PPS_LOSS. -/
def kPpsLoss : Nat × Nat := (0x02, 0x06)

/-- TIM_ CHASSIS_STEP. -/
def kChassisStep : Nat × Nat := (0x02, 0x07)

/-- HST_ AUTH_FAIL. -/
def kAuthFail : Nat × Nat := (0x03, 0x01)

/-- HST_ COUNTER_REPLAY. -/
def kCounterReplay : Nat × Nat := (0x03, 0x02)

/-- HST_ CMD_MALFORMED. -/
def kCmdMalformed : Nat × Nat := (0x03, 0x03)

/-- HST_ MAILBOX_BUSY. -/
def kMailboxBusy : Nat × Nat := (0x03, 0x04)

/-- HST_ FHP_CRC. -/
def kFhpCrc : Nat × Nat := (0x03, 0x05)

/-- HST_ SDA_RELEASED. -/
def kSdaReleased : Nat × Nat := (0x03, 0x06)

/-- MSR_ CAPTURE_LOSS. -/
def kCaptureLoss : Nat × Nat := (0x05, 0x01)

/-- MSR_ SENSOR_BROKEN. -/
def kSensorBroken : Nat × Nat := (0x05, 0x02)

/-- MSR_ SENSOR_RESTORED. -/
def kSensorRestored : Nat × Nat := (0x05, 0x03)

/-- MSR_ THERM_RISE_WARN. -/
def kThermRiseWarn : Nat × Nat := (0x05, 0x04)

/-- MSR_ THERM_THROTTLE. -/
def kThermThrottle : Nat × Nat := (0x05, 0x05)

/-- MSR_ THERM_CLEAR. -/
def kThermClear : Nat × Nat := (0x05, 0x06)

/-- MSR_ ADC_CONV_FAIL. -/
def kAdcConvFail : Nat × Nat := (0x05, 0x07)

/-- LOP_ RESIDUAL. -/
def kResidual : Nat × Nat := (0x06, 0x01)

/-- LOP_ LOOP_STOPPED. -/
def kLoopStopped : Nat × Nat := (0x06, 0x02)

/-- LOP_ LOOP_OVERRUN. -/
def kLoopOverrun : Nat × Nat := (0x06, 0x03)

/-- LOP_ LOOP_SKIP. -/
def kLoopSkip : Nat × Nat := (0x06, 0x04)

/-- LOP_ SLACK_LOW. -/
def kSlackLow : Nat × Nat := (0x06, 0x05)

/-- LOP_ MODE_DISAGREE. -/
def kModeDisagree : Nat × Nat := (0x06, 0x06)

/-- LOP_ FLOOR_EXCEEDED. -/
def kFloorExceeded : Nat × Nat := (0x06, 0x07)

/-- LOP_ LANE_FAIL. -/
def kLaneFail : Nat × Nat := (0x06, 0x08)

/-- STG_ CYCLE_LIMIT. -/
def kCycleLimit : Nat × Nat := (0x07, 0x01)

/-- STG_ STAGE_OV. -/
def kStageOv : Nat × Nat := (0x07, 0x02)

/-- STG_ STAGE_LOST. -/
def kStageLost : Nat × Nat := (0x07, 0x03)

/-- STG_ SHED_ABORT. -/
def kShedAbort : Nat × Nat := (0x07, 0x04)

/-- STG_ PHASE_OPEN. -/
def kPhaseOpen : Nat × Nat := (0x07, 0x05)

/-- STG_ PHASE_MASKED. -/
def kPhaseMasked : Nat × Nat := (0x07, 0x06)

/-- SHR_ RECT_FAULT. -/
def kRectFault : Nat × Nat := (0x08, 0x01)

/-- SHR_ RECT_SILENT. -/
def kRectSilent : Nat × Nat := (0x08, 0x02)

/-- SHR_ RECT_INPUT_LOST. -/
def kRectInputLost : Nat × Nat := (0x08, 0x03)

/-- SHR_ RECT_UNPARK_TIMEOUT. -/
def kRectUnparkTimeout : Nat × Nat := (0x08, 0x04)

/-- SHR_ RECT_CONFIG. -/
def kRectConfig : Nat × Nat := (0x08, 0x05)

/-- SHR_ SHARE_TOL. -/
def kShareTol : Nat × Nat := (0x08, 0x06)

/-- SHR_ RESERVE_SHORT. -/
def kReserveShort : Nat × Nat := (0x08, 0x07)

/-- SHR_ HOLDUP_ENTER. -/
def kHoldupEnter : Nat × Nat := (0x08, 0x08)

/-- SHR_ HOLDUP_EXIT. -/
def kHoldupExit : Nat × Nat := (0x08, 0x09)

/-- SHR_ HOLDUP_NO_CAPABILITY. -/
def kHoldupNoCapability : Nat × Nat := (0x08, 0x0A)

/-- LEH_ DEMAND_SILENT. -/
def kDemandSilent : Nat × Nat := (0x09, 0x01)

/-- LEH_ FLOOR_SHED. -/
def kFloorShed : Nat × Nat := (0x09, 0x02)

/-- LEH_ FLOOR_RESTORE. -/
def kFloorRestore : Nat × Nat := (0x09, 0x03)

/-- LEH_ COMMIT_OVER. -/
def kCommitOver : Nat × Nat := (0x09, 0x04)

/-- LEH_ GRANT_OVERDRAW. -/
def kGrantOverdraw : Nat × Nat := (0x09, 0x05)

/-- LEH_ ENFORCE_START. -/
def kEnforceStart : Nat × Nat := (0x09, 0x06)

/-- LEH_ ENFORCE_END. -/
def kEnforceEnd : Nat × Nat := (0x09, 0x07)

/-- LEH_ BG_LATE. -/
def kBgLate : Nat × Nat := (0x09, 0x08)

/-- BAT_ MODULE_SILENT. -/
def kModuleSilent : Nat × Nat := (0x0A, 0x01)

/-- BAT_ MODULE_ALARM. -/
def kModuleAlarm : Nat × Nat := (0x0A, 0x02)

/-- BAT_ STRING_SENSE_LOST. -/
def kStringSenseLost : Nat × Nat := (0x0A, 0x03)

/-- BAT_ DISCORDANT. -/
def kDiscordant : Nat × Nat := (0x0A, 0x04)

/-- BAT_ EOD_REACHED. -/
def kEodReached : Nat × Nat := (0x0A, 0x05)

/-- BAT_ REST_CORRECTION. -/
def kRestCorrection : Nat × Nat := (0x0A, 0x06)

/-- BAT_ RELEARN_DONE. -/
def kRelearnDone : Nat × Nat := (0x0A, 0x07)

/-- BAT_ RELEARN_REFUSED. -/
def kRelearnRefused : Nat × Nat := (0x0A, 0x08)

/-- BAT_ CHARGE_INHIBIT. -/
def kChargeInhibit : Nat × Nat := (0x0A, 0x09)

/-- BAT_ CHARGE_TIMEOUT. -/
def kChargeTimeout : Nat × Nat := (0x0A, 0x0A)

/-- BAT_ ZTABLE_DROP. -/
def kZtableDrop : Nat × Nat := (0x0A, 0x0B)

/-- HSW_ TIMER_TRIP. -/
def kTimerTrip : Nat × Nat := (0x0B, 0x01)

/-- HSW_ BREAKER_TRIP. -/
def kBreakerTrip : Nat × Nat := (0x0B, 0x02)

/-- HSW_ GATE_STUCK. -/
def kGateStuck : Nat × Nat := (0x0B, 0x03)

/-- HSW_ FET_SHORT. -/
def kFetShort : Nat × Nat := (0x0B, 0x04)

/-- HSW_ CH_START. -/
def kChStart : Nat × Nat := (0x0B, 0x05)

/-- HSW_ KEEPER_VIN_OV. -/
def kKeeperVinOv : Nat × Nat := (0x0B, 0x06)

/-- HSW_ TIE_PULLED. -/
def kTiePulled : Nat × Nat := (0x0B, 0x07)

/-- HSW_ SHED_STEP. -/
def kShedStep : Nat × Nat := (0x0B, 0x08)

/-- HSW_ SHED_RELEASE. -/
def kShedRelease : Nat × Nat := (0x0B, 0x09)

/-- SEQ_ RISE_TIMEOUT. -/
def kRiseTimeout : Nat × Nat := (0x0C, 0x01)

/-- SEQ_ FALL_TIMEOUT. -/
def kFallTimeout : Nat × Nat := (0x0C, 0x02)

/-- SEQ_ RAIL_UV. -/
def kRailUv : Nat × Nat := (0x0C, 0x03)

/-- SEQ_ RAIL_OV. -/
def kRailOv : Nat × Nat := (0x0C, 0x04)

/-- SEQ_ RAIL_FAULT. -/
def kRailFault : Nat × Nat := (0x0C, 0x05)

/-- SEQ_ RAIL_RETRY. -/
def kRailRetry : Nat × Nat := (0x0C, 0x06)

/-- SEQ_ RETRY_EXHAUSTED. -/
def kRetryExhausted : Nat × Nat := (0x0C, 0x07)

/-- SEQ_ SYSTEM_RESET_RUN. -/
def kSystemResetRun : Nat × Nat := (0x0C, 0x08)

/-- SEQ_ SEQF_SEEN. -/
def kSeqfSeen : Nat × Nat := (0x0C, 0x09)

/-- SEQ_ GROUP_LATCHED. -/
def kGroupLatched : Nat × Nat := (0x0C, 0x0A)

/-- SEQ_ ADOPT_PARTIAL. -/
def kAdoptPartial : Nat × Nat := (0x0C, 0x0B)

/-- REC_ STAGING_OVERFLOW. -/
def kStagingOverflow : Nat × Nat := (0x0D, 0x01)

/-- REC_ FREEZE_LAPSED. -/
def kFreezeLapsed : Nat × Nat := (0x0D, 0x02)

/-- REC_ RECORD_TORN. -/
def kRecordTorn : Nat × Nat := (0x0D, 0x03)

/-- REC_ FLIGHT_FROZEN. -/
def kFlightFrozen : Nat × Nat := (0x0D, 0x04)

/-- REC_ FLIGHT_IGNORED. -/
def kFlightIgnored : Nat × Nat := (0x0D, 0x05)

/-- REC_ FLIGHT_COPY_CUT. -/
def kFlightCopyCut : Nat × Nat := (0x0D, 0x06)

/-- RED_ PEER_SILENT. -/
def kPeerSilent : Nat × Nat := (0x0E, 0x01)

/-- RED_ HOLD_SILENT. -/
def kHoldSilent : Nat × Nat := (0x0E, 0x02)

/-- RED_ PEER_LINK_ERROR. -/
def kPeerLinkError : Nat × Nat := (0x0E, 0x03)

/-- RED_ PUNTY_CLAIMED. -/
def kPuntyClaimed : Nat × Nat := (0x0E, 0x04)

/-- RED_ PUNTY_YIELDED. -/
def kPuntyYielded : Nat × Nat := (0x0E, 0x05)

/-- RED_ MIRROR_GAP. -/
def kMirrorGap : Nat × Nat := (0x0E, 0x06)

/-- RED_ PEER_MISMATCH. -/
def kPeerMismatch : Nat × Nat := (0x0E, 0x07)

/-- TIE_ IRLER_NO_ACK. -/
def kIrlerNoAck : Nat × Nat := (0x0F, 0x01)

/-- TIE_ IRLER_CRC. -/
def kIrlerCrc : Nat × Nat := (0x0F, 0x02)

/-- TIE_ TIE_COLLISION. -/
def kTieCollision : Nat × Nat := (0x0F, 0x03)

/-- TIE_ TIE_MATCH_FAIL. -/
def kTieMatchFail : Nat × Nat := (0x0F, 0x04)

/-- TIE_ MARKER_FALLBACK. -/
def kMarkerFallback : Nat × Nat := (0x0F, 0x05)

/-- TIE_ TIE_ORDINAL_CLASH. -/
def kTieOrdinalClash : Nat × Nat := (0x0F, 0x06)

/-- TIE_ TIE_OFFER_REFUSED. -/
def kTieOfferRefused : Nat × Nat := (0x0F, 0x07)

/-- PNT_ CANE_LINK_DOWN. -/
def kCaneLinkDown : Nat × Nat := (0x10, 0x01)

/-- PNT_ CANE_LINK_UP. -/
def kCaneLinkUp : Nat × Nat := (0x10, 0x02)

/-- PNT_ CANE_CRC. -/
def kCaneCrc : Nat × Nat := (0x10, 0x03)

/-- PNT_ CANE_RETRY_EXHAUSTED. -/
def kCaneRetryExhausted : Nat × Nat := (0x10, 0x04)

/-- PNT_ NODE_JOINED. -/
def kNodeJoined : Nat × Nat := (0x10, 0x05)

/-- PNT_ NODE_LOST. -/
def kNodeLost : Nat × Nat := (0x10, 0x06)

/-- PNT_ NODE_CONFLICT. -/
def kNodeConflict : Nat × Nat := (0x10, 0x07)

/-- PNT_ CANE_QUEUE_DISCARD. -/
def kCaneQueueDiscard : Nat × Nat := (0x10, 0x08)

/-- PNT_ INTAKE_OVERFLOW. -/
def kIntakeOverflow : Nat × Nat := (0x10, 0x09)

/-- PMB_ PMB_NACK. -/
def kPmbNack : Nat × Nat := (0x11, 0x01)

/-- PMB_ PMB_PEC. -/
def kPmbPec : Nat × Nat := (0x11, 0x02)

/-- PMB_ PMB_STRETCH_TIMEOUT. -/
def kPmbStretchTimeout : Nat × Nat := (0x11, 0x03)

/-- PMB_ PMB_BUS_HUNG. -/
def kPmbBusHung : Nat × Nat := (0x11, 0x04)

/-- PMB_ PMB_BUS_RECOVERED. -/
def kPmbBusRecovered : Nat × Nat := (0x11, 0x05)

/-- PMB_ PMB_ALERT_STUCK. -/
def kPmbAlertStuck : Nat × Nat := (0x11, 0x06)

/-- PMB_ PMB_POLL_OVERRUN. -/
def kPmbPollOverrun : Nat × Nat := (0x11, 0x07)

/-- BCH_ CHUNK_CRC. -/
def kChunkCrc : Nat × Nat := (0x12, 0x01)

/-- BCH_ VERIFY_FAIL. -/
def kVerifyFail : Nat × Nat := (0x12, 0x02)

/-- BCH_ KEY_REVOKED. -/
def kKeyRevoked : Nat × Nat := (0x12, 0x03)

/-- BCH_ VERSION_REFUSED. -/
def kVersionRefused : Nat × Nat := (0x12, 0x04)

/-- BCH_ ACTIVATION_DONE. -/
def kActivationDone : Nat × Nat := (0x12, 0x05)

/-- BCH_ ACTIVATION_RESUMED. -/
def kActivationResumed : Nat × Nat := (0x12, 0x06)

/-- BCH_ SLOT_INVALID. -/
def kSlotInvalid : Nat × Nat := (0x12, 0x07)

/-- BCH_ CRUCIBLE_ENTERED. -/
def kCrucibleEntered : Nat × Nat := (0x12, 0x08)

/-- MEM_ SRAM_CE. -/
def kSramCe : Nat × Nat := (0x13, 0x01)

/-- MEM_ SRAM_REBUILT. -/
def kSramRebuilt : Nat × Nat := (0x13, 0x02)

/-- MEM_ SRAM_UE. -/
def kSramUe : Nat × Nat := (0x13, 0x03)

/-- MEM_ STRIPE_MISMATCH. -/
def kStripeMismatch : Nat × Nat := (0x13, 0x04)

/-- MEM_ MACRO_MAPPED_OUT. -/
def kMacroMappedOut : Nat × Nat := (0x13, 0x05)

/-- MEM_ SRAM_GROUP_FAIL. -/
def kSramGroupFail : Nat × Nat := (0x13, 0x06)

/-- MEM_ MRAM_CE. -/
def kMramCe : Nat × Nat := (0x13, 0x07)

/-- MEM_ MRAM_RS_CORRECTED. -/
def kMramRsCorrected : Nat × Nat := (0x13, 0x08)

/-- MEM_ MRAM_UE. -/
def kMramUe : Nat × Nat := (0x13, 0x09)

/-- MEM_ MRAM_TORN_LINE. -/
def kMramTornLine : Nat × Nat := (0x13, 0x0A)

/-- MEM_ BIST_FAIL. -/
def kBistFail : Nat × Nat := (0x13, 0x0B)

/-- MEM_ ROM_FAIL. -/
def kRomFail : Nat × Nat := (0x13, 0x0C)

/-- MEM_ OTP_FAIL. -/
def kOtpFail : Nat × Nat := (0x13, 0x0D)

/-- MEM_ TEST_ACCESS_DENIED. -/
def kTestAccessDenied : Nat × Nat := (0x13, 0x0E)

/-- How many kinds a block has; its codes run from 1 to that number (Table 12.10). -/
def kindCount (block : Nat) : Nat :=
  match block with
  | 0x01 => 7
  | 0x02 => 7
  | 0x03 => 6
  | 0x05 => 7
  | 0x06 => 8
  | 0x07 => 6
  | 0x08 => 10
  | 0x09 => 8
  | 0x0A => 11
  | 0x0B => 9
  | 0x0C => 11
  | 0x0D => 6
  | 0x0E => 7
  | 0x0F => 7
  | 0x10 => 9
  | 0x11 => 7
  | 0x12 => 8
  | 0x13 => 14
  | _ => 0

/-- A kind that Table 12.10 lists for a block. -/
def kindExists (block kind : Nat) : Bool := 1 ≤ kind && kind ≤ kindCount block

/-- The kinds that Table 12.10 marks with an asterisk. -/
def sealKinds : List (Nat × Nat) :=
  [kDieLinkLoss, kThermShutdown, kStageOv, kHoldupEnter, kHoldupNoCapability, kEodReached,
   kBreakerTrip, kGateStuck, kFetShort, kRiseTimeout, kPuntyClaimed, kActivationDone,
   kActivationResumed, kCrucibleEntered, kSramUe, kMacroMappedOut, kSramGroupFail, kMramUe,
   kBistFail, kRomFail, kOtpFail]

/-- The ROM default reaction table: INT for every kind, SEAL added for those with an asterisk (R340). -/
def romReaction (block kind : Nat) : Byte :=
  if kindExists block kind then (if sealKinds.contains (block, kind) then 0x21 else 0x01) else 0

/-- Blocks whose faults may carry BLOCK_RESET (Table 12.4). -/
def resettable (block : Nat) : Bool :=
  [0x03, 0x05, 0x06, 0x07, 0x08, 0x09, 0x0A, 0x0E, 0x0F, 0x10, 0x11].contains block

end Sys2Proof.Machine
end

