-- ==== Sys2Proof/Machine/Ops.lean ====
section
/-! DEFINITION. The operations every block shares: guards, the tables in force, faults on their way to the collector,
records on their way to staging, samples on their way to the point shadow, and replies in mailboxes. -/
namespace Sys2Proof.Machine

/-- The answer of a meaning. -/
abbrev Out := Host.Outcome State Fault Refusal

/-- The next free value, and the state in which it has been used up (the model's own counter). -/
def takeFree (s : State) : Int × State := (Config.freeValue s.free, { s with free := s.free + 1 })

/-- The tables in force: those of the live batch, else the defaults that stand while none is live (R501). -/
def State.cfg (s : State) : Batch := s.batch.getD {}

/-- The settings that the power die holds (R19). -/
def State.pdCfg (s : State) : Batch := s.pd.getD {}

/-- A batch is live and the device is not in crucible (R481, R501). -/
def State.batchLive (s : State) : Bool := s.batch.isSome && !s.sys.crucible

/-- Logical time runs: from step 7 of Table 19.4 on (R342, R509). -/
def State.timeRuns (s : State) : Bool :=
  s.sys.core = .running || (s.sys.core = .booting && s.sys.bootStage ≠ .done)

/-- The core die is past its boot and not held in reset. -/
def State.coreUp (s : State) : Bool := s.sys.core = .running

/-- What no step but the end of a fuse blow changes: the fuses (R40, R517); and what no command changes: the queue of
waiting commands. -/
def keep (s t : State) : State := { t with pending := s.pending, otp := s.otp }

/-- A step that always acts. -/
def always (s : State) (f : State → State) : Out := .next (keep s (f s))

/-- A step whose event is due only under a condition: without it nothing comes about. -/
def whenDue (c : Bool) (s : State) (f : State → State) : Out := if c then .next (keep s (f s)) else .next s

/-- A step of the core die: with the core die held in reset or booting it has no effect (R19, R514). -/
def whenCore (s : State) (f : State → State) : Out := whenDue s.coreUp s f

/-- A step of the core die that is due only under a condition. -/
def whenCoreDue (c : Bool) (s : State) (f : State → State) : Out := whenDue (s.coreUp && c) s f

/-- A step of logical time: without effect before logical time starts. -/
def whenTime (c : Bool) (s : State) (f : State → State) : Out := whenDue (s.timeRuns && c) s f

/-- The device is in control of the shared nets: it drives them and is past its claim (R371, Table 13.1). A holder that has
handed over stays in control until HOLD_N displaces it (R386). -/
def State.drives (s : State) : Bool := s.red.drive && s.red.st ≠ .claiming

/-- A step of logical time on the device that is in control. -/
def whenDrives (c : Bool) (s : State) (f : State → State) : Out := whenTime (s.drives && c) s f

/-- Ticks per frame and periods per tick of the running configuration (R43). -/
def State.frameTicks (s : State) : Nat := s.cfg.frameTicks

/-- Length of a tick at the nominal period, ns. -/
def State.tickNs (s : State) : Nat := s.cfg.tickPeriods * s.cfg.nominalNs

/-- Length of a frame at the nominal period, ns. -/
def State.frameNs (s : State) : Nat := s.tickNs * s.cfg.frameTicks

/-- The count of tick boundaries since logical time started. -/
def State.absTick (s : State) : Nat := s.pin.tickInputs

/-! ### Faults (R32, R60, R335 to R337) -/

/-- A fault message is raised by work that is not tagged to a tick: it leaves for the collector with the current frame. -/
def raise (k : Nat × Nat) (inst ctx : Nat) (s : State) : State :=
  { s with flt := { s.flt with inflight := s.flt.inflight ++
      [{ block := k.1, inst := inst, kind := k.2, ctx := ctx, frame := s.tim.frame, tick := none }] } }

/-- The same from work tagged to the current tick. -/
def raiseT (k : Nat × Nat) (inst ctx : Nat) (s : State) : State :=
  { s with flt := { s.flt with inflight := s.flt.inflight ++
      [{ block := k.1, inst := inst, kind := k.2, ctx := ctx, frame := s.tim.frame,
         tick := some s.tim.tick }] } }

/-- The same from work at a tick's opening boundary, before the ending tick has been counted on: it carries the tick that
the boundary opens. -/
def raiseOpen (k : Nat × Nat) (inst ctx : Nat) (s : State) : State :=
  let last := s.tim.tick + 1 ≥ s.cfg.frameTicks
  { s with flt := { s.flt with inflight := s.flt.inflight ++
      [{ block := k.1, inst := inst, kind := k.2, ctx := ctx
         frame := if last then s.tim.frame + 1 else s.tim.frame
         tick := some (if last then 0 else s.tim.tick + 1) }] } }

/-- A message of frame work at a frame boundary that belongs to the frame which the boundary opens: untagged. -/
def raiseNext (k : Nat × Nat) (inst ctx : Nat) (s : State) : State :=
  { s with flt := { s.flt with inflight := s.flt.inflight ++
      [{ block := k.1, inst := inst, kind := k.2, ctx := ctx, frame := s.tim.frame + 1, tick := none }] } }

/-- A fault raised only where a condition holds. -/
def raiseIf (c : Bool) (k : Nat × Nat) (inst ctx : Nat) (s : State) : State :=
  if c then raise k inst ctx s else s

/-- A tick-tagged fault raised only where a condition holds. -/
def raiseTIf (c : Bool) (k : Nat × Nat) (inst ctx : Nat) (s : State) : State :=
  if c then raiseT k inst ctx s else s

/-- A fault raised once per excursion: at the first happening after the excursion's end. -/
def raiseOnce (k : Nat × Nat) (inst ctx : Nat) (s : State) : State :=
  if s.flt.once.contains (k.1, inst, k.2) then s
  else raise k inst ctx { s with flt := { s.flt with once := (k.1, inst, k.2) :: s.flt.once } }

/-- The end of an excursion. -/
def endOnce (k : Nat × Nat) (inst : Nat) (s : State) : State :=
  { s with flt := { s.flt with once := s.flt.once.filter (· ≠ (k.1, inst, k.2)) } }

/-- An excursion that stands while a condition holds. -/
def excursion (c : Bool) (k : Nat × Nat) (inst ctx : Nat) (s : State) : State :=
  if c then raiseOnce k inst ctx s else endOnce k inst s

/-! ### Records (R308, R309) -/

/-- A record of the running frame, before its commit gives it its sequence number and its stamp. -/
def addRecord (r : Record) (s : State) : State :=
  { s with recd := { s.recd with frameRecs := s.recd.frameRecs ++ [{ r with frame := s.tim.frame }] } }

/-- Record types of Table 11.2. -/
def rtFault : Nat := 1
/-- CAPTURE. -/
def rtCapture : Nat := 2
/-- COMMAND. -/
def rtCommand : Nat := 3
/-- STATE. -/
def rtState : Nat := 4
/-- MARK. -/
def rtMark : Nat := 5
/-- NOTE. -/
def rtNote : Nat := 6

/-- A MARK record: destined for both logs, from the staging ring (R309). -/
def markRecord (frame kind : Nat) (body : List Byte) : Record :=
  { typ := rtMark, sealed := true, opened := true, block := 0x0D, inst := 2, frame := frame,
    body := trimZeros (BitVec.ofNat 8 kind :: body) }

/-- A mark that a frame's commit takes in with the frame's other records. -/
def addMark (kind : Nat) (body : List Byte) (s : State) : State := addRecord (markRecord 0 kind body) s

/-- A mark that is committed at the boundary that brings its change into effect (R569), behind any commit that still
waits. The current frame is the one that the boundary opens, and its stamp is the chassis time of that boundary. -/
def commitMark (kind : Nat) (body : List Byte) (s : State) : State :=
  let r := { markRecord s.tim.frame kind body with stamp := s.tim.chassis, unref := s.tim.unreferenced }
  { s with recd := { s.recd with waiting := s.recd.waiting ++
      [{ frame := s.tim.frame, recs := [r], isMark := true, stamp := s.tim.chassis,
         unref := s.tim.unreferenced }] } }

/-! ### Samples of points (R86, R87, R413, R414) -/

/-- Type codes of Table 3.2. -/
def tyNone : Nat := 0
/-- VOLTAGE. -/
def tyVoltage : Nat := 1
/-- CURRENT. -/
def tyCurrent : Nat := 2
/-- POWER. -/
def tyPower : Nat := 3
/-- TEMPERATURE. -/
def tyTemperature : Nat := 4
/-- RATIO. -/
def tyRatio : Nat := 5
/-- COUNT. -/
def tyCount : Nat := 6
/-- STATE. -/
def tyState : Nat := 7

/-- Type of point j of a stage (Table 5.8). -/
def stagePtType (j : Nat) : Nat :=
  nth [7, 7, 1, 2, 3, 4, 1, 2, 2, 6, 6, 3, 6, 6, 6, 0] j

/-- Type of output k of a loop by its destination (Table 4.8). -/
def loopOutType (b : Batch) (l k : Nat) : Nat :=
  let c := b.loops.get l
  if k ≥ c.p then 0
  else match (nth c.outs k).dest with
    | .peakRef => 2
    | .slope => 6
    | .voltRef _ => 1
    | .curRef _ => 2

/-- Type of point j of loop l (Table 4.8). -/
def loopPtType (b : Batch) (l j : Nat) : Nat :=
  if j = 0 then 7 else if j ≤ 4 then loopOutType b l (j - 1) else if j ≤ 12 then 5 else 6

/-- Type of a local point (Table 15.2 and the tables it names). -/
def localPtType (b : Batch) (i : Nat) : Nat :=
  if i ≤ 0x003 then nth [7, 6, 6, 7] i
  else if 0x010 ≤ i ∧ i ≤ 0x018 then 1
  else if 0x020 ≤ i ∧ i ≤ 0x038 then 4
  else if 0x080 ≤ i ∧ i ≤ 0x09F then (b.fast.get (i - 0x080)).typ
  else if 0x0A0 ≤ i ∧ i ≤ 0x0DF then (b.slow.get (i - 0x0A0)).typ
  else if 0x0E0 ≤ i ∧ i ≤ 0x0EF then 6
  else if 0x100 ≤ i ∧ i ≤ 0x17F then 7
  else if 0x180 ≤ i ∧ i ≤ 0x1FF then 6
  else if 0x200 ≤ i ∧ i ≤ 0x25F then
    (let j := i % 4
     if j = 0 then 7
     else if j = 1 then (if (b.phases.get ((i - 0x200) / 4)).phaseChan < 32 then 2 else 0)
     else 6)
  else if 0x260 ≤ i ∧ i ≤ 0x2BF then stagePtType (i % 16)
  else if 0x300 ≤ i ∧ i ≤ 0x37F then loopPtType b ((i - 0x300) / 16) (i % 16)
  else if 0x380 ≤ i ∧ i ≤ 0x38F then nth [1, 2, 3, 3, 3, 3, 3, 3, 7, 3, 5, 1, 6, 6, 6, 6] (i % 16)
  else if 0x400 ≤ i ∧ i ≤ 0x51F then nth [7, 2, 1, 3, 1, 5, 4, 7] (i % 8)
  else if 0x600 ≤ i ∧ i ≤ 0x65F then nth [7, 1, 2, 5, 5, 5, 5, 6, 6, 6, 3, 6, 1, 4, 7, 6] (i % 16)
  else if 0x680 ≤ i ∧ i ≤ 0x77F then nth [1, 1, 4, 7] (i % 4)
  else if 0x800 ≤ i ∧ i ≤ 0x9AF then nth [7, 2, 1, 1, 3, 2, 7, 6] (i % 8)
  else if 0xA80 ≤ i ∧ i ≤ 0xAE0 then 7
  else if i = 0xAE1 then 6
  else if 0xB00 ≤ i ∧ i ≤ 0xCFF then 3
  else 0

/-- Type of any point: local ones by their chapter, node points by the batch's map and R427. -/
def ptType (b : Batch) (id : Nat) : Nat :=
  let i := id % 4096
  if id < 4096 then localPtType b i
  else if i ≥ 0xFF0 then nth [7, 7, 6, 6] (i - 0xFF0)
  else b.pointMap.get id

/-- One fresh sample of a point, a signed 32-bit number (R86, R87): its sum, count, last value and extremes. A point of type NONE
takes none. The first sample ever sets both extremes (DESIGN CHOICE, log entry 50). -/
def sampleFl (id : Nat) (x : Int) (stale sat invalid : Bool) (s : State) : State :=
  if ptType s.cfg id = 0 then s
  else
    let v := sat32 x
    let a := s.pnt.acc.get id
    let p := s.pnt.shadow.get id
    let first := !p.sampled || a.peakArm
    let p' := { p with
      maxv := if first || v > p.maxv then v else p.maxv
      minv := if first || v < p.minv then v else p.minv
      sampled := true }
    { s with pnt := { s.pnt with
        acc := s.pnt.acc.put id { sum := a.sum + v, n := a.n + 1, last := v, peakArm := false
                                  flagged := true, stale := stale, saturated := sat, invalid := invalid }
        shadow := s.pnt.shadow.put id p' } }

/-- A fresh sample without flags. -/
def sample (id : Nat) (v : Int) (s : State) : State := sampleFl id v false false false s

/-- A tick that gave a point no fresh sample but its flags, none of them saturated (R80, R81, R84, R108). -/
def flagPoint (id : Nat) (stale invalid : Bool) (s : State) : State :=
  if ptType s.cfg id = 0 then s
  else { s with pnt := { s.pnt with
    acc := s.pnt.acc.modify id (fun a => { a with flagged := true, stale := stale, saturated := false, invalid := invalid }) } }

/-- Fresh samples of a list of points. -/
def sampleAll (l : List (Nat × Int)) (s : State) : State := l.foldl (fun s p => sample p.1 p.2 s) s

/-- The frame value of a point. -/
def State.pt (s : State) (id : Nat) : Int := (s.pnt.shadow.get id).value

/-- The age of a point in frames. -/
def State.ptAge (s : State) (id : Nat) : Nat :=
  let p := s.pnt.shadow.get id
  if p.sampled then p.age else min (s.absTick / max 1 s.frameTicks) 65535

/-- The frame value of a point that has been sampled in the last complete frame and carries no invalid flag. -/
def State.ptFresh (s : State) (id : Nat) : Option Int :=
  let p := s.pnt.shadow.get id
  if p.sampled && p.age = 0 && !p.invalid then some p.value else none

/-- The running frame's accumulated value of one point becomes its frame value (R87), with the flags of the frame's last sample
(Table 15.1). -/
def closePoint (b : Batch) (id : Nat) (a : PointAcc) (p0 : Point) : Point :=
  let p := if a.flagged then { p0 with stale := a.stale, saturated := a.saturated, invalid := a.invalid } else p0
  if a.n > 0 then
    let ty := ptType b id
    { p with value := if ty = 6 ∨ ty = 7 then a.last else sat32 (divRhe a.sum a.n), age := 0 }
  else { p with age := min (p.age + 1) 65535 }

/-! ### Mailboxes and replies (R461, R465, R478) -/

/-- Number of a port in records and bindings (R309). -/
def portCode : PortId → Nat
  | .mgt => 0
  | .fhp => 1
  | .peer => 2

/-- MAC of a block or reply: HMAC-SHA-256 over mac_scope, header and payload, cut to 128 bits (R467). -/
def macOf (s : State) (slot : Nat) (hdrPayload : List Byte) : List Byte :=
  (hmac256 (s.otp.keys.get slot) (padTo 8 s.cfg.macScope ++ hdrPayload)).take 16

/-- The bytes of a reply (Table 16.7), with a MAC where the command's MAC was verified. -/
def replyBytes (s : State) (opcode status frame counter : Nat) (key : Option Nat) (payload : List Byte) :
    List Byte :=
  let hp := leBytes 2 opcode ++ leBytes 2 status ++ leBytes 2 payload.length ++ leBytes 6 frame ++
    leBytes 4 counter ++ payload
  match key with
  | none => hp
  | some k => hp ++ macOf s k hp

/-- A reply lands in its mailbox: the window holds it, reply_ready is set and the mailbox is DONE (Table 16.5). A reply of
a PEER-port command leaves in FORWARD_REPLY instead (R387); mailboxes 4 to 7 are the peer's. -/
def writeReply (port : PortId) (mbox : Nat) (bytes : List Byte) (s : State) : State :=
  match port with
  | .peer =>
    { s with red := { s.red with sent := s.red.sent ++ [.forwardReply (mbox - 4) bytes] } }
  | _ =>
    let f := fun m : Mailbox => { m with st := .done, ready := true, reply := bytes }
    { s with hst := { s.hst with mboxes := s.hst.mboxes.modify mbox f } }

end Sys2Proof.Machine
end

