-- ==== Sys2Proof/Machine/Recorder.lean ====
section
/-! DEFINITION. The recorder: the record's bytes, staging, flush cuts, the two logs, freezes and sessions, the power-fail
flush and the flight window's life (chapter 11). -/
namespace Sys2Proof.Machine

/-- Block ID of the recorder. -/
def bRec : Nat := 0x0D

/-- Slots of the staging ring (R311). -/
def stagingSlots : Nat := 16384

/-- Permanent slots of a log, 0 sealed, 1 open (Table 11.4). -/
def permSlots (log : Nat) : Nat := if log = 0 then 16384 else 4096

/-- Circulating slots of a log. -/
def circSlots (log : Nat) : Nat := if log = 0 then 114688 else 61440

/-- A log by its number in marks and commands. -/
def Rec.log (r : Rec) (log : Nat) : LogSt := if log = 0 then r.sealedLog else r.openLog

/-- The recorder with one log replaced. -/
def Rec.setLog (r : Rec) (log : Nat) (l : LogSt) : Rec :=
  if log = 0 then { r with sealedLog := l } else { r with openLog := l }

/-- Flags of a record's byte 1 (Table 11.1). -/
def Record.flags (r : Record) : Nat :=
  b2n r.sealed + 2 * b2n r.opened + 4 * b2n r.frozenWait + 8 * b2n r.pfi + 16 * b2n r.unref +
    32 * b2n r.lostBefore + 64 * b2n r.tick.isNone

/-- Bytes 0 to 59 of a record. -/
def Record.head60 (r : Record) : List Byte :=
  leBytes 1 r.typ ++ leBytes 1 r.flags ++ leBytes 1 (r.tick.getD 255) ++ leBytes 1 r.block ++ leBytes 4 r.seq ++
    leBytes 6 r.frame ++ leBytes 2 r.inst ++ leBytes 8 r.stamp ++ padTo 36 r.body

/-- The 64 bytes of a record; an empty slot reads zero (R308). -/
def Record.bytes (r : Record) : List Byte :=
  if r.typ = 0 then List.replicate 64 0
  else r.head60 ++ leBytes 4 (if r.torn then crc32c r.head60 ^^^ 1 else crc32c r.head60)

/-- One comparison of the commit order: tagged before untagged, then tick, type, block, object, body (R310). -/
def Record.before (a b : Record) : Bool :=
  let ka := [b2n a.tick.isNone, a.tick.getD 255, a.typ, a.block, a.inst, leNat a.body]
  let kb := [b2n b.tick.isNone, b.tick.getD 255, b.typ, b.block, b.inst, leNat b.body]
  lexLt ka kb
where
  /-- Lexicographic order of two keys. -/
  lexLt : List Nat → List Nat → Bool
    | x :: xs, y :: ys => x < y || (x = y && lexLt xs ys)
    | _, _ => false

/-- A staged record waits for a write to some log. -/
def Staged.unwritten (e : Staged) : Bool := e.needSealed || e.needOpen

/-- A slot is pinned while its record lies in a cut and is not fully written (R311). -/
def Staged.pinned (e : Staged) : Bool := e.record.typ ≠ 0 && e.inCut && e.unwritten

/-- A log is frozen. -/
def Rec.frozen (r : Rec) (log : Nat) : Bool := (r.log log).frozenFrom.isSome

/-- One frozen log counts a dropped record. -/
def dropFrozen (log : Nat) (r : Rec) : Rec :=
  let l := r.log log
  if l.frozenFrom.isSome then r.setLog log { l with frozeDrop := inc32 l.frozeDrop } else r

/-- One record enters the ring at the slot after the newest, or is dropped at a pinned slot (R311, R322). -/
def stageOne (inCut relSealed relOpen : Bool) (x : Record) (s : State) : State :=
  let r := s.recd
  let slot := r.stageNext
  let old := r.staging.get slot
  if old.pinned then
    let frozenAny := r.frozen 0 || r.frozen 1
    let r1 := { r with stageOvf := inc32 r.stageOvf, lostNext := true, ovfRaised := true,
                       freezeOvf := if frozenAny then inc32 r.freezeOvf else r.freezeOvf }
    raiseIf (!r.ovfRaised) kStagingOverflow 2 0 { s with recd := dropFrozen 1 (dropFrozen 0 r1) }
  else
    let x1 := { x with seq := r.seqNo, lostBefore := r.lostNext }
    let e : Staged := { record := x1, inCut := inCut, needSealed := x.sealed && !relSealed,
                        needOpen := x.opened && !relOpen }
    { s with recd := { r with staging := r.staging.put slot e
                              stageNext := (slot + 1) % stagingSlots
                              seqNo := (r.seqNo + 1) % 4294967296
                              lostNext := false, ovfRaised := false } }

/-- Every staged record up to a frame, or every one, enters the cut (R312). -/
def cutStaged (upto : Option Nat) (r : Rec) : Rec :=
  let f := fun e : Staged =>
    let within := match upto with
      | none => true
      | some t => decide (e.record.frame ≤ t)
    if within && e.unwritten then { e with inCut := true } else e
  { r with staging := r.staging.map (fun p => (p.1, f p.2)), flushing := true }

/-- A flush that is triggered in the frame of a message whose chip reset is due lets that reset wait for it, and runs without the
quota (R314). -/
def armReset (frame : Nat) (s : State) : State :=
  if s.flt.chipDue = some (frame + 1) then
    { s with flt := { s.flt with chipWait := true }, recd := { s.recd with flushFree := true } }
  else s

/-- A flush is triggered with the frame of its trigger; a running flush's cut grows (R312). -/
def triggerFlush (frame : Nat) (s0 : State) : State :=
  let s := armReset frame s0
  let r := s.recd
  let c := match r.cutFrame with
    | none => frame
    | some g => max g frame
  { s with recd := cutStaged (some frame) { r with cutFrame := some c } }

/-- One waiting commit is made: at most 1,024 records of a frame in the order of R310, or one mark whose boundary
triggers a flush of everything committed so far (R569). -/
def commitOne (w : WaitCommit) (s : State) : State :=
  let recs := w.recs.map (fun x => { x with stamp := w.stamp, unref := w.unref })
  if w.isMark then
    let s1 := recs.foldl (fun s x => stageOne true w.relSealed w.relOpen x s) s
    armReset w.frame { s1 with recd := cutStaged none s1.recd }
  else
    let sorted := sortBy Record.before recs
    let exceeds := sorted.length - 1024
    let inCut := match s.recd.cutFrame with
      | none => false
      | some t => decide (w.frame ≤ t)
    let s1 := (sorted.take 1024).foldl (fun s x => stageOne inCut w.relSealed w.relOpen x s) s
    if exceeds = 0 then s1
    else { s1 with recd := { s1.recd with stageOvf := add32 s1.recd.stageOvf exceeds, lostNext := true } }

/-- A message of a frame up to the given one is still to be dispatched (R338). -/
def State.msgsPending (s : State) (frame : Nat) : Bool :=
  (s.flt.queue ++ s.flt.inflight).any (fun m => decide (m.frame ≤ frame))

/-- The waiting commits that may be made, oldest first. -/
def drainWaiting : List WaitCommit → State → State
  | [], s => { s with recd := { s.recd with waiting := [] } }
  | w :: rest, s =>
    if w.isMark || !s.msgsPending w.frame then drainWaiting rest (commitOne w s)
    else { s with recd := { s.recd with waiting := w :: rest } }

/-- Every commit whose messages have all been dispatched is made; while a boundary is under way, at its frame stamp. -/
def tryCommit (s : State) : State := if s.tim.begun then s else drainWaiting s.recd.waiting s

/-- The records of a frame that ends leave for their commit, with the frame's stamp (R310, R338). -/
def closeFrameRecords (frame : Nat) (s : State) : State :=
  let r := s.recd
  let mine := r.frameRecs.filter (fun x => decide (x.frame ≤ frame))
  let rest := r.frameRecs.filter (fun x => !decide (x.frame ≤ frame))
  { s with recd := { r with frameRecs := rest
                            waiting := r.waiting ++ [{ frame := frame, recs := mine, stamp := s.tim.stamp,
                                                       unref := s.tim.stampUnref }] } }

/-- A record of a message of a given frame joins that frame's records: the waiting commit of the frame where there is
one, else the running frame's list. -/
def addRecordOf (frame : Nat) (x : Record) (s : State) : State :=
  let r := s.recd
  if r.waiting.any (fun w => !w.isMark && w.frame = frame) then
    { s with recd := { r with waiting := r.waiting.map (fun w =>
        if !w.isMark && w.frame = frame then { w with recs := w.recs ++ [{ x with frame := frame }] } else w) } }
  else { s with recd := { r with frameRecs := r.frameRecs ++ [{ x with frame := frame }] } }

/-- The slot of the next record of a log and the log's pointers after it (R316). -/
def LogSt.nextSlot (log : Nat) (l : LogSt) : Nat × LogSt :=
  if l.permUsed < permSlots log then (l.permUsed, { l with permUsed := l.permUsed + 1 })
  else
    let l1 := if l.circFull then { l with overwritten := min (l.overwritten + 1) (2 ^ 64 - 1) } else l
    let h := (l.circHead + 1) % circSlots log
    (permSlots log + l.circHead, { l1 with circHead := h, circFull := l.circFull || h = 0 })

/-- Records that a log's window can show (R316). -/
def LogSt.count (log : Nat) (l : LogSt) : Nat :=
  l.permUsed + (if l.circFull then circSlots log else l.circHead)

/-- The slot of a logical index (R316). -/
def LogSt.slotFor (log : Nat) (l : LogSt) (i : Nat) : Nat :=
  if i < l.permUsed then i
  else permSlots log + ((if l.circFull then l.circHead else 0) + (i - l.permUsed)) % circSlots log

/-- One record is written to a log (R315 to R317). -/
def writeLog (log : Nat) (x : Record) (r : Rec) : Rec :=
  let (slot, l) := (r.log log).nextSlot log
  r.setLog log { l with slots := l.slots.put slot x }

/-- The staged slots in sequence order, the oldest first: the slot after the newest is the oldest. -/
def Rec.stagedOrder (r : Rec) : List Nat :=
  let ks := r.staging.map (·.1)
  ks.filter (fun k => decide (r.stageNext ≤ k)) ++ ks.filter (fun k => decide (k < r.stageNext))

/-- Writes still to be made of one staged record to one log within a budget. -/
def flushCopy (log : Nat) (pfi : Bool) (k : Nat) (p : Rec × Nat) : Rec × Nat :=
  let (r, n) := p
  let e := r.staging.get k
  let need := if log = 0 then e.needSealed else e.needOpen
  if !need || n = 0 then (r, n)
  else if r.frozen log && !pfi then
    ({ r with staging := r.staging.put k { e with record := { e.record with frozenWait := true } } }, n)
  else
    let r1 := writeLog log { e.record with pfi := pfi } r
    let e1 := if log = 0 then { e with needSealed := false } else { e with needOpen := false }
    ({ r1 with staging := r1.staging.put k e1 }, n - 1)

/-- Up to a number of writes of the cut, oldest first, a record for both logs counting twice (R313). -/
def flushWrites (n : Nat) (s : State) : State × Nat :=
  let ks := s.recd.stagedOrder.filter (fun k => (s.recd.staging.get k).pinned)
  let step := fun p k => flushCopy 1 false k (flushCopy 0 false k p)
  let (r, left) := ks.foldl step (s.recd, n)
  ({ s with recd := r }, left)

/-- Writes of the cut that no freeze holds back. -/
def Rec.cutLeft (r : Rec) : Nat :=
  r.staging.foldl (fun n p =>
    let e := p.2
    if !e.inCut then n
    else n + b2n (e.needSealed && !r.frozen 0) + b2n (e.needOpen && !r.frozen 1)) 0

/-- flush_quota: floor(0.875 x frame_ns / 580 ns) (R313). -/
def State.flushQuota (s : State) : Nat := (7 * s.frameNs) / 4640

/-- The newer of two sequence numbers, modulo 2^32: b comes after a. -/
def seqAfter (a b : Nat) : Bool :=
  let d := (b + 4294967296 - a) % 4294967296
  decide (0 < d ∧ d < 2147483648)

/-- Number of the newer copy whose CRC-32C holds; none where both fail (R317, R318). -/
def LogSt.newerCopy (l : LogSt) : Option Nat :=
  let a := l.copies.get 0
  let b := l.copies.get 1
  if a.bad then (if b.bad then none else some 1)
  else if b.bad || !seqAfter a.seq b.seq then some 0
  else some 1

/-- The pointer state enters the copy that is not the newer one, with the next sequence number (R317). -/
def LogSt.saved (next : Nat) (l : LogSt) : LogSt :=
  let k := l.newerCopy.getD 0
  let c : PtrCopy := { seq := ((l.copies.get k).seq + 1) % 4294967296, perm := l.permUsed, head := l.circHead
                       full := l.circFull, ovw := l.overwritten, next := next }
  { l with copies := l.copies.put (1 - k) c }

/-- The recorder saves each log's pointer state (R317). -/
def savePointers (s : State) : State :=
  let f := LogSt.saved s.recd.seqNo
  { s with recd := { s.recd with sealedLog := f s.recd.sealedLog, openLog := f s.recd.openLog } }

/-- The writes that fall in the frame that opens: none without a flush; else those of the cut up to the quota, all of them while a
reset waits for the flush (R313, R314). A late recorder carries the ended frame's writes over and is given no further ones (R75). What
the quota leaves unused is kept for the flight copy (R328). -/
def flushFrame (late : Bool) (s : State) : State :=
  let r := s.recd
  if late then { s with recd := { r with quotaLeft := 0 } }
  else if r.paused || !r.flushing then { s with recd := { r with writesDue := 0, quotaLeft := s.flushQuota } }
  else
    let n := if r.flushFree then r.cutLeft else min s.flushQuota r.cutLeft
    { s with recd := { r with writesDue := n, quotaLeft := s.flushQuota - n } }

/-- The frame's writes are made, oldest first, and the pointers saved (R313, R317). -/
def recorderDone (s : State) : State :=
  let (s1, _) := flushWrites s.recd.writesDue s
  savePointers { s1 with recd := { s1.recd with writesDue := 0 } }

/-- The staged copies for one log lose their call for a write (R321). -/
def releaseLog (log : Nat) (r : Rec) : Rec :=
  let f := fun e : Staged => if log = 0 then { e with needSealed := false } else { e with needOpen := false }
  let g := fun w : WaitCommit => if log = 0 then { w with relSealed := true } else { w with relOpen := true }
  { r with staging := r.staging.map (fun p => (p.1, f p.2)), waiting := r.waiting.map g }

/-- The pointer state of an empty log; what MRAM holds stays where it is, and a freeze stands (R321). -/
def LogSt.emptied (l : LogSt) : LogSt :=
  { l with permUsed := 0, circHead := 0, circFull := false, overwritten := 0 }

/-- A log is cleared at the boundary that opens the current frame, and its CLEAR mark is committed (R321, R569). -/
def clearLog (log : Nat) (port : PortId) (s : State) : State :=
  let r := releaseLog log s.recd
  let s1 := { s with recd := r.setLog log (r.log log).emptied }
  commitMark 0x02 [BitVec.ofNat 8 log, BitVec.ofNat 8 (portCode port)] s1

/-- A log is frozen from the current frame; a further freeze changes nothing (R322, R323). -/
def freezeLog (log : Nat) (port : PortId) (s : State) : State :=
  let l := s.recd.log log
  if l.frozenFrom.isSome then s
  else
    let l1 := { l with frozenFrom := some s.tim.frame, frozeDrop := 0 }
    let s1 := { s with recd := s.recd.setLog log l1 }
    commitMark 0x03 [BitVec.ofNat 8 log, BitVec.ofNat 8 (portCode port)] s1

/-- A freeze ends with its cause: 0 command, 1 lapse, 2 reset (R323, Table 11.3). -/
def thawLog (log cause : Nat) (s : State) : State :=
  let l := s.recd.log log
  let s1 := { s with recd := s.recd.setLog log { l with frozenFrom := none } }
  commitMark 0x04 ([BitVec.ofNat 8 log, BitVec.ofNat 8 cause, 0] ++ leBytes 4 l.frozeDrop) s1

/-- A port holds a sealed session (R320). -/
def State.sessionOpen (s : State) (port : Nat) : Bool :=
  match s.recd.session.get port with
  | none => false
  | some last => decide (s.tim.frame ≤ last)

/-! ### The flight window (R326 to R330) -/

/-- A trigger frame is set, or the trigger is ignored and counted (R328, R329). -/
def flightTrigger (frame cause : Nat) (s : State) : State :=
  let r := s.recd
  if r.flight = .recording && !r.areaHeld then
    { s with recd := { r with flight := .post, trigFrame := frame, trigCause := cause, ignRaised := false } }
  else
    raiseIf (!r.ignRaised) kFlightIgnored 3 0
      { s with recd := { r with flightIgn := inc32 r.flightIgn, ignRaised := true } }

/-- Bytes of one frame of the flight window. -/
def FlightFrame.size (f : FlightFrame) : Nat :=
  2048 + (f.ticks.map List.length).sum + (f.items.map List.length).sum

/-- The frames, newest first, that fit the 2 MiB ring (R326). -/
def fitRing : Nat → List FlightFrame → List FlightFrame
  | _, [] => []
  | room, f :: r => if f.size ≤ room then f :: fitRing (room - f.size) r else []

/-- The frame being written enters the ring, the oldest frames giving way; a ring that stopped at the end of frame f + post_frames
takes in no later frame (R328). -/
def flightPush (s : State) : State :=
  let r := s.recd
  if r.flight ≠ .recording && decide (r.trigFrame + s.cfg.postFrames < r.runFrame.frame) then { s with recd := { r with runFrame := {} } }
  else { s with recd := { r with ring := fitRing (2 * 1048576) (r.runFrame :: r.ring), runFrame := {} } }

/-- The copy of the frozen image goes on by what the quota leaves: 64 bytes for each unused write (R328). -/
def flightCopyStep (s : State) : State :=
  let r := s.recd
  if r.flight ≠ .copying || r.paused then s
  else { s with recd := { r with copied := r.copied + r.quotaLeft, quotaLeft := 0 } }

/-- Writes of 64 bytes that the frozen image takes. -/
def Rec.imageWrites (r : Rec) : Nat := ((r.ring.map FlightFrame.size).sum + 63) / 64

/-- The copied area after a whole copy (R328, R329). -/
def flightDone (s : State) : State :=
  let r := s.recd
  let held := !s.cfg.flightOverwrite
  raise kFlightFrozen 3 0 { s with recd := { r with area := r.ring, areaHeld := held, copied := 0, copyWas := false
                                                    flight := .recording, ring := [], runFrame := {} } }

/-- A copy in progress is cut: the area keeps the newest frames that were copied whole (R330), and holds them until the host
releases it (DESIGN CHOICE, log entry 55). -/
def flightCut (s : State) : State :=
  let r := s.recd
  if r.flight ≠ .copying then s
  else { s with recd := { r with area := fitRing (64 * r.copied) r.ring, areaHeld := true, copyWas := true
                                 copied := 0, flight := .recording } }

/-! ### The steps -/

/-- Every commit that the cut reaches to has been made (R312). -/
def State.cutClosed (s : State) : Bool :=
  s.recd.cutFrame.all fun c => decide (c < s.tim.frame) && s.recd.waiting.all fun w => w.isMark || decide (c < w.frame)

/-- Writes that the frame still has room for: those of its flush and what the quota leaves unused. -/
def Rec.room (r : Rec) : Nat := r.writesDue + r.quotaLeft

/-- FLUSH_COMPLETE: what is left of the cut fits the writes that the frame has room for and is written; the flush ends, and the
pointers are saved (R313, R314, R317). -/
def execFlushComplete (s : State) : Out :=
  whenCoreDue (s.recd.flushing && s.cutClosed && !s.recd.paused &&
    (s.recd.flushFree || decide (s.recd.cutLeft ≤ s.recd.room))) s fun s =>
    let (s1, left) := flushWrites (2 * stagingSlots) s
    let used := 2 * stagingSlots - left
    savePointers { s1 with recd := { s1.recd with flushing := false, flushFree := false, writesDue := 0
                                                  quotaLeft := s.recd.room - used } }

/-- SEALED_SESSION_EXPIRY: the session of a port whose last frame has passed ends (R320). -/
def execSealedSessionExpiry (port : PortId) (s : State) : Out :=
  let due := match s.recd.session.get (portCode port) with
    | none => false
    | some last => decide (last ≤ s.tim.frame)
  whenCoreDue due s fun s =>
    { s with recd := { s.recd with session := s.recd.session.put (portCode port) none } }

/-- A standing freeze lapses at the boundary that ends frame a + freeze_frames - 1 and opens the current frame (R323). -/
def State.lapseDue (s : State) (log : Nat) : Bool :=
  decide (log ≤ 1) && (s.recd.log log).frozenFrom.any fun a => decide (a + s.cfg.freezeFrames ≤ s.tim.frame)

/-- The lapse: the freeze ends and its mark is committed (R323, R569). -/
def lapseFreeze (log : Nat) (s : State) : State :=
  if s.lapseDue log then thawLog log 1 (raise kFreezeLapsed log 0 s) else s

/-- The newest records whose writes fit 4,096, taken from the newest back (R324). -/
def pfiSelect (r : Rec) : List Nat → Nat → List Nat
  | [], _ => []
  | k :: ks, room =>
    let e := r.staging.get k
    let n := b2n e.needSealed + b2n e.needOpen
    if n = 0 then pfiSelect r ks room
    else if n ≤ room then pfiSelect r ks (room - n) ++ [k]
    else []

/-- The power-fail commit: the running frame's records and a PFI mark are committed at once, the newest records that fit
4,096 writes are selected and the older ones counted (R324). -/
def pfiCommit (s : State) : State :=
  let r0 := s.recd
  let s1 := commitOne { frame := s.tim.frame, recs := r0.frameRecs, stamp := s.tim.stamp, unref := s.tim.stampUnref }
    { s with recd := { r0 with frameRecs := [] } }
  let order := s1.recd.stagedOrder
  let total := (order.filter (fun k => (s1.recd.staging.get k).unwritten)).length
  let chosen := pfiSelect s1.recd order.reverse 4094
  let skipped := total - chosen.length
  let mark := { markRecord s.tim.frame 0x05 ([0, 0, 0] ++ leBytes 4 total ++ leBytes 4 skipped) with
                tick := some (if s.tim.frameDue then s.tim.tick else s.tim.tick - 1), stamp := s.tim.stamp, unref := s.tim.stampUnref }
  let slot := s1.recd.stageNext
  let s2 := stageOne true false false mark s1
  { s2 with recd := { s2.recd with pfiList := chosen ++ [slot], pfiFlush := true, paused := true, writesDue := 0
                                   pfiSkip := add32 s2.recd.pfiSkip skipped } }

/-- The selected records are written oldest first, without the quota and whatever is frozen; then the pointer copies and
the frame number (R323, R324, R46). -/
def pfiWrite (s : State) : State :=
  let step := fun p k => flushCopy 1 true k (flushCopy 0 true k p)
  let (r, _) := s.recd.pfiList.foldl step (s.recd, 4096)
  let s1 := savePointers { s with recd := { r with pfiFlush := false, pfiList := [] } }
  { s1 with tim := { s1.tim with savedFrame := s1.tim.frame } }

/-- POWER_FAIL_FLUSH_COMPLETE (R324). -/
def execPowerFailFlushComplete (s : State) : Out := whenTime s.recd.pfiFlush s pfiWrite

/-- FLIGHT_POST_END: at the boundary that ends frame f + post_frames the ring stops with that frame, the FLIGHT mark is recorded and
the copy starts with the frame that opens (R328). -/
def execFlightPostEnd (s : State) : Out :=
  whenCoreDue (s.tim.frameDue && s.recd.flight = .post && decide (s.recd.trigFrame + s.cfg.postFrames ≤ s.tim.frame)) s fun s =>
    let r := s.recd
    let s1 := { s with recd := { r with flight := .copying, copied := 0, copyWas := true } }
    addMark 0x07 (BitVec.ofNat 8 r.trigCause :: [0, 0] ++ leBytes 6 r.trigFrame) s1

/-- FLIGHT_COPY_COMPLETE: at the boundary after the last write of the image the ring resumes with the frame that opens, and the area
becomes held (R328, R329). -/
def execFlightCopyComplete (s : State) : Out :=
  whenCoreDue (s.tim.frameDue && s.recd.flight = .copying && decide (s.recd.imageWrites ≤ s.recd.copied)) s flightDone

end Sys2Proof.Machine
end

