-- ==== Sys2Proof/Machine/Operands.lean ====
section
/-! DEFINITION. The command catalogue's bytes (Tables 17.4 to 17.6, R474 to R476): the payload of every command decoded and
written out, which commands are critical, and what a command's execution answers (R477 to R480). -/
namespace Sys2Proof.Machine

/-- The command that an opcode and a payload spell; none where the opcode is not listed, the length is not permitted or a
reserved byte is not 0 (R474, R475). A flag field of one byte is set by any value but 0 (DEDUCED, log entry 14). -/
def decodeCmd (h : CmdHeader) (op : Nat) (p : List Byte) : Option Instr :=
  match op with
  | 0x0001 => if p.length = 0 then some (.cmdChipIdent h) else none
  | 0x0101 => if p.length = 0 then some (.cmdSysReset h) else none
  | 0x0102 => if p.length = 1 then some (.cmdSysLifecycle h (field p 0 1)) else none
  | 0x0103 => if p.length = 36 ∧ field p 1 3 = 0 then some (.cmdSysKeyProgram h (field p 0 1) (slice p 4 32)) else none
  | 0x0104 => if p.length = 52 ∧ field p 1 3 = 0 then some (.cmdSysRootProgram h (field p 0 1) (slice p 4 48)) else none
  | 0x0201 => if p.length = 8 then some (.cmdChassisTimeSet h (field p 0 8)) else none
  | 0x0301 => if p.length ≤ 64 then some (.cmdHstNop h p) else none
  | 0x0401 => if p.length = 3 then some (.cmdFltReactionSet h (field p 0 1) (field p 1 1) (BitVec.ofNat 8 (field p 2 1))) else none
  | 0x0402 => if p.length = 0 then some (.cmdFltLostClear h) else none
  | 0x0501 => if p.length = 5 then some (.cmdPeakClear h (field p 0 4) (field p 4 1)) else none
  | 0x0502 => if p.length = 10 ∧ field p 7 1 = 0 then some (.cmdWmSet h (field p 0 1) (BitVec.ofNat 8 (field p 1 1)) (field p 2 2) (field p 4 2) (field p 6 1) (BitVec.ofNat 8 (field p 8 1)) (BitVec.ofNat 8 (field p 9 1))) else none
  | 0x0601 => if p.length = 2 then some (.cmdLoopEnable h (BitVec.ofNat 8 (field p 0 1)) (BitVec.ofNat 8 (field p 1 1))) else none
  | 0x0602 => if p.length = 1 then some (.cmdLoopRestore h (field p 0 1)) else none
  | 0x0701 => if p.length = 2 then some (.cmdStageEnable h (field p 0 1) (field p 1 1 ≠ 0)) else none
  | 0x0702 => if p.length = 2 then some (.cmdStageModeSet h (field p 0 1) (field p 1 1)) else none
  | 0x0703 => if p.length = 8 ∧ field p 2 2 = 0 then some (.cmdStageRefSet h (field p 0 1) (field p 1 1) (ofBits 32 (field p 4 4))) else none
  | 0x0704 => if p.length = 1 then some (.cmdStageOvClear h (field p 0 1)) else none
  | 0x0705 => if p.length = 1 then some (.cmdPhaseUnmask h (field p 0 1)) else none
  | 0x0801 => if p.length = 2 then some (.cmdRectParkSet h (field p 0 1) (field p 1 1)) else none
  | 0x0802 => if p.length = 1 then some (.cmdRectReturn h (field p 0 1)) else none
  | 0x0803 => if p.length = 0 then some (.cmdShedRelease h) else none
  | 0x0901 => if p.length = 3 then some (.cmdDomainEnable h (field p 0 2) (field p 2 1 ≠ 0)) else none
  | 0x0902 => if p.length = 12 ∧ field p 9 3 = 0 then some (.cmdDomainSet h (field p 0 2) (BitVec.ofNat 8 (field p 2 1)) (field p 3 1) (field p 4 4) (field p 8 1)) else none
  | 0x0903 => if p.length = 8 ∧ field p 3 1 = 0 then some (.cmdGrantSet h (field p 0 2) (field p 2 1 ≠ 0) (field p 4 4)) else none
  | 0x0904 => if p.length = 4 then some (.cmdLehrCapSet h (field p 0 4)) else none
  | 0x0A01 => if p.length = 12 ∧ field p 1 3 = 0 then some (.cmdBatSocSet h (field p 0 1) (field p 4 4) (field p 8 4)) else none
  | 0x0A02 => if p.length = 1 then some (.cmdBatRelearn h (field p 0 1)) else none
  | 0x0A03 => if p.length = 8 ∧ field p 1 3 = 0 then some (.cmdBatCyclesSet h (field p 0 1) (field p 4 4)) else none
  | 0x0A04 => if p.length = 1 then some (.cmdBatZtableReset h (field p 0 1)) else none
  | 0x0A05 => if p.length = 1 then some (.cmdBatZtableRead h (field p 0 1)) else none
  | 0x0B01 => if p.length = 2 then some (.cmdHswSet h (field p 0 1) (field p 1 1 ≠ 0)) else none
  | 0x0B02 => if p.length = 1 then some (.cmdHswToggle h (field p 0 1)) else none
  | 0x0B03 => if p.length = 8 ∧ field p 1 3 = 0 then some (.cmdHswLimitSet h (field p 0 1) (field p 4 4)) else none
  | 0x0B04 => if p.length = 1 then some (.cmdHswFailClear h (field p 0 1)) else none
  | 0x0C01 => if p.length = 2 then some (.cmdSeqGroupSet h (field p 0 1) (field p 1 1 ≠ 0)) else none
  | 0x0C02 => if p.length = 1 then some (.cmdSeqClear h (field p 0 1)) else none
  | 0x0C03 => if p.length = 4 then some (.cmdSeqLogRead h (field p 0 4)) else none
  | 0x0C04 => if p.length = 0 then some (.cmdSeqLogClear h) else none
  | 0x0D01 => if p.length = 0 then some (.cmdRecFlush h) else none
  | 0x0D02 => if p.length = 1 then some (.cmdRecFreeze h (field p 0 1)) else none
  | 0x0D03 => if p.length = 1 then some (.cmdRecThaw h (field p 0 1)) else none
  | 0x0D04 => if p.length = 0 then some (.cmdRecOpenClear h) else none
  | 0x0D05 => if p.length = 0 then some (.cmdRecSealedOpen h) else none
  | 0x0D06 => if p.length = 0 then some (.cmdRecSealedClose h) else none
  | 0x0D07 => if p.length = 0 then some (.cmdRecSealedClear h) else none
  | 0x0D08 => if p.length = 0 then some (.cmdRecFlightTrigger h) else none
  | 0x0D09 => if p.length = 6 then some (.cmdRecFlightRead h (field p 0 4) (field p 4 2)) else none
  | 0x0D0A => if p.length = 0 then some (.cmdRecFlightRelease h) else none
  | 0x0D0B => if p.length = 32 then some (.cmdRecNote h (slice p 0 32)) else none
  | 0x0E01 => if p.length = 0 then some (.cmdRedHandover h) else none
  | 0x0E02 => if p.length = 1 then some (.cmdRedInhibit h (field p 0 1 ≠ 0)) else none
  | 0x0F01 => if p.length = 8 ∧ field p 1 3 = 0 then some (.cmdTieRequest h (field p 0 1) (field p 4 4)) else none
  | 0x0F02 => if p.length = 1 then some (.cmdTieRelease h (field p 0 1)) else none
  | 0x0F03 => if p.length = 3 then some (.cmdTiePortSet h (field p 0 1) (BitVec.ofNat 8 (field p 1 1)) (BitVec.ofNat 8 (field p 2 1))) else none
  | 0x1001 => if p.length = 2 then some (.cmdCanePortSet h (field p 0 1) (field p 1 1 ≠ 0)) else none
  | 0x1002 => if p.length = 2 then some (.cmdCaneNodeRetry h (field p 0 1) (field p 1 1)) else none
  | 0x1101 => if p.length = 1 then some (.cmdPmbRecover h (field p 0 1)) else none
  | 0x1102 => if p.length = 8 ∧ field p 7 1 = 0 then some (.cmdPmbTransact h (field p 0 1) (field p 1 1) (field p 2 1) (field p 3 1) (field p 4 1 ≠ 0) (field p 5 2)) else none
  | 0x1201 => if p.length = 56 ∧ field p 6 2 = 0 then some (.cmdBchBegin h (field p 0 4) (field p 4 2) (slice p 8 48)) else none
  | 0x1202 => if p.length = 520 ∧ field p 3 1 = 0 then some (.cmdBchChunk h (field p 0 2) (field p 2 1) (field p 4 4) (slice p 8 512)) else none
  | 0x1203 => if p.length = 0 then some (.cmdBchAbandon h) else none
  | 0x1204 => if p.length = 0 then some (.cmdBchStatus h) else none
  | 0x1205 => if p.length = 52 then some (.cmdBchActivate h (field p 0 4) (slice p 4 48)) else none
  | 0x1206 => if p.length = 1 then some (.cmdBchRootRevoke h (field p 0 1)) else none
  | 0x1301 => if p.length = 1 then some (.cmdMemBistSlice h (field p 0 1)) else none
  | 0x1302 => if p.length = 0 then some (.cmdMemBistFull h) else none
  | _ => none

/-- Opcode and payload of a command; none for a step that is no command of the catalogue. -/
def encodeCmd (i : Instr) : Option (Nat × List Byte) :=
  match i with
  | .cmdChipIdent _ => some (0x0001, [])
  | .cmdSysReset _ => some (0x0101, [])
  | .cmdSysLifecycle _ x1 => some (0x0102, leBytes 1 x1)
  | .cmdSysKeyProgram _ x1 x2 => some (0x0103, leBytes 1 x1 ++ List.replicate 3 0 ++ padTo 32 x2)
  | .cmdSysRootProgram _ x1 x2 => some (0x0104, leBytes 1 x1 ++ List.replicate 3 0 ++ padTo 48 x2)
  | .cmdChassisTimeSet _ x1 => some (0x0201, leBytes 8 x1)
  | .cmdHstNop _ x1 => some (0x0301, x1)
  | .cmdFltReactionSet _ x1 x2 x3 => some (0x0401, leBytes 1 x1 ++ leBytes 1 x2 ++ leBytes 1 x3.toNat)
  | .cmdFltLostClear _ => some (0x0402, [])
  | .cmdPeakClear _ x1 x2 => some (0x0501, leBytes 4 x1 ++ leBytes 1 x2)
  | .cmdWmSet _ x1 x2 x3 x4 x5 x6 x7 => some (0x0502, leBytes 1 x1 ++ leBytes 1 x2.toNat ++ leBytes 2 x3 ++ leBytes 2 x4 ++ leBytes 1 x5 ++ List.replicate 1 0 ++ leBytes 1 x6.toNat ++ leBytes 1 x7.toNat)
  | .cmdLoopEnable _ x1 x2 => some (0x0601, leBytes 1 x1.toNat ++ leBytes 1 x2.toNat)
  | .cmdLoopRestore _ x1 => some (0x0602, leBytes 1 x1)
  | .cmdStageEnable _ x1 x2 => some (0x0701, leBytes 1 x1 ++ leBytes 1 (b2n x2))
  | .cmdStageModeSet _ x1 x2 => some (0x0702, leBytes 1 x1 ++ leBytes 1 x2)
  | .cmdStageRefSet _ x1 x2 x3 => some (0x0703, leBytes 1 x1 ++ leBytes 1 x2 ++ List.replicate 2 0 ++ leInt 4 x3)
  | .cmdStageOvClear _ x1 => some (0x0704, leBytes 1 x1)
  | .cmdPhaseUnmask _ x1 => some (0x0705, leBytes 1 x1)
  | .cmdRectParkSet _ x1 x2 => some (0x0801, leBytes 1 x1 ++ leBytes 1 x2)
  | .cmdRectReturn _ x1 => some (0x0802, leBytes 1 x1)
  | .cmdShedRelease _ => some (0x0803, [])
  | .cmdDomainEnable _ x1 x2 => some (0x0901, leBytes 2 x1 ++ leBytes 1 (b2n x2))
  | .cmdDomainSet _ x1 x2 x3 x4 x5 => some (0x0902, leBytes 2 x1 ++ leBytes 1 x2.toNat ++ leBytes 1 x3 ++ leBytes 4 x4 ++ leBytes 1 x5 ++ List.replicate 3 0)
  | .cmdGrantSet _ x1 x2 x3 => some (0x0903, leBytes 2 x1 ++ leBytes 1 (b2n x2) ++ List.replicate 1 0 ++ leBytes 4 x3)
  | .cmdLehrCapSet _ x1 => some (0x0904, leBytes 4 x1)
  | .cmdBatSocSet _ x1 x2 x3 => some (0x0A01, leBytes 1 x1 ++ List.replicate 3 0 ++ leBytes 4 x2 ++ leBytes 4 x3)
  | .cmdBatRelearn _ x1 => some (0x0A02, leBytes 1 x1)
  | .cmdBatCyclesSet _ x1 x2 => some (0x0A03, leBytes 1 x1 ++ List.replicate 3 0 ++ leBytes 4 x2)
  | .cmdBatZtableReset _ x1 => some (0x0A04, leBytes 1 x1)
  | .cmdBatZtableRead _ x1 => some (0x0A05, leBytes 1 x1)
  | .cmdHswSet _ x1 x2 => some (0x0B01, leBytes 1 x1 ++ leBytes 1 (b2n x2))
  | .cmdHswToggle _ x1 => some (0x0B02, leBytes 1 x1)
  | .cmdHswLimitSet _ x1 x2 => some (0x0B03, leBytes 1 x1 ++ List.replicate 3 0 ++ leBytes 4 x2)
  | .cmdHswFailClear _ x1 => some (0x0B04, leBytes 1 x1)
  | .cmdSeqGroupSet _ x1 x2 => some (0x0C01, leBytes 1 x1 ++ leBytes 1 (b2n x2))
  | .cmdSeqClear _ x1 => some (0x0C02, leBytes 1 x1)
  | .cmdSeqLogRead _ x1 => some (0x0C03, leBytes 4 x1)
  | .cmdSeqLogClear _ => some (0x0C04, [])
  | .cmdRecFlush _ => some (0x0D01, [])
  | .cmdRecFreeze _ x1 => some (0x0D02, leBytes 1 x1)
  | .cmdRecThaw _ x1 => some (0x0D03, leBytes 1 x1)
  | .cmdRecOpenClear _ => some (0x0D04, [])
  | .cmdRecSealedOpen _ => some (0x0D05, [])
  | .cmdRecSealedClose _ => some (0x0D06, [])
  | .cmdRecSealedClear _ => some (0x0D07, [])
  | .cmdRecFlightTrigger _ => some (0x0D08, [])
  | .cmdRecFlightRead _ x1 x2 => some (0x0D09, leBytes 4 x1 ++ leBytes 2 x2)
  | .cmdRecFlightRelease _ => some (0x0D0A, [])
  | .cmdRecNote _ x1 => some (0x0D0B, padTo 32 x1)
  | .cmdRedHandover _ => some (0x0E01, [])
  | .cmdRedInhibit _ x1 => some (0x0E02, leBytes 1 (b2n x1))
  | .cmdTieRequest _ x1 x2 => some (0x0F01, leBytes 1 x1 ++ List.replicate 3 0 ++ leBytes 4 x2)
  | .cmdTieRelease _ x1 => some (0x0F02, leBytes 1 x1)
  | .cmdTiePortSet _ x1 x2 x3 => some (0x0F03, leBytes 1 x1 ++ leBytes 1 x2.toNat ++ leBytes 1 x3.toNat)
  | .cmdCanePortSet _ x1 x2 => some (0x1001, leBytes 1 x1 ++ leBytes 1 (b2n x2))
  | .cmdCaneNodeRetry _ x1 x2 => some (0x1002, leBytes 1 x1 ++ leBytes 1 x2)
  | .cmdPmbRecover _ x1 => some (0x1101, leBytes 1 x1)
  | .cmdPmbTransact _ x1 x2 x3 x4 x5 x6 => some (0x1102, leBytes 1 x1 ++ leBytes 1 x2 ++ leBytes 1 x3 ++ leBytes 1 x4 ++ leBytes 1 (b2n x5) ++ leBytes 2 x6 ++ List.replicate 1 0)
  | .cmdBchBegin _ x1 x2 x3 => some (0x1201, leBytes 4 x1 ++ leBytes 2 x2 ++ List.replicate 2 0 ++ padTo 48 x3)
  | .cmdBchChunk _ x1 x2 x3 x4 => some (0x1202, leBytes 2 x1 ++ leBytes 1 x2 ++ List.replicate 1 0 ++ leBytes 4 x3 ++ padTo 512 x4)
  | .cmdBchAbandon _ => some (0x1203, [])
  | .cmdBchStatus _ => some (0x1204, [])
  | .cmdBchActivate _ x1 x2 => some (0x1205, leBytes 4 x1 ++ padTo 48 x2)
  | .cmdBchRootRevoke _ x1 => some (0x1206, leBytes 1 x1)
  | .cmdMemBistSlice _ x1 => some (0x1301, leBytes 1 x1)
  | .cmdMemBistFull _ => some (0x1302, [])
  | _ => none

/-- The payload bytes of a command; none for any other step. -/
def payloadOf (i : Instr) : List Byte := ((encodeCmd i).map (·.2)).getD []

/-- Opcodes of the critical commands (C column of Tables 17.4 to 17.6). -/
def criticalOps : List Nat :=
  [0x0101, 0x0102, 0x0103, 0x0104, 0x0401, 0x0A03, 0x0B04, 0x0C04,
   0x0D05, 0x0D07, 0x0E01, 0x1201, 0x1203, 0x1205, 0x1206, 0x1302]

/-- A command is critical by the tables, or by crit_extra outside crucible (R476). -/
def isCritical (s : State) (op : Nat) : Bool :=
  criticalOps.contains op || (!s.sys.crucible && s.cfg.critExtra.contains op)

/-- What executing a command answers: the state it leaves, its status and reply, the objects it wrote (R66) and whether its
reply is deferred (R480). -/
structure CmdOut where
  /-- state after execution -/
  st : State
  /-- status of Table 17.1 -/
  status : Nat := 0
  /-- reply payload -/
  reply : List Byte := []
  /-- objects written, as (kind, object, field) -/
  objs : List (Nat × Nat × Nat) := []
  /-- the reply comes later -/
  deferred : Bool := false

/-- Reason codes of Table 17.2. -/
def rsRange : Nat := 1
/-- ABSENT. -/
def rsAbsent : Nat := 2
/-- STATE. -/
def rsState : Nat := 3
/-- OWNED. -/
def rsOwned : Nat := 4
/-- LEVEL. -/
def rsLevel : Nat := 5
/-- LIFECYCLE. -/
def rsLifecycle : Nat := 6
/-- CRUCIBLE. -/
def rsCrucible : Nat := 7
/-- SESSION. -/
def rsSession : Nat := 8
/-- MIRROR. -/
def rsMirror : Nat := 9
/-- HOLDUP. -/
def rsHoldup : Nat := 10
/-- LIVE. -/
def rsLive : Nat := 11
/-- MARGIN. -/
def rsMargin : Nat := 12
/-- DIGEST. -/
def rsDigest : Nat := 13

/-- Offset of a refusal that no single field decides (R478). -/
def noField : Nat := 0xFFFF

/-- A refused command changes no state (R479); its reply carries the reason and the deciding field's offset (R478). -/
def refuse (reason offset : Nat) (s : State) : CmdOut :=
  { st := s, status := 0x20, reply := leBytes 2 reason ++ leBytes 2 offset }

/-- An action or query that executed (R67, R482). -/
def done (s : State) (reply : List Byte := []) : CmdOut := { st := s, reply := reply }

/-- A write of objects that executed (R66). -/
def wrote (s : State) (objs : List (Nat × Nat × Nat)) (reply : List Byte := []) : CmdOut :=
  { st := s, reply := reply, objs := objs }

/-- An action whose reply comes later (R480). -/
def later (s : State) : CmdOut := { st := s, deferred := true }

/-- A chain of refusal tests, the first that fails deciding. -/
def unlessRefused (tests : List (Bool × Nat × Nat)) (s : State) (k : State → CmdOut) : CmdOut :=
  match tests.find? (·.1) with
  | some (_, reason, off) => refuse reason off s
  | none => k s

/-- Blocks whose commands execute in crucible (R481). -/
def crucibleBlocks : List Nat := [0x00, 0x01, 0x03, 0x04, 0x0D, 0x12, 0x13]

/-- The body of a COMMAND record (Table 11.2). -/
def commandBody (op port status counter : Nat) (key : Option Nat) (mbox : Nat) (payload : List Byte) : List Byte :=
  trimZeros (leBytes 2 op ++ leBytes 1 port ++ leBytes 1 status ++ leBytes 4 counter ++ leBytes 1 (key.getD 255) ++
    leBytes 1 (mbox % 2) ++ leBytes 2 payload.length ++ padTo 24 payload)

/-- The COMMAND record of an executed or rejected command: HST_ with the port, or RED_ for the peer; also sealed where
critical (R309). -/
def commandRecord (s : State) (h : CmdHeader) (op status : Nat) (payload : List Byte) : Record :=
  { typ := rtCommand, opened := true, sealed := isCritical s op
    block := if h.port = .peer then 0x0E else 0x03
    inst := if h.port = .fhp then 1 else 0
    body := commandBody op (portCode h.port) status h.counter h.key h.mbox payload }

/-- A command's own counter is written before it executes (R469); the mirror's copy follows (R384). -/
def spendCounter (h : CmdHeader) (s : State) : State :=
  match h.key with
  | none => s
  | some k => { s with hst := { s.hst with accCtr := s.hst.accCtr.put k h.counter } }

/-- One accepted command executes, with the tests that come before its own (R469, R479, R481). -/
def executeCmd (h : CmdHeader) (op : Nat) (f : State → CmdOut) (s : State) : CmdOut :=
  let s1 := spendCounter h s
  if s1.sys.crucible && !crucibleBlocks.contains (op / 256) then refuse rsCrucible noField s1 else f s1

/-- The record and the reply of an executed command; a deferred reply is noted (R309, R461, R480). The current frame is the
acceptance frame. -/
def concludeCmd (h : CmdHeader) (op : Nat) (payload : List Byte) (o : CmdOut) (superseded : Bool) : State :=
  let status := if o.status = 0 && superseded then 1 else o.status
  let s1 := addRecord (commandRecord o.st h op status payload) o.st
  if o.deferred then
    { s1 with hst := { s1.hst with deferred := s1.hst.deferred ++
        [{ port := h.port, mbox := h.mbox, opcode := op, frame := s1.tim.frame, counter := h.counter,
           key := h.key }] } }
  else writeReply h.port h.mbox (replyBytes s1 op status s1.tim.frame h.counter h.key o.reply) s1

/-- The deferred reply of a mailbox to an opcode is written with its result (R480). -/
def finishDeferred (mbox op status : Nat) (payload : List Byte) (s : State) : State :=
  match s.hst.deferred.find? (fun d => d.mbox = mbox && d.opcode = op) with
  | none => s
  | some d =>
    let s1 := { s with hst := { s.hst with deferred := s.hst.deferred.erase d } }
    writeReply d.port mbox (replyBytes s1 op status d.frame d.counter d.key payload) s1

end Sys2Proof.Machine
end

