-- ==== Sys2Proof/Machine/RecCmds.lean ====
section
/-! DEFINITION. The recorder's commands (Tables 11.9 and 17.6); the boundary opens the current frame, which is the acceptance
frame. -/
namespace Sys2Proof.Machine

/-- A change of the recorder's state. -/
def setRec (f : Rec → Rec) (s : State) : State := { s with recd := f s.recd }

/-- CMD_REC_FLUSH: the cut reaches up to the commit of the frame that the boundary ends (R312). -/
def cmdRecFlush (s : State) : CmdOut := done (triggerFlush (s.tim.frame - 1) s)

/-- The sealed log answers only a port that holds a session (R320, R322). -/
def State.needsSession (s : State) (h : CmdHeader) (log : Nat) : Bool := log = 0 && !s.sessionOpen (portCode h.port)

/-- CMD_REC_FREEZE (R322). -/
def cmdRecFreeze (h : CmdHeader) (log : Nat) (s : State) : CmdOut :=
  unlessRefused [(decide (1 < log), rsRange, 0), (s.needsSession h log, rsSession, 0)] s fun s => done (freezeLog log h.port s)

/-- CMD_REC_THAW (R323). -/
def cmdRecThaw (h : CmdHeader) (log : Nat) (s : State) : CmdOut :=
  unlessRefused
    [(decide (1 < log), rsRange, 0), (!s.recd.frozen log, rsState, 0), (s.needsSession h log, rsSession, 0)] s fun s =>
    done (thawLog log 0 s) (leBytes 4 (s.recd.log log).frozeDrop)

/-- CMD_REC_OPEN_CLEAR (R321). -/
def cmdRecOpenClear (h : CmdHeader) (s : State) : CmdOut := done (clearLog 1 h.port s)

/-- CMD_REC_SEALED_OPEN: a session for sealed_lease frames, or its renewal (R320). -/
def cmdRecSealedOpen (h : CmdHeader) (s : State) : CmdOut :=
  let last := s.tim.frame + s.cfg.sealedLease - 1
  done (setRec (fun r => { r with session := r.session.put (portCode h.port) (some last) }) s) (leBytes 6 last)

/-- CMD_REC_SEALED_CLOSE (R320). -/
def cmdRecSealedClose (h : CmdHeader) (s : State) : CmdOut :=
  unlessRefused [(s.needsSession h 0, rsSession, noField)] s fun s =>
    done (setRec (fun r => { r with session := r.session.put (portCode h.port) none }) s)

/-- CMD_REC_SEALED_CLEAR (R321). -/
def cmdRecSealedClear (h : CmdHeader) (s : State) : CmdOut := done (clearLog 0 h.port s)

/-- CMD_REC_FLIGHT_TRIGGER: the acceptance frame becomes the trigger frame, or the trigger is ignored (R328, R329). -/
def cmdRecFlightTrigger (s : State) : CmdOut :=
  let taken := s.recd.flight = .recording && !s.recd.areaHeld
  let t := flightTrigger s.tim.frame 1 s
  done t (leBytes 1 (b2n taken) ++ [0] ++ leBytes 6 t.recd.trigFrame)

/-- Bytes of one frame as the flight window holds it: block, tick entries, items (R326). -/
def FlightFrame.bytes (f : FlightFrame) : List Byte := f.block ++ f.ticks.flatten ++ f.items.flatten

/-- Bytes of the flight freeze area, whose layout the spec leaves open (log entry 8). -/
def State.areaBytes (s : State) (offset length : Nat) : List Byte :=
  padTo length (Config.flightArea (s.recd.area.map FlightFrame.bytes) offset length)

/-- CMD_REC_FLIGHT_READ (R329). -/
def cmdRecFlightRead (h : CmdHeader) (offset length : Nat) (s : State) : CmdOut :=
  unlessRefused
    [(!s.recd.areaHeld, rsState, noField), (decide (length = 0 ∨ 960 < length), rsRange, 4),
     (decide (2097152 < offset + length), rsRange, 0)] s fun s =>
    later { s with hst := { s.hst with defData := s.hst.defData.put h.mbox (leBytes 4 offset ++ s.areaBytes offset length) } }

/-- CMD_REC_FLIGHT_RELEASE (R329). -/
def cmdRecFlightRelease (s : State) : CmdOut :=
  unlessRefused [(!s.recd.areaHeld, rsState, noField)] s fun s => done (setRec (fun r => { r with areaHeld := false }) s)

/-- CMD_REC_NOTE: a NOTE record of the acceptance frame (Table 11.2). -/
def cmdRecNote (bytes : List Byte) (s : State) : CmdOut :=
  done (addRecord { typ := rtNote, opened := true, block := 0x0D, inst := 2, body := trimZeros (padTo 32 bytes) } s)

end Sys2Proof.Machine
end

