-- ==== Sys2Proof/Machine/Codes.lean ====
section
/-! DEFINITION. The codes that protect SRAM and MRAM: stripe placement, SECDED(72,64), stripe rebuild, the BCH words and the
Reed-Solomon line (chapter 12, R348, R349, R354, R355). -/
namespace Sys2Proof.Machine

/-! ### SRAM (R348, R349) -/

/-- Stripe of an SRAM offset (R348). -/
def stripeOf (a : Nat) : Nat := a / 64

/-- Word of its stripe that holds an SRAM offset (R348). -/
def stripeWord (a : Nat) : Nat := a / 8 % 8

/-- Group of a stripe (R348). -/
def stripeGroup (stripe : Nat) : Nat := stripe % 8

/-- Row of a stripe in its data macros and in its parity macro (R348). -/
def stripeRow (stripe : Nat) : Nat := stripe / 8

/-- Macro that holds a word of a stripe; word 8 is the parity word (R348). -/
def stripeMacro (stripe word : Nat) : Nat := if word < 8 then 8 * stripeGroup stripe + word else 64 + stripeGroup stripe

/-- First SRAM offset of host scratch (Table 1.9). -/
def scratchBase : Nat := 0xD00000

/-- An SRAM offset of host scratch (Table 1.9). -/
def isScratch (a : Nat) : Bool := decide (scratchBase ≤ a ∧ a < 0x1000000)

/-- A byte of host scratch is written; the stripe's parity word becomes old parity XOR old word XOR new word (R349). -/
def scratchPut (o : Nat) (b : Byte) (m : Mem) : Mem :=
  let change := (m.scratch.get o ^^^ b).toNat * 2 ^ (8 * (o % 8))
  { m with scratch := m.scratch.put o b
           parity := m.parity.modify (stripeOf (scratchBase + o)) (fun p => p ^^^ BitVec.ofNat 64 change) }

/-- A data word of a stripe as the state lays it out: the bytes of host scratch; the spec lays out no byte of the other regions. -/
def Mem.wordAt (m : Mem) (stripe word : Nat) : BitVec 64 :=
  let a := 64 * stripe + 8 * word
  if isScratch a then BitVec.ofNat 64 (leNat ((List.range 8).map fun k => m.scratch.get (a - scratchBase + k))) else 0

/-- The parity word that a stripe's data words call for (R348). -/
def Mem.xorWords (m : Mem) (stripe : Nat) : BitVec 64 :=
  (List.range 8).foldl (fun p w => p ^^^ m.wordAt stripe w) 0

/-- How one word reads: clean or corrected with the cells that still differ, or uncorrectable by the inner code. -/
inductive WordRead
  /-- the code reports nothing; these cells differ all the same -/
  | clean (left : List Nat)
  /-- the code corrects the word; these cells differ afterwards -/
  | fixed (left : List Nat)
  /-- the code finds the word uncorrectable -/
  | failed
deriving DecidableEq, Repr, Inhabited

/-- The cells of a word that still differ when the inner code has read it. -/
def WordRead.left : WordRead → List Nat
  | .clean l => l
  | .fixed l => l
  | .failed => []

/-- A word that a code passes with some cells left as they were: clean where it changed none. -/
def passed (cells left : List Nat) : WordRead := if left = cells then .clean left else .fixed left

/-- SECDED(72,64) on a word with these wrong cells: one is corrected, two are detected, and what it makes of more is open. -/
def secdedRead (cells : List Nat) : WordRead :=
  match cells with
  | [] => .clean []
  | [_] => .fixed []
  | [_, _] => .failed
  | l => match Config.secdedBeyond l with
    | none => .failed
    | some left => passed l left

/-- The wrong cells of one word of a stripe, each once, in rising order. -/
def stripeCells (u : StripeUpsets) (w : Nat) : List Nat :=
  (List.range 72).filter fun b => u.cells.contains (w, b)

/-- The data bits of a list of cells as a word. -/
def cellBits (l : List Nat) : BitVec 64 := l.foldl (fun v b => if b < 64 then v ^^^ BitVec.ofNat 64 (2 ^ b) else v) 0

/-- What reading a stripe finds: words corrected, words rebuilt, words that cannot be rebuilt, and the change of data that the
code did not see (R349, R350). -/
structure StripeRead where
  /-- words that the inner code corrected -/
  fixed : List Nat := []
  /-- data words rebuilt from the stripe -/
  rebuilt : List Nat := []
  /-- data words that cannot be rebuilt -/
  lost : List Nat := []
  /-- every word passed, and their XOR differs from the parity word -/
  mismatch : Bool := false
deriving DecidableEq, Repr, Inhabited

/-- A stripe is read. out is the word that lies in a mapped-out macro, where one does: it is read from the other eight words, so
none of the eight can be rebuilt, and it is lost where one of them is (R349, R351). -/
def stripeRead (m : Mem) (stripe : Nat) (out : Option Nat) (u : StripeUpsets) : StripeRead :=
  let reads := ((List.range 9).filter fun w => out ≠ some w).map fun w => (w, secdedRead (stripeCells u w))
  let failed := (reads.filter fun r => r.2 = .failed).map (·.1)
  let fixed := (reads.filter fun r => match r.2 with | .fixed _ => true | _ => false).map (·.1)
  let data := failed.filter (· < 8)
  let left := reads.foldl (fun v r => v ^^^ cellBits r.2.left) 0
  let whole := out.isNone && failed.isEmpty
  let single := out.isNone && decide (failed.length = 1)
  let gone := match out with
    | some w => if !failed.isEmpty && decide (w < 8) then [w] else []
    | none => []
  { fixed := fixed
    rebuilt := if single then data else []
    lost := if failed.isEmpty || single then [] else data ++ gone
    mismatch := whole && decide (m.parity.get stripe ^^^ left ≠ m.xorWords stripe) }

/-- The data bits that the code did not see as wrong stand in host scratch from now on. -/
def stripeSettle (stripe : Nat) (u : StripeUpsets) (m : Mem) : Mem :=
  (List.range 8).foldl (fun m w =>
    let v := cellBits (secdedRead (stripeCells u w)).left
    let a := 64 * stripe + 8 * w
    if isScratch a && decide (v ≠ 0) then
      { m with scratch := m.scratch.modifyAll ((List.range 8).map fun k => a - scratchBase + k)
                 (fun o b => b ^^^ BitVec.ofNat 8 (v.toNat / 2 ^ (8 * (o % 8)))) }
    else m) m

/-- A parity word is written anew from its stripe's data (R350). -/
def rewriteParity (stripe : Nat) (m : Mem) : Mem := { m with parity := m.parity.put stripe (m.xorWords stripe) }

/-! ### MRAM (R354, R355) -/

/-- Number of the 10-bit symbol that holds a data bit of a line; symbol 204 ends in 2 zero bits of padding (R354). -/
def symbolOf (bit : Nat) : Nat := bit / 10

/-- The 205 symbols of a line's 2,048 data bits, the last padded with 2 zero bits (R354). -/
def lineSymbols (bytes : List Byte) : List Nat :=
  let v := leNat bytes
  (List.range 205).map fun k => v / 2 ^ (10 * k) % 1024

/-- The 7 or 8 symbols that a word of a line touches (R354). -/
def wordSymbols (w : Nat) : List Nat :=
  (List.range 205).filter fun k => decide (symbolOf (64 * w) ≤ k ∧ k ≤ symbolOf (64 * w + 63))

/-- The BCH code on a word with these wrong data bits and so many wrong check bits: any 2 are corrected, any 3 detected, and what
it makes of more is open (R354). -/
def bchRead (bits : List Nat) (checks : Nat) : WordRead :=
  let n := bits.length + checks
  if n = 0 then .clean []
  else if n ≤ 2 then .fixed []
  else if n = 3 then .failed
  else match Config.bchBeyond bits checks with
    | none => .failed
    | some left => if left = bits then .clean left else .fixed left

/-- The wrong data bits of one word of a line, each once. -/
def lineCells (u : LineUpsets) (w : Nat) : List Nat :=
  ((List.range 64).map (64 * w + ·)).filter fun b => u.data.contains b

/-- How the words of a line read. -/
def lineReads (u : LineUpsets) : List WordRead :=
  (List.range 32).map fun w => bchRead (lineCells u w) (u.check.count w)

/-- Line of the host non-volatile area that holds a byte of it, counted from the area's first (Table 1.10). -/
def nvLine (o : Nat) : Nat := o / 256

/-- The 256 bytes of a line of the host non-volatile area. -/
def Mem.nvBytes (m : Mem) (line : Nat) : List Byte := (List.range 256).map fun k => m.nv.get (256 * line + k)

/-- The outer parity of a line of the host non-volatile area as its bytes call for it (R354). -/
def Mem.parityFor (m : Mem) (line : Nat) : List Nat := Config.rsParity (lineSymbols (m.nvBytes line))

/-- The stored outer parity differs from what the line calls for; a line whose parity is not listed has that of its bytes. -/
def Mem.outerStale (m : Mem) (line : Nat) : Bool :=
  let held := m.outer.get line
  !held.isEmpty && decide (held ≠ m.parityFor line)

/-- Bytes of the host non-volatile area are written: first the lines' data words, last their outer parity (R355). -/
def nvWrite (l : List (Nat × Byte)) (m : Mem) : Mem :=
  let m1 := { m with nv := l.foldl (fun t (w : Nat × Byte) => t.put w.1 w.2) m.nv }
  let lines := l.foldl (fun (ks : List Nat) (w : Nat × Byte) => if ks.contains (nvLine w.1) then ks else nvLine w.1 :: ks) []
  { m1 with outer := lines.foldl (fun t k => t.put k (m1.parityFor k)) m1.outer }

/-- What decoding a line finds (R354 to R356). -/
structure LineRead where
  /-- inner corrections -/
  corrected : Nat := 0
  /-- the outer code was needed -/
  outer : Bool := false
  /-- the line could not be decoded -/
  bad : Bool := false
  /-- clean words with a non-zero outer syndrome -/
  torn : Bool := false
  /-- data bits that stand wrong afterwards -/
  left : List Nat := []
deriving DecidableEq, Repr, Inhabited

/-- A line is decoded: every word through BCH; the symbols of a word that it finds uncorrectable are erasures; e erasures and t
further symbol errors are recovered where e + 2t ≤ 8. Where every word is clean, the outer code changes no data (R354, R355).
stale says that the stored outer parity differs from that of the stored line. -/
def lineRead (stale : Bool) (u : LineUpsets) : LineRead :=
  let reads := lineReads u
  let failed := (List.range 32).filter fun w => nth reads w = .failed
  let fixed := ((reads.filter fun r => match r with | .fixed _ => true | _ => false)).length
  let erased := ((List.range 205).filter fun k => failed.any fun w => (wordSymbols w).contains k)
  let missed := (reads.map WordRead.left).flatten
  let wrong := (List.range 205).filter fun k => !erased.contains k && missed.any (fun b => symbolOf b = k)
  let outer := (List.range 8).filter fun k => u.outer.contains k
  let t := wrong.length + if stale then 8 else outer.length
  let touched := !erased.isEmpty || decide (0 < t)
  if failed.isEmpty && decide (fixed = 0) then { torn := touched, left := missed }
  else if erased.length + 2 * t ≤ 8 then { corrected := fixed, outer := touched }
  else { corrected := fixed, outer := true, bad := true, left := missed ++ (failed.map (lineCells u)).flatten }

end Sys2Proof.Machine
end

