-- ==== Sys2Proof/Machine/Collector.lean ====
section
/-! DEFINITION. The fault collector, its reactions, the host fault FIFO and the alert pins (chapter 12, R335 to R347). -/
namespace Sys2Proof.Machine

/-- The 64 bits of a message (Table 12.1). -/
def FaultMsg.word (m : FaultMsg) : Nat :=
  m.block % 64 + 64 * (m.inst % 1024) + 65536 * (m.kind % 256) + 4294967296 * (m.ctx % 4294967296)

/-- The entry of a block and kind in a table, or in the ROM default where no batch table is live (R340). -/
def reactionOf (live : Bool) (t : Tab Byte) (block kind : Nat) : Byte :=
  if live then t.get (block * 32 + kind) else romReaction block kind

/-- The entry as it stood in the message's frame (R337): the table in force, the one of the frame before, or what the message kept when
that frame went by. -/
def State.reaction (s : State) (m : FaultMsg) : Byte :=
  if let some e := m.entry then e
  else if m.frame < s.tim.frame then reactionOf s.flt.reactPrevLive s.flt.reactPrev m.block m.kind
  else reactionOf s.flt.live s.flt.react m.block m.kind

/-- Frame f ends with its reaction table: messages of the frame before it keep the entry that stood in theirs (R337). -/
def shiftReactions (f : Nat) (s : State) : State :=
  let held := fun m : FaultMsg =>
    if m.entry.isNone && decide (m.frame < f) then
      { m with entry := some (reactionOf s.flt.reactPrevLive s.flt.reactPrev m.block m.kind) } else m
  { s with flt := { s.flt with
    inflight := s.flt.inflight.map held, queue := s.flt.queue.map held
    reactPrev := s.flt.react, reactPrevLive := s.flt.live } }

/-- CHIP_RESET is held off in the first reset_holdoff frames of logical time (R342). -/
def State.heldOff (s : State) (frame : Nat) : Bool :=
  decide (s.sys.firstFrame ≤ frame ∧ frame < s.sys.firstFrame + s.cfg.resetHoldoff)

/-- The memory controller added SEAL and CHIP_RESET to a message (R352). -/
def State.memAdded (s : State) (m : FaultMsg) : Bool :=
  m.block = 0x13 && s.flt.added.contains (m.inst, m.kind, m.frame)

/-- The reactions that a dispatch carries out: reserved bit off, a block reset only where the block has one, what the memory
controller added, no reset for an uncorrectable word of host scratch, a chip reset only outside the hold-off (R340, R342,
R343, R352). -/
def State.applied (s : State) (m : FaultMsg) : Byte :=
  let e := bvPut (s.reaction m) 7 false
  let e1 := if resettable m.block then e else bvPut e 2 false
  let e2 := if s.memAdded m then e1 ||| 0x28 else if (m.block, m.kind) = kSramUe then bvPut e1 3 false else e1
  if s.heldOff m.frame then bvPut e2 3 false else e2

/-- A source that an earlier message's reaction still occupies (R339). -/
def State.sourceBusy (s : State) (block inst : Nat) : Bool :=
  s.flt.blockDue.any (fun d => d.1 = block && d.2.1 = inst) || s.flt.chipSrc.contains (block, inst)

/-- INT: the message enters the host fault FIFO, or a full FIFO discards it and counts (R344). -/
def reactInt (m : FaultMsg) (s : State) : State :=
  let f := s.flt
  if f.fifo.length < 64 then { s with flt := { f with fifo := f.fifo ++ [m] } }
  else { s with flt := { f with ovf := inc32 f.ovf } }

/-- NMA: the pin goes low and the block's bit is set (R346). -/
def reactNma (block : Nat) (s : State) : State :=
  { s with flt := { s.flt with nma := true, nmaMin := true, nmaCause := bvPut s.flt.nmaCause block true } }

/-- ERR: latched low, or a pulse that a further dispatch restarts (R346). -/
def reactErr (s : State) : State :=
  if s.cfg.errPulse then { s with flt := { s.flt with err := true, errPulse := true } }
  else { s with flt := { s.flt with err := true, errMin := true, errClear := false } }

/-- A chip reset is due at the boundary that ends frame f + 1, behind a flush that runs or is triggered in the same frame
(R314, R341). -/
def chipResetAt (frame : Nat) (s : State) : State :=
  let due := match s.flt.chipDue with
    | none => frame + 1
    | some g => min g (frame + 1)
  let s1 := { s with flt := { s.flt with chipDue := some due, chipWait := s.flt.chipWait || s.recd.flushing } }
  if s1.recd.flushing then { s1 with recd := { s1.recd with flushFree := true } } else s1

/-- CHIP_RESET: the source stays busy until the reset (R339, R341). -/
def reactChip (m : FaultMsg) (s : State) : State :=
  let s1 := chipResetAt m.frame s
  { s1 with flt := { s1.flt with chipSrc := (m.block, m.inst) :: s1.flt.chipSrc } }

/-- SEAL and CHIP_RESET as the memory controller adds them itself to a message that it raises in the current frame, whether
or not the collector loses the message (R352); the hold-off of R342 holds for them too. -/
def addReset (k : Nat × Nat) (inst : Nat) (s : State) : State :=
  let f := s.tim.frame
  let s1 := triggerFlush f { s with flt := { s.flt with added := (inst, k.2, f) :: s.flt.added } }
  if s.heldOff f then s1 else chipResetAt f s1

/-- A block reset is due at the boundary that ends frame f + 1 (R341). -/
def reactBlock (m : FaultMsg) (s : State) : State :=
  { s with flt := { s.flt with blockDue := s.flt.blockDue ++ [(m.block, m.inst, m.frame + 1)] } }

/-- The value of the context point, where the context is a point: RESIDUAL names the input's point, MODE_DISAGREE
the output's (R129, R131, R309). -/
def contextValue (s : State) (m : FaultMsg) : Int :=
  if ((m.block, m.kind) = kResidual || (m.block, m.kind) = kModeDisagree) && m.ctx < 262144 then s.pt m.ctx else 0

/-- The FAULT record of a dispatched message (Table 11.2). -/
def faultRecord (s : State) (m : FaultMsg) (r : Byte) : Record :=
  { typ := rtFault, opened := true, sealed := bvGet r 5, tick := m.tick, block := m.block, inst := m.inst
    body := trimZeros (leBytes 8 m.word ++ leBytes 1 r.toNat ++ [0] ++ leBytes 2 (s.flt.lost % 65536) ++
      leInt 4 (contextValue s m)) }

/-- The reactions of a message, in the order of the reactions byte with the flush trigger before the chip reset that may
wait for it (R341). -/
def dispatchMsg (m : FaultMsg) (s : State) : State :=
  let r := s.applied m
  let s1 := addRecordOf m.frame (faultRecord s m r) s
  let s2 := if bvGet r 0 then reactInt m s1 else s1
  let s3 := if bvGet r 1 then reactNma m.block s2 else s2
  let s4 := if bvGet r 4 then reactErr s3 else s3
  let s5 := if bvGet r 5 then triggerFlush m.frame s4 else s4
  let s6 := if bvGet r 6 then flightTrigger m.frame 0 s5 else s5
  let s7 := if bvGet r 2 then reactBlock m s6 else s6
  let s7a := { s7 with flt := { s7.flt with added := if m.block = 0x13 then s7.flt.added.erase (m.inst, m.kind, m.frame)
                                                     else s7.flt.added } }
  if bvGet r 3 then reactChip m s7a else s7a

/-- The message at a place in the list of those on their way. -/
def takeAt (n : Nat) (l : List FaultMsg) : Option (FaultMsg × List FaultMsg) :=
  match l.drop n with
  | [] => none
  | m :: rest => some (m, l.take n ++ rest)

/-- FAULT_MESSAGE: the message at a place among those on their way arrives; a full queue or a busy source loses it, and the
loss is counted (R337, R339). -/
def execFaultMessage (index : Nat) (s : State) : Out :=
  match takeAt index s.flt.inflight with
  | none => .next s
  | some (m, rest) =>
    whenTime true s fun s =>
      let f := { s.flt with inflight := rest }
      if f.queue.length ≥ 32 || s.sourceBusy m.block m.inst then
        tryCommit { s with flt := { f with lost := inc32 f.lost } }
      else { s with flt := { f with queue := f.queue ++ [m] } }

/-- FAULT_DISPATCH: the oldest message leaves the queue and its reactions are carried out (R337, R341). -/
def execFaultDispatch (s : State) : Out :=
  match s.flt.queue with
  | [] => .next s
  | m :: rest =>
    whenTime true s fun s => tryCommit (dispatchMsg m { s with flt := { s.flt with queue := rest } })

/-- Bit 0 of FLT_ERR_CLEAR releases a latched ERR_N, no earlier than its minimum low time (R346). -/
def clearErr (value : Word) (s : State) : State :=
  if !(bvGet value 0 && s.flt.err && !s.flt.errPulse) then s
  else if s.flt.errMin then { s with flt := { s.flt with errClear := true } }
  else { s with flt := { s.flt with err := false, errClear := false } }

/-- The NMA causes named by a mask are cleared; with none left the pin is released, no earlier than its minimum low time
(R346). -/
def clearNma (mask : Word) (s : State) : State :=
  let c := s.flt.nmaCause &&& ~~~mask
  { s with flt := { s.flt with nmaCause := c, nma := s.flt.nma && (c ≠ 0 || s.flt.nmaMin) } }

/-- ERR_PULSE_END: err_pulse_us after the last dispatch the pulse ends (R346). -/
def execErrPulseEnd (s : State) : Out :=
  whenDue s.flt.errPulse s fun s => { s with flt := { s.flt with err := false, errPulse := false } }

/-- ALERT_PIN_MIN_LOW_END: 10 us after the pin went low; a pin already cleared is released (R346). -/
def execAlertPinMinLowEnd (err : Bool) (s : State) : Out :=
  if err then
    whenDue s.flt.errMin s fun s =>
      { s with flt := { s.flt with errMin := false, err := s.flt.err && !s.flt.errClear, errClear := false } }
  else
    whenDue s.flt.nmaMin s fun s =>
      { s with flt := { s.flt with nmaMin := false, nma := s.flt.nma && s.flt.nmaCause ≠ 0 } }

/-- CMD_FLT_REACTION_SET: writes one reaction-table entry (R340, R347). -/
def cmdFltReactionSet (block kind : Nat) (reactions : Byte) (s : State) : CmdOut :=
  unlessRefused
    [(!kindExists block kind, rsRange, 1), (bvGet reactions 7, rsRange, 2),
     (bvGet reactions 2 && !resettable block, rsState, 2)] s fun s =>
    let old := reactionOf s.flt.live s.flt.react block kind
    let all := (List.range 64).flatMap (fun b => (List.range 32).map (fun k => (b, k)))
    let base := if s.flt.live then s.flt.react
      else all.foldl (fun t bk => t.put (bk.1 * 32 + bk.2) (romReaction bk.1 bk.2)) []
    wrote { s with flt := { s.flt with react := base.put (block * 32 + kind) reactions, live := true } }
      [(0x04, block * 32 + kind, 0)] [old]

/-- CMD_FLT_LOST_CLEAR: clears FLT_LOST and answers what it held (R339). -/
def cmdFltLostClear (s : State) : CmdOut :=
  done { s with flt := { s.flt with lost := 0 } } (leBytes 4 s.flt.lost)

end Sys2Proof.Machine
end

