-- ==== Sys2Proof/Machine/Time.lean ====
section
/-! DEFINITION. Logical time and chassis time: the phase generator, its edges, the references, slack and the capture
registers (chapter 02). -/
namespace Sys2Proof.Machine

/-- A change of the time registers. -/
def setTim (f : Tim → Tim) (s : State) : State := { s with tim := f s.tim }

/-- Sum of the intervals held. -/
def Tim.isum (t : Tim) : Nat := t.intervals.sum

/-- The mean of the intervals held, rounded half to even. After a lock out of SLEWING the list begins anew, so that the mean is
one of fewer than 16 intervals until 16 new ones are held (DESIGN CHOICE, log entry 49). -/
def Tim.imean (t : Tim) : Nat :=
  if t.intervals.length = 0 then t.measured else natOf (divRhe t.isum t.intervals.length)

/-- The intervals agree within 1 % of their mean (Table 2.2). -/
def Tim.agree (t : Tim) : Bool :=
  t.intervals.all fun i =>
    let d := (t.intervals.length * i : Int) - t.isum
    decide (d.natAbs * 100 ≤ t.isum)

/-- An interval lies 0.875 to 1.125 times a period (R48). -/
def inWindow (interval period : Nat) : Bool := decide (7 * period ≤ 8 * interval ∧ 8 * interval ≤ 9 * period)

/-- Slot-table entries of a converter that convert in a period of the tick, in position order (R77). -/
def State.slotsDue (s : State) (conv period : Nat) : List Nat :=
  let es := (List.range 16).filter fun e =>
    let x := s.cfg.slots.get (16 * conv + e)
    x.enable && bvGet x.periodMask period && decide (period < s.cfg.tickPeriods)
  sortBy (fun a b => decide ((s.cfg.slots.get (16 * conv + a)).position < (s.cfg.slots.get (16 * conv + b)).position)) es

/-- Fast conversions scheduled in the running period over the usable converters. -/
def State.scheduled (s : State) : Nat :=
  ((List.range 8).map fun c =>
    if bvGet s.mem.degraded (36 + c) then 0 else (s.slotsDue c s.tim.periods).length).sum

/-- A phase at a phase 0: a rest at mid-level ends, and a latched phase returns to low-side-on (Table 5.2, R164, R165). -/
def phaseRestEnd (s : State) (i : Nat) (p : Phase) : Phase :=
  let latched := (s.stg.stages.get (s.pdCfg.phases.get i).stage).ovLatch && !s.sys.pdShutdown
  { p with midRest := false, pwm := if p.midRest && latched && p.pwm = .mid then .low else p.pwm }

/-- A new phase 0 ends the running period: conversions of it that have not started are dropped and counted where the phase 0
comes early (R79), a phase that rests at mid-level leaves its rest (R164). -/
def phaseZero (drops : Bool) (s : State) : State :=
  let made := ((List.range 8).map s.msr.slotNext.get).sum
  let missed := if drops then s.scheduled - made else 0
  let ph := tabMap (phaseRestEnd s) s.stg.phases
  { s with tim := { s.tim with periods := s.tim.periods + 1 }
           msr := { s.msr with slotNext := [], slotMissed := add32 s.msr.slotMissed missed }
           stg := { s.stg with phases := ph } }

/-- The generator changes its state; the tick's transition is an input of the tick (R49, Table 2.4). -/
def genTo (g : GenState) (s : State) : State :=
  setTim (fun t => { t with gen := g, lastTransition := true }) s

/-- FALLBACK is entered at a held period, with SYNC_LOSS (Table 2.2). -/
def enterFallback (held : Nat) (s : State) : State :=
  raiseT kSyncLoss 0 0
    (genTo .fallback (setTim (fun t => { t with held := held, intervals := [], miss := 0, outside := 0 }) s))

/-- An edge while the generator acquires: sixteen intervals that agree, each within 1 to 10 us, lock it (Table 2.2). -/
def edgeAcquiring (interval : Nat) (s : State) : State :=
  let s1 := setTim (fun t => { t with intervals := (interval :: t.intervals).take 16 }) s
  let t := s1.tim
  if t.intervals.length = 16 && t.agree && t.intervals.all (fun i => decide (256000 ≤ i ∧ i ≤ 2560000)) then
    genTo .locked (setTim (fun t => { t with measured := t.imean, miss := 0 }) s1)
  else s1

/-- An accepted edge while locked: phase 0 and a new mean of the last 16 intervals. -/
def edgeLocked (interval : Nat) (s : State) : State :=
  phaseZero true (setTim (fun t =>
    let t1 := { t with intervals := (interval :: t.intervals).take 16 }
    { t1 with measured := t1.imean }) s)

/-- An accepted edge while coasting: phase 0, locked again. -/
def edgeCoasting (s : State) : State :=
  phaseZero true (genTo .locked (setTim (fun t => { t with miss := 0 }) s))

/-- An edge while free-running: sixteen intervals that agree, each within the band, start a slew; each outside it, they raise
SYNC_RANGE (R49, R50). Intervals on both sides of the band's edge do neither, and after SYNC_RANGE sixteen new ones are wanted
(DESIGN CHOICE, log entry 49). -/
def edgeFallback (interval : Nat) (err : Int) (s : State) : State :=
  let s1 := setTim (fun t => { t with intervals := (interval :: t.intervals).take 16 }) s
  let t := s1.tim
  if t.intervals.length = 16 && t.agree then
    if t.intervals.all (fun i => inWindow i t.held) then
      genTo .slewing (setTim (fun t => { t with newPeriod := some t.imean, phaseErr := err, outside := 0
                                                intervals := [] }) s1)
    else if t.intervals.all (fun i => !inWindow i t.held) then raiseT kSyncRange 0 0 (setTim (fun t => { t with intervals := [] }) s1)
    else s1
  else s1

/-- An edge while slewing: its phase error, or the fourth in a row outside the window (Table 2.2). The window of an edge in
SLEWING, where the phase is still off, is that of its interval from the edge before, 0.875 to 1.125 of the measured period
(DESIGN CHOICE, log entry 49). -/
def edgeSlewing (interval : Nat) (err : Int) (s : State) : State :=
  if inWindow interval s.tim.measured then setTim (fun t => { t with phaseErr := err, outside := 0 }) s
  else if s.tim.outside + 1 ≥ 4 then enterFallback s.tim.measured s
  else setTim (fun t => { t with outside := t.outside + 1 }) s

/-- SYNC_EDGE_ACCEPTED: an edge that the generator takes in, with the interval it measures and the phase error it shows
(R48, R49). -/
def execSyncEdgeAccepted (interval : Nat) (err : Int) (s : State) : Out :=
  whenTime true s fun s =>
    match s.tim.gen with
    | .acquiring => edgeAcquiring interval s
    | .locked => if inWindow interval s.tim.measured then edgeLocked interval s else s
    | .coasting => if inWindow interval s.tim.measured then edgeCoasting s else s
    | .fallback => edgeFallback interval err s
    | .slewing => edgeSlewing interval err s

/-- SYNC_EDGE_EARLY: ignored and counted (R48). -/
def execSyncEdgeEarly (s : State) : Out :=
  whenTime (s.tim.gen = .locked || s.tim.gen = .coasting) s
    (setTim fun t => { t with glitches := min (t.glitches + 1) 65535 })

/-- SYNC_EDGE_MISSED: the generator produces phase 0 itself (R48, Table 2.2). -/
def execSyncEdgeMissed (s : State) : Out :=
  whenTime (s.tim.gen = .locked || s.tim.gen = .coasting) s fun s =>
    if s.tim.gen = .locked then phaseZero false (genTo .coasting (setTim (fun t => { t with miss := 1 }) s))
    else if s.tim.miss < 3 then phaseZero false (setTim (fun t => { t with miss := t.miss + 1 }) s)
    else phaseZero false (enterFallback s.tim.measured s)

/-- SYNC_ACQUIRE_TIMEOUT: 1 ms without lock (Table 2.2). -/
def execSyncAcquireTimeout (s : State) : Out :=
  whenTime (s.tim.gen = .acquiring) s fun s =>
    let p := s.cfg.nominalNs * 256
    setTim (fun t => { t with measured := p }) (enterFallback p s)

/-- One phase 0 of a slew: a step of 1/256 Tsw toward the edges, or lock (Table 2.2). The interval list begins anew at the lock
(DESIGN CHOICE, log entry 49). -/
def slewStep (s : State) : State :=
  if s.tim.phaseErr.natAbs ≤ 1 then
    raiseT kSyncLock 0 0 (genTo .locked (setTim (fun t => { t with phaseErr := 0, intervals := [], miss := 0 }) s))
  else setTim (fun t => { t with phaseErr := if t.phaseErr > 0 then t.phaseErr - 1 else t.phaseErr + 1 }) s

/-- The rests of the phases at mid-level end at a phase 0 (R164). -/
def restsEnd (s : State) : State := { s with stg := { s.stg with phases := tabMap (phaseRestEnd s) s.stg.phases } }

/-- FREE_RUN_PHASE_ZERO: in FALLBACK and SLEWING the generator runs by itself (R42, R49). While the core die is held in reset, so
that logical time stands, it ends the rests of latched phases alone: R164 holds there too (DEDUCED, log entry 51). -/
def execFreeRunPhaseZero (s : State) : Out :=
  whenDue (!s.timeRuns || s.tim.gen = .fallback || s.tim.gen = .slewing) s fun s =>
    if !s.timeRuns then restsEnd s else
    let s1 := phaseZero (s.tim.gen = .slewing) s
    if s.tim.gen = .slewing then slewStep s1 else s1

/-- SYNC_OUT_EDGE: the output follows the generator where the batch enables it (R49, R155). -/
def execSyncOutEdge (rise : Bool) (s : State) : Out :=
  whenTime s.cfg.syncOutEn s (setTim fun t => { t with syncOut := rise })

/-! ### Chassis time (R51 to R55) -/

/-- TREF is invalid: the internal oscillator carries on without a step (R51). -/
def trefLost (s : State) : State :=
  raiseT kTrefLoss 1 0 (setTim (fun t => { t with trefValid := false, unreferenced := true }) s)

/-- TREF_LOSS: no edge for 1 us (R51). -/
def execTrefLoss (s : State) : Out := whenTime s.tim.trefValid s trefLost

/-- TREF_MEASUREMENT_COMPLETE: more than 500 ppm off makes TREF invalid (R51). -/
def execTrefMeasurementComplete (ppm : Int) (s : State) : Out :=
  whenTime (s.tim.trefValid && decide (500 < ppm.natAbs)) s trefLost

/-- TREF_LOCK: 64 ms in tolerance (R51). -/
def execTrefLock (s : State) : Out :=
  whenTime (!s.tim.trefValid) s fun s =>
    raiseT kTrefLock 1 0 (setTim (fun t => { t with trefValid := true, unreferenced := false }) s)

/-- Chassis time minus the nearest whole second, ns (Table 2.3). -/
def ppsError (chassis : Nat) : Int :=
  let r := chassis % 1000000000
  if r ≥ 500000000 then (r : Int) - 1000000000 else r

/-- The correction of Table 2.3. How far a rate within 100 ppm is trimmed is a free value within that bound, and so is the
oscillator's scale while TREF is invalid (log entry 8). -/
def ppsCorrect (s : State) : State :=
  let e := ppsError s.tim.chassis
  if e < -1000 then
    raiseT kChassisStep 2 0
      (setTim (fun t => { t with chassis := natOf ((t.chassis : Int) - e), trimPpm := 0, chassisDebt := 0, frac := 0 }) s)
  else if e > 1000 then setTim (fun t => { t with chassisDebt := natOf e, trimPpm := 0 }) s
  else
    let (v, s1) := takeFree s
    setTim (fun t => { t with trimPpm := clampI (-100) 100 v, chassisDebt := 0 }) s1

/-- A time setting that waits for the edge takes effect (R53). -/
def ppsSet (sec : Nat) (s : State) : State :=
  setTim (fun t => { t with chassis := sec * 1000000000, timeSet := true, setPending := none, chassisDebt := 0, frac := 0 }) s

/-- The rate of chassis time in units of 1e-6 of its reference's: the trim of Table 2.3, and the oscillator's scale while TREF is
invalid (R52). -/
def Tim.rate (t : Tim) : Nat := natOf (1000000 + t.trimPpm + if t.trefValid then 0 else t.oscPpm)

/-- Chassis time over `dt` nanoseconds of its reference: at the rate in force, and at 0.999 of it while time stands ahead (R51, R52).
What the slowed count takes off is floor(ns / 1000) of each stretch (DESIGN CHOICE, log entry 49). -/
def advanceChassis (dt : Nat) (t : Tim) : Tim :=
  let n := dt * t.rate + t.frac
  let adv := n / 1000000
  let off := min t.chassisDebt (adv / 1000)
  { t with chassis := (t.chassis + (adv - off)) % 2 ^ 64, chassisDebt := t.chassisDebt - off, frac := n % 1000000 }

/-- A tick of `dt` nanoseconds ends: chassis time runs over what of it a PPS edge in the tick has not brought it up by already. -/
def endTickTime (dt : Nat) (t : Tim) : Tim := { advanceChassis (dt - t.edgeNs) t with edgeNs := 0 }

/-- A PPS edge `dtNs` of chassis time's reference after chassis time last was brought up (R52, R53). -/
def ppsEdgeAt (dtNs : Nat) (s : State) : State :=
  let s := setTim (fun t => { advanceChassis dtNs t with edgeNs := t.edgeNs + dtNs }) s
  let s1 := match s.tim.setPending with
    | some sec => ppsSet sec s
    | none => ppsCorrect s
  let s2 := setTim (fun t => { t with ppsOk := true, ppsLost := false }) s1
  if s.tim.trefValid then s2
  else
    let (v, s3) := takeFree s2
    setTim (fun t => { t with oscPpm := v }) s3

/-- PPS_EDGE: chassis time is brought up to the edge and corrected or set there (R52, R53). Where in the running tick the edge
comes is a free value (log entry 49). -/
def execPpsEdge (s : State) : Out :=
  whenTime s.cfg.ppsEn s fun s =>
    let (v, s1) := takeFree s
    ppsEdgeAt (natOf v) s1

/-- PPS_LOSS: no edge for 2 s, once for an absence, one from the start included (R52). -/
def execPpsLoss (s : State) : Out :=
  whenTime (s.cfg.ppsEn && !s.tim.ppsLost) s fun s =>
    raiseT kPpsLoss 2 0 (setTim (fun t => { t with ppsOk := false, ppsLost := true }) s)

/-- CMD_CHASSIS_TIME_SET: at the next PPS edge, or at once where PPS is not enabled (R53). -/
def cmdChassisTimeSet (seconds : Nat) (s : State) : CmdOut :=
  unlessRefused [(decide (seconds > 18446744073), rsRange, 0)] s fun s =>
    wrote (if s.cfg.ppsEn then setTim (fun t => { t with setPending := some seconds }) s else ppsSet seconds s)
      [(0x02, 0, 0)]

/-- FRAME_NUMBER_SAVE: 2^20 frames after the last save the frame number is written to MRAM (R46). -/
def execFrameNumberSave (s : State) : Out :=
  whenTime (decide (s.tim.savedFrame + 1048576 ≤ s.tim.frame)) s (setTim fun t => { t with savedFrame := t.frame })

/-! ### Slack and completion (R70, R75) -/

/-- The slack of a tick enters the frame's minimum and the worst since the last read (R70, R71). -/
def noteSlack (loop : Nat) (slack : Int) (t : Tim) : Tim :=
  let v := sat32 slack
  let low := match t.slackCur with
    | none => true
    | some m => decide (v < m)
  { t with slackCur := if low then some v else t.slackCur
           slackLoop := if low then loop else t.slackLoop
           slackWorst := if v < t.slackWorst then v else t.slackWorst }

/-- LOOP_EVALUATION_COMPLETE: a tick's last tick-paced evaluation, that of the named loop, is complete; its slack is measured
(R70). Ticks complete in their order, a late one before the next. The times that the round's evaluations took come along, loop by loop (R141). A late result waits for the next boundary,
which takes it in (R72). -/
def execLoopEvaluationComplete (loop : Nat) (slack : Int) (times : List Nat) (s : State) : Out :=
  whenTime (decide (0 < s.lop.roundOpen) && decide (loop < 8)) s fun s =>
    let f := fun (l : Nat) (x : Loop) => if x.evaluated then { x with evalNs := nth times l } else x
    { s with tim := noteSlack loop slack s.tim
             lop := { s.lop with roundOpen := s.lop.roundOpen - 1, loops := s.lop.loops.modifyAll (List.range (min 8 times.length)) f } }

/-- FRAME_WORK_COMPLETE: an engine's work of the running frame is complete (R75); the recorder's is the writes of its flush (R313). -/
def execFrameWorkComplete (engine : Engine) (s : State) : Out :=
  whenTime true s fun s =>
    let e := s.eng
    let e1 := match engine with
      | .marver => { e with marver := true }
      | .estimator => { e with estimator := true }
      | .sequencer => { e with sequencer := true }
      | .lehr => { e with lehr := true }
      | .recorder => { e with recorder := true }
      | .tie => { e with tie := true }
    let s1 := { s with eng := e1 }
    if engine = .recorder then recorderDone s1 else s1

end Sys2Proof.Machine
end

