-- ==== Sys2Proof/Machine/Measure.lean ====
section
/-! DEFINITION. Measurement, window monitors, capture units and thermal sensing (chapter 03). -/
namespace Sys2Proof.Machine

/-- A change of the measurement registers. -/
def setMsr (f : Msr → Msr) (s : State) : State := { s with msr := f s.msr }

/-- to_point of R85. -/
def toPoint (code offset gain : Int) : Int := sat32 (shrRhe ((code - offset) * gain) 16)

/-- A fast converter that the degraded-block set leaves usable (R108). -/
def State.fastUsable (s : State) (conv : Nat) : Bool := !bvGet s.mem.degraded (36 + conv)

/-- A slow converter that the degraded-block set leaves usable (R108). -/
def State.slowUsable (s : State) (conv : Nat) : Bool := !bvGet s.mem.degraded (44 + conv)

/-- FAST_CONVERSION: the converter's next scheduled conversion of the running period, in order of position (R76, R77). -/
def execFastConversion (conv entry : Nat) (code : Int) (s : State) : Out :=
  whenTime (decide (conv < 8) && s.fastUsable conv && (s.slotsDue conv s.tim.periods)[s.msr.slotNext.get conv]? = some entry) s fun s =>
    let ch := 4 * conv + (s.cfg.slots.get (16 * conv + entry)).channel % 4
    let f := fun c : FastCh => { c with codes := c.codes ++ [satS 16 code] }
    setMsr (fun m => { m with fast := m.fast.modify ch f, slotNext := m.slotNext.put conv (m.slotNext.get conv + 1) }) s

/-- The channel at a place of a slow converter's scan list, places running on through the list. -/
def State.scanChan (s : State) (conv pos : Nat) : Nat :=
  let l := s.cfg.scan.get conv
  nth l (pos % max 1 l.length)

/-- SLOW_CONVERSION_COMPLETE: the conversion that runs on from the last tick is a sample of this one; any other is a sample
of the next (R82 to R84). -/
def execSlowConversionComplete (conv : Nat) (code : Int) (s : State) : Out :=
  let more := decide (s.msr.slowDone.get conv < s.cfg.slowPerTick)
  whenTime (decide (conv < 2) && s.slowUsable conv && !(s.cfg.scan.get conv).isEmpty &&
      ((s.msr.slowRun.get conv).isSome || more)) s fun s =>
    let c := clampI 0 262143 code
    match s.msr.slowRun.get conv with
    | some ch =>
      let f := fun x : SlowCh => { x with due := some c }
      setMsr (fun m => { m with slow := m.slow.modify ch f, slowRun := m.slowRun.put conv none }) s
    | none =>
      let ch := s.scanChan conv (s.msr.scanPos.get conv)
      let f := fun x : SlowCh => { x with pend := some c }
      setMsr (fun m => { m with
        slow := m.slow.modify ch f
        scanPos := m.scanPos.put conv ((m.scanPos.get conv + 1) % max 1 (s.cfg.scan.get conv).length)
        slowDone := m.slowDone.put conv (m.slowDone.get conv + 1) }) s

/-- The sample of one fast channel for the tick that ends (R80, R81, R108). -/
def fastSample (ch : Nat) (s : State) : State :=
  let c := s.msr.fast.get ch
  let k := s.cfg.fast.get ch
  let id := 0x080 + ch
  let put := fun x : FastCh => setMsr (fun m => { m with fast := m.fast.put ch x }) s
  if !s.fastUsable (ch / 4) then flagPoint id false true (put { c with codes := [], stale := true })
  else if c.codes.isEmpty then flagPoint id true false (put { c with stale := true, saturated := false })
  else
    let vs := c.codes.map (fun x => toPoint x k.offset k.gain)
    let v := if k.mean then divRhe (sumI vs) vs.length else vs.getLastD 0
    let sat := c.codes.any (fun x => decide (x ≥ 32767 ∨ x ≤ -32768))
    sampleFl id v false sat false (put { codes := [], value := v, stale := false, saturated := sat })

/-- The sample of one slow channel for the tick that ends (R84, R85, R108). -/
def slowSample (ch : Nat) (s : State) : State :=
  let c := s.msr.slow.get ch
  let k := s.cfg.slow.get ch
  let id := 0x0A0 + ch
  let put := fun x : SlowCh => setMsr (fun m => { m with slow := m.slow.put ch x }) s
  if !s.slowUsable (ch / 32) then flagPoint id false true (put { c with pend := none, due := none })
  else match c.due with
    | some code =>
      let v := toPoint code k.offset k.gain
      sample id v (put { c with value := v, stale := false, due := none, dropDue := false })
    | none => if c.dropDue then flagPoint id true false (put { c with stale := true, dropDue := false })
              else flagPoint id false false (put { c with stale := false })

/-- The tick's end for one slow converter: of its conversions that are not complete the first runs on, unless one of an
earlier tick still runs, and the others are dropped; the place in the list passes all of them (R83). -/
def slowTickEnd (conv : Nat) (s : State) : State :=
  let l := s.cfg.scan.get conv
  if l.isEmpty || !s.slowUsable conv then setMsr (fun m => { m with slowDone := m.slowDone.put conv 0 }) s
  else
    let left := s.cfg.slowPerTick - s.msr.slowDone.get conv
    let pos := s.msr.scanPos.get conv
    let busy := (s.msr.slowRun.get conv).isSome
    let run := if busy || left = 0 then s.msr.slowRun.get conv else some (s.scanChan conv pos)
    let skip := if busy || left = 0 then 0 else 1
    let dropped := (List.range (left - skip)).map (fun i => s.scanChan conv (pos + skip + i))
    let f := fun (_ : Nat) (x : SlowCh) => { x with drop := true }
    setMsr (fun m => { m with
      slowRun := m.slowRun.put conv run
      slowDone := m.slowDone.put conv 0
      scanPos := m.scanPos.put conv ((pos + left) % max 1 l.length)
      slotMissed := add32 m.slotMissed dropped.length
      slow := m.slow.modifyAll dropped f }) s

/-- What was converted in the tick that ends becomes due for the next (R84). -/
def slowShift (s : State) : State :=
  let f := fun (_ : Nat) (x : SlowCh) =>
    { x with due := x.pend, pend := none, dropDue := x.drop, drop := false }
  setMsr (fun m => { m with slow := tabMap f m.slow }) s

/-- Fast channels that the slot tables or the batch name. -/
def State.fastUsed (s : State) : List Nat :=
  (List.range 32).filter fun ch =>
    (s.cfg.fast.get ch).typ ≠ 0 || !(s.msr.fast.get ch).codes.isEmpty ||
      s.cfg.slots.any (fun e => e.2.enable && 4 * (e.1 / 16) + e.2.channel = ch)

/-- Slow channels that the scan lists name. -/
def State.slowUsed (s : State) : List Nat :=
  (List.range 64).filter fun ch => (s.cfg.scan.get (ch / 32)).contains ch

/-- Samples of every channel for the tick that ends (R80, R84). -/
def converterSamples (s : State) : State :=
  let s1 := s.fastUsed.foldl (fun s ch => fastSample ch s) s
  s1.slowUsed.foldl (fun s ch => slowSample ch s) s1

/-- The slow converters pass the boundary after the tick's samples are taken. -/
def slowBoundary (s : State) : State := slowShift (slowTickEnd 1 (slowTickEnd 0 s))

/-! ### Window monitors (R89 to R96, R567) -/

/-- A monitor is in use (R567). -/
def State.monOn (s : State) (m : Nat) : Bool := decide (m < 128) && (s.cfg.mons.get m).enable

/-- Number of a comparator in the order of R92: UV outputs, then OV outputs. -/
def cmpIndex (m : Nat) (ov : Bool) : Nat := if ov then 128 + m else m

/-- An edge kind of a comparator is enabled in MSR_WM_INT_EN (R96, R553). -/
def State.intEnabled (s : State) (m : Nat) (ov asserted : Bool) : Bool :=
  let c := cmpIndex m ov
  bvGet (s.msr.intEn.get (c / 16)) (2 * (c % 16) + (if asserted then 0 else 1))

/-- State code of a monitor (R92). -/
def monState (on uv ov : Bool) : Nat := if !on then 0xFF else b2n uv + 2 * b2n ov

/-- One monitor at a tick boundary: event bits, assertion count and points; a disabled one counts none (R92, R96, R107, R567). -/
def monSample (m : Nat) (s : State) : State :=
  let on := s.monOn m
  let x := s.msr.mons.get m
  let u0 := bvGet s.msr.uvS m
  let o0 := bvGet s.msr.ovS m
  let u1 := on && bvGet s.msr.uv m
  let o1 := on && bvGet s.msr.ov m
  let evU := on && u0 ≠ u1 && x.uvRoute.interrupt && s.intEnabled m false u1
  let evO := on && o0 ≠ o1 && x.ovRoute.interrupt && s.intEnabled m true o1
  let n := add32 x.asserts (b2n (u1 && !u0) + b2n (o1 && !o0))
  let s1 := setMsr (fun r => { r with
    uvS := bvPut r.uvS m u1, ovS := bvPut r.ovS m o1
    evUv := if evU then bvPut r.evUv m true else r.evUv
    evOv := if evO then bvPut r.evOv m true else r.evOv
    mons := r.mons.put m { x with asserts := if on then n else 0 } }) s
  sample (0x180 + m) (s1.msr.mons.get m).asserts (sample (0x100 + m) (monState on u1 o1) s1)

/-- Every monitor at a tick boundary. -/
def monitorSamples (s : State) : State := (List.range 128).foldl (fun s m => monSample m s) s

/-- The batch's settings of every monitor are in force; a disabled one's comparators are powered down (R89, R94, R567). -/
def loadMonitors (s : State) : State :=
  let f := fun (m : Nat) (x : Monitor) =>
    let c := s.cfg.mons.get m
    { x with lower := c.lower, upper := c.upper, hyst := c.hyst, uvRoute := c.uvRoute, ovRoute := c.ovRoute
             narrowLower := none, narrowUpper := none, asserts := if c.enable then x.asserts else 0 }
  let on := bvOf 128 fun m => (s.cfg.mons.get m).enable
  setMsr (fun r => { r with mons := r.mons.modifyN 128 f, uv := r.uv &&& on, ov := r.ov &&& on }) s

/-- The bytes of a capture entry (Table 3.4). -/
def CapEntry.bytes (e : CapEntry) : List Byte :=
  leBytes 8 (e.timeHalfNs / 2) ++
    leBytes 1 (e.timeHalfNs % 2 + 2 * b2n e.rising + 4 * b2n e.ov + 8 * b2n e.unreferenced + 16 * b2n e.merged +
      32 * b2n e.lostBefore + 64) ++
    leBytes 1 e.monitor ++ leBytes 2 e.seq ++ leBytes 4 0

/-- The last of a list replaced. -/
def replaceLast {α : Type} (x : α) (l : List α) : List α := l.dropLast ++ [x]

/-- An entry that a further edge joins: the earlier time and the lower monitor index, and the merged flag (R97). -/
def CapEntry.merge (p e : CapEntry) : CapEntry :=
  { p with merged := true, timeHalfNs := min p.timeHalfNs e.timeHalfNs, monitor := min p.monitor e.monitor }

/-- The last entry of a list, if it is the one of a number, takes in a further edge. -/
def mergeLast (seq : Nat) (e : CapEntry) (l : List CapEntry) : List CapEntry :=
  match l.getLast? with
  | some p => if p.seq = seq then replaceLast (p.merge e) l else l
  | none => l

/-- An entry of its own: for the logical copy, which takes 64 a tick, and, apart from it, for the host FIFO, which keeps its
oldest 64 (R98). -/
def CapUnit.enter (u : CapUnit) (e : CapEntry) : CapUnit :=
  let e1 := { e with seq := u.seq }
  let u1 := if u.tick.length < 64 then { u with tick := u.tick ++ [e1] } else { u with tickLoss := u.tickLoss + 1 }
  let u2 := { u1 with seq := (u.seq + 1) % 65536, lastHalfNs := some e.timeHalfNs }
  if u.fifo.length < 64 then { u2 with fifo := u.fifo ++ [{ e1 with lostBefore := u.lostNext }], lostNext := false }
  else { u2 with ovf := inc32 u.ovf, lostNext := true }

/-- An edge enters a capture unit: less than 4 ns from the unit's last entry it joins that entry wherever it still stands, in the
tick's list or in the FIFO; else it is an entry of its own (R97). Two of the model's choices are in log entry 50: a third edge
at least 4 ns after an entry's own time is a new entry, though the edge merged into that entry lies nearer (DESIGN CHOICE); and
a merged entry keeps the edge and the comparator of its first edge (DESIGN CHOICE). -/
def captureEdge (unit : Nat) (e : CapEntry) (s : State) : State :=
  let u := s.msr.caps.get unit
  let near := u.lastHalfNs.any fun t => decide (((e.timeHalfNs : Int) - t).natAbs < 8)
  let last := (u.seq + 65535) % 65536
  let v := if near then
      { u with tick := mergeLast last e u.tick, fifo := mergeLast last e u.fifo, lastHalfNs := u.lastHalfNs.map (min e.timeHalfNs) }
    else u.enter e
  setMsr (fun m => { m with caps := m.caps.put unit v }) s

/-- A comparator's live level changes, and a routed edge is captured (R91, R94, R97). -/
def comparatorEdge (mon : Nat) (ov asserted : Bool) (timeHalfNs : Nat) (s : State) : State :=
  let s1 := setMsr (fun r => if ov then { r with ov := bvPut r.ov mon asserted }
                             else { r with uv := bvPut r.uv mon asserted }) s
  let x := s.msr.mons.get mon
  let rt := if ov then x.ovRoute else x.uvRoute
  if rt.capture && s.timeRuns then
    captureEdge (rt.unit % 16)
      { timeHalfNs := timeHalfNs, rising := asserted, ov := ov, unreferenced := s.tim.unreferenced
        monitor := mon } s1
  else s1

/-- The logical copy of one unit at a tick boundary: its records, its count and its losses; the flight window has taken
the entries (R98, R309). -/
def capSample (u : Nat) (s : State) : State :=
  let x := s.msr.caps.get u
  let rec1 := fun e : CapEntry =>
    ({ typ := rtCapture, opened := true, tick := some s.tim.tick, block := 0x05, inst := 224 + u
       body := trimZeros (e.bytes ++ leBytes 1 u) } : Record)
  let s1 := if bvGet s.cfg.capRecord u then x.tick.foldl (fun s e => addRecord (rec1 e) s) s else s
  let s2 := (List.range x.tickLoss).foldl (fun s _ => raiseT kCaptureLoss (224 + u) 0 s) s1
  let y := { x with tick := [], tickLoss := 0, frameCount := x.frameCount + x.tick.length }
  setMsr (fun m => { m with caps := m.caps.put u y }) s2

/-- Every capture unit at a tick boundary. -/
def captureSamples (s : State) : State := (List.range 16).foldl (fun s u => capSample u s) s

/-- The count of entries taken in the frame is each unit's sample (Table 3.8). -/
def captureFrame (s : State) : State :=
  (List.range 16).foldl (fun s u =>
    let x := s.msr.caps.get u
    sample (0x0E0 + u) x.frameCount (setMsr (fun m => { m with caps := m.caps.put u { x with frameCount := 0 } }) s)) s

/-- WM_NARROW_STEP: the half of a change that narrows the window follows (R95). -/
def execWmNarrowStep (mon : Nat) (s : State) : Out :=
  let x := s.msr.mons.get mon
  whenDue (x.narrowLower.isSome || x.narrowUpper.isSome) s fun s =>
    let x1 := { x with lower := x.narrowLower.getD x.lower, upper := x.narrowUpper.getD x.upper
                       narrowLower := none, narrowUpper := none }
    setMsr (fun m => { m with mons := m.mons.put mon x1 }) s

/-- Bits of MSR_WM_EVENT written 1 are cleared (R96). -/
def clearWmEvents (reg : Nat) (mask : Word) (s : State) : State :=
  let w : BitVec 128 := BitVec.ofNat 128 (mask.toNat * 2 ^ (32 * (reg % 4)))
  setMsr (fun m => if reg < 4 then { m with evUv := m.evUv &&& ~~~w } else { m with evOv := m.evOv &&& ~~~w }) s

/-- A routing byte of CMD_WM_SET. -/
def routeOf (b : Byte) : Route :=
  { unit := b.toNat % 16, capture := bvGet b 4, interrupt := bvGet b 5, wake := bvGet b 6 }

/-- CMD_WM_SET: the named fields of one monitor; where one threshold widens the window and the other narrows it, the
narrowing one follows in a step of its own (R95). -/
def cmdWmSet (mon : Nat) (mask : Byte) (lower upper hyst : Nat) (uv ov : Byte) (s : State) : CmdOut :=
  unlessRefused
    [(!s.monOn mon, rsAbsent, 0), (bvGet mask 0 && decide (lower > 1023), rsRange, 2),
     (bvGet mask 1 && decide (upper > 1023), rsRange, 4), (bvGet mask 2 && decide (hyst > 31), rsRange, 6)] s fun s =>
    let x := s.msr.mons.get mon
    let lo := if bvGet mask 0 then lower else x.lower
    let up := if bvGet mask 1 then upper else x.upper
    let both := decide (lo ≠ x.lower ∧ up ≠ x.upper)
    let deferLo := both && decide (lo > x.lower ∧ up > x.upper)
    let deferUp := both && decide (up < x.upper ∧ lo < x.lower)
    let x1 := { x with
      lower := if deferLo then x.lower else lo
      upper := if deferUp then x.upper else up
      narrowLower := if deferLo then some lo else if bvGet mask 0 then none else x.narrowLower
      narrowUpper := if deferUp then some up else if bvGet mask 1 then none else x.narrowUpper
      hyst := if bvGet mask 2 then hyst else x.hyst
      uvRoute := if bvGet mask 3 then routeOf uv else x.uvRoute
      ovRoute := if bvGet mask 3 then routeOf ov else x.ovRoute }
    wrote (setMsr (fun m => { m with mons := m.mons.put mon x1 }) s)
      (((List.range 4).filter (bvGet mask)).map (fun f => (0x05, mon, f)))

/-- CMD_PEAK_CLEAR: the extremes of a range of points of one node are answered and restart (R88). -/
def cmdPeakClear (first count : Nat) (s : State) : CmdOut :=
  unlessRefused
    [(decide (first ≥ 262144), rsRange, 0), (decide (count = 0 ∨ count > 120), rsRange, 4),
     (decide (first / 4096 ≠ (first + count - 1) / 4096), rsRange, 4)] s fun s =>
    let ids := (List.range count).map (first + ·)
    let reply := ids.flatMap (fun id =>
      let p := s.pnt.shadow.get id
      leInt 4 p.maxv ++ leInt 4 p.minv)
    let fs := fun (_ : Nat) (p : Point) => { p with maxv := p.value, minv := p.value }
    let fa := fun (_ : Nat) (a : PointAcc) => { a with peakArm := true }
    let known := ids.filter (fun id => ptType s.cfg id ≠ 0)
    done { s with pnt := { s.pnt with shadow := s.pnt.shadow.modifyAll known fs
                                      acc := s.pnt.acc.modifyAll known fa } } reply

/-! ### Thermal sensing (R100 to R106) -/

/-- Upper range limit of a sensor (Table 3.5). -/
def sensorTop (i : Nat) : Int := if i < 12 then 17500 else 15000

/-- MSR_ object of a sensor (Table 1.5). -/
def sensorInst (i : Nat) : Nat := 240 + i

/-- Neighbours of a sensor (R101, Table 3.6). -/
def State.sensorNeighbours (s : State) (i : Nat) : List Nat :=
  if i < 6 then (List.range 6).filter (· ≠ i)
  else if i < 12 then ((List.range 6).map (· + 6)).filter (· ≠ i)
  else (s.cfg.neighbours.get (i - 12)).map (· + 12)

/-- The lowest raw code of an on-die sensor's scale, which the spec does not state. -/
opaque Config.rawLowest : Int

/-- The highest raw code of an on-die sensor's scale, which the spec does not state. -/
opaque Config.rawHighest : Int

/-- The raw code of a remote diode after the corrections that the batch sets, by ideality and series resistance; the spec gives
no formula (R100, log entry 50). -/
opaque Config.diodeRaw (ideality series raw : Int) : Int

/-- A conversion's raw code in the scale of 0.0625 degC: that of a remote diode is corrected (R100). -/
def State.rawOf (s : State) (i : Nat) (c : SensorConv) : Int :=
  if i < 12 then c.raw else Config.diodeRaw (s.cfg.diodes.get (i - 12)).ideality (s.cfg.diodes.get (i - 12)).series c.raw

/-- The conditions Open and Shorted of Table 3.6. -/
def faulty (i : Nat) (c : SensorConv) : Bool :=
  if i < 12 then decide (c.raw ≤ Config.rawLowest ∨ Config.rawHighest ≤ c.raw) else c.opened || c.shorted

/-- Median; of an even number of values, the mean of the middle two rounded half to even (DEDUCED, log entry 15). -/
def median (l : List Int) : Int :=
  let t := sortBy (fun a b => decide (a < b)) l
  if l.length % 2 = 1 then nth t (l.length / 2) else divRhe (nth t (l.length / 2 - 1) + nth t (l.length / 2)) 2

/-- A raw code in 0.01 degC (R100). -/
def rawValue (raw : Int) : Int := divRhe (raw * 25) 4

/-- The thermal converter of a sensor is usable; else the sensor reads broken (Table 12.6). -/
def State.thermUsable (s : State) (i : Nat) : Bool :=
  !bvGet s.mem.degraded (if 6 ≤ i ∧ i < 12 then 47 else 46)

/-- One sensor's conversion, with the frame's measured values for its neighbours (R100 to R102). A broken neighbour enters the
median with the value it measured, not with the limit that it reads (DESIGN CHOICE, log entry 50). -/
def sensorConvert (conv : Tab SensorConv) (i : Nat) (s : State) : State :=
  let x := s.msr.sensors.get i
  let c := conv.get i
  if !s.thermUsable i then
    let y := { x with broken := true, clean := 0, value := sensorTop i }
    let s1 := setMsr (fun m => { m with sensors := m.sensors.put i y }) s
    sample (0x020 + i) y.value (raiseIf (!x.broken) kSensorBroken (sensorInst i) 0 s1)
  else
    let v := rawValue (s.rawOf i c)
    let same := if c.raw = x.raw then min (x.same + 1) 256 else 1
    let ns := (s.sensorNeighbours i).map (fun j => rawValue (s.rawOf j (conv.get j)))
    let off := !ns.isEmpty && decide ((v - median ns).natAbs > s.cfg.plausDelta.natAbs)
    let imp := if off then min (x.implausible + 1) 16 else 0
    let bad := faulty i c || decide (same ≥ 256) || decide (imp ≥ 16)
    let broken := x.broken || bad
    let clean := if bad then 0 else if x.broken then min (x.clean + 1) 256 else 0
    let y : Sensor := { raw := c.raw, same := same, implausible := imp, measured := v, broken := broken
                        clean := clean, value := if broken then sensorTop i else v }
    let s1 := setMsr (fun m => { m with sensors := m.sensors.put i y }) s
    sample (0x020 + i) y.value (raiseIf (bad && !x.broken) kSensorBroken (sensorInst i) 0 s1)

/-- Sensors of a die: the core die's include the remote diodes (R103). -/
def dieSensors (core : Bool) : List Nat :=
  if core then List.range 6 ++ (List.range 8).map (· + 12) else (List.range 6).map (· + 6)

/-- Largest reading of a die (R103). -/
def State.dieMax (s : State) (core : Bool) : Int :=
  (maxI ((dieSensors core).map (fun i => (s.msr.sensors.get i).value))).getD 0

/-- A die's maximum enters its running sub-window; the states take effect at the frame boundary (R104, R105). -/
def thermFrame (now : Int) (d : DieTherm) : DieTherm :=
  { d with maxNow := now
           subMax := some (match d.subMax with | none => now | some m => if now > m then now else m)
           warnEff := d.warn, throttleEff := d.throttle }

/-- The frame's thermal and supply conversions at the boundary that opens its tick 0 (R100, R103, R107). -/
def thermalConversion (inp : FrameInputs) (s : State) : State :=
  let s1 := (List.range 20).foldl (fun s i => sensorConvert inp.sensors i s) s
  let cm := s1.dieMax true
  let pm := s1.dieMax false
  let s2 := setMsr (fun m => { m with coreTherm := thermFrame cm m.coreTherm, powerTherm := thermFrame pm m.powerTherm
                                      subFrame := m.subFrame + 1 }) s1
  let dm := if cm > pm then cm else pm
  let s3 := sampleAll [(0x034, cm), (0x035, pm), (0x036, dm), (0x037, s2.msr.coreTherm.rise),
    (0x038, s2.msr.powerTherm.rise)] s2
  (List.range inp.supplies.length).foldl (fun s i =>
    if i < 9 then sample (0x010 + i) (nth inp.supplies i) s else s) s3

/-- SENSOR_RESTORED: after 256 clean conversions in a row (R102). -/
def execSensorRestored (sensor : Nat) (s : State) : Out :=
  let x := s.msr.sensors.get sensor
  whenTime (x.broken && decide (x.clean ≥ 256)) s fun s =>
    let y := { x with broken := false, clean := 0, value := x.measured }
    raise kSensorRestored (sensorInst sensor) 0 (setMsr (fun m => { m with sensors := m.sensors.put sensor y }) s)

/-- Rise and states of one die at the end of a sub-window (R104). -/
def dieRise (b : Batch) (broken : Bool) (d : DieTherm) : DieTherm :=
  let ring := ((d.subMax.getD d.maxNow) :: d.ring).take 64
  let rise := ring.headD 0 - ring.getLastD 0
  let up := fun (on : Bool) (lim : Int) => if on then decide (rise > lim - b.thermHyst) else decide (rise ≥ lim)
  { d with ring := ring, subMax := none, rise := rise
           warn := broken || up d.warn b.warnRise, throttle := broken || up d.throttle b.throttleRise }

/-- The messages of a die whose states change (R105). -/
def dieMessages (inst : Nat) (o n : DieTherm) (s : State) : State :=
  let s1 := raiseIf (!o.warn && n.warn) kThermRiseWarn inst 0 s
  let s2 := raiseIf (!o.throttle && n.throttle) kThermThrottle inst 0 s1
  let s3 := raiseIf (o.warn && !n.warn) kThermClear inst 0 s2
  raiseIf (o.throttle && !n.throttle) kThermClear inst 0 s3

/-- THERM_SUBWINDOW_END: after sub_frames frames the rise of each die and its states are computed (R104, R105). The remote diodes,
which enter the core die's maximum, count as sensors of the core die here too (DEDUCED from R103, log entry 50). -/
def execThermSubwindowEnd (s : State) : Out :=
  whenTime (decide (s.msr.subFrame ≥ s.cfg.subFrames)) s fun s =>
    let brk := fun core => (dieSensors core).any (fun i => (s.msr.sensors.get i).broken)
    let c := dieRise s.cfg (brk true) s.msr.coreTherm
    let p := dieRise s.cfg (brk false) s.msr.powerTherm
    let s1 := setMsr (fun m => { m with coreTherm := c, powerTherm := p, subFrame := 0 }) s
    dieMessages 246 s.msr.powerTherm p (dieMessages 240 s.msr.coreTherm c s1)

end Sys2Proof.Machine
end

