-- ==== Sys2Proof/Machine/Loops.lean ====
section
/-! DEFINITION. The loop engine: input sources, one evaluation, region changes and blends, residual supervision, starts,
lateness and the speed floor (chapter 04). -/
namespace Sys2Proof.Machine

/-- A change of one loop. -/
def setLoop (l : Nat) (f : Loop → Loop) (s : State) : State :=
  { s with lop := { s.lop with loops := s.lop.loops.modify l f } }

/-- The loop l. -/
def State.loop (s : State) (l : Nat) : Loop := s.lop.loops.get l

/-- The stage st. -/
def State.stage (s : State) (st : Nat) : Stage := s.stg.stages.get st

/-- A change of one stage. -/
def setStage (st : Nat) (f : Stage → Stage) (s : State) : State :=
  { s with stg := { s.stg with stages := s.stg.stages.modify st f } }

/-- A change of one phase. -/
def setPhase (i : Nat) (f : Phase → Phase) (s : State) : State :=
  { s with stg := { s.stg with phases := s.stg.phases.modify i f } }

/-- Phases of a stage, in index order (R151). -/
def phasesOf (b : Batch) (st : Nat) : List Nat := (List.range 24).filter (fun i => (b.phases.get i).stage = st)

/-- A stage with at least one phase is in use (R151). -/
def State.stageUsed (s : State) (st : Nat) : Bool := decide (st < 6) && !(phasesOf s.cfg st).isEmpty

/-- Usable MAC lanes (R140). -/
def State.lanes (s : State) : Nat := ((List.range 4).filter (fun k => !bvGet s.mem.degraded (32 + k))).length

/-- The string of a battery stage is END (R157, R243). -/
def State.stageEnded (s : State) (st : Nat) : Bool :=
  let c := s.cfg.stages.get st
  c.battery && (s.bat.cur.strings.get c.string).ended

/-! ### Fixed-point helpers (R113, R115, R116, R130) -/

/-- to_pu of R113. -/
def toPu (v scale : Int) (shift : Nat) : Int := sat32 (shrRhe (v * scale) shift)

/-- to_dest of R115. -/
def toDest (ua base : Int) : Int := sat32 (shrRhe (ua * base) 24)

/-- An accumulator of Q3.28 by Q7.24 products as Q7.24 (R116). -/
def rhe28 (acc : Int) : Int := sat32 (shrRhe acc 28)

/-- Sum over n columns of one row of a row-major matrix times a vector. -/
def rowDot (mat : List Int) (stride i n : Nat) (v : List Int) : Int :=
  sumI ((List.range n).map (fun j => nth mat (i * stride + j) * nth v j))

/-- The carry of R123 from one region's basis into another's. -/
def carry (old new : Region) (n : Nat) (xh : List Int) : List Int :=
  let z := (List.range n).map (fun i => rhe28 (rowDot old.mb 12 i n xh))
  (List.range n).map (fun i => rhe28 (rowDot new.mi 12 i n z))

/-- The residuals of a region on its own state (R117). -/
def residuals (g : Region) (n m : Nat) (xh y : List Int) : List Int :=
  (List.range m).map (fun i => sat32 (nth y i - rhe28 (rowDot g.c 12 i n xh)))

/-- The clipped controls of a region on its own state (R117). -/
def controls (g : Region) (n p : Nat) (xh refs : List Int) : List Int :=
  (List.range p).map (fun k =>
    clampI (nth g.uMin k) (nth g.uMax k) (rhe28 (nth g.nn k * nth refs k - rowDot g.k 12 k n xh)))

/-- The next state of a region (R117). -/
def nextState (g : Region) (n m p : Nat) (xh ua r : List Int) : List Int :=
  (List.range n).map (fun i => rhe28 (rowDot g.a 12 i n xh + rowDot g.b 4 i p ua + rowDot g.l 8 i m r))

/-- axis_index of R121: up while the variable stands at or above a boundary plus its half-width, then down. -/
def axisIndex (s : Int) (cur : Nat) (ax : List (Int × Int)) : Nat :=
  let nb := ax.length
  let i := min cur nb
  let up := ((List.range (nb - i)).map (i + ·)).takeWhile
    (fun k => decide (s ≥ (nth ax k).1 + (nth ax k).2))
  let i1 := i + up.length
  let down := ((List.range i1).reverse).takeWhile (fun k => decide (s < (nth ax k).1 - (nth ax k).2))
  i1 - down.length

/-- The index at a start: boundaries at or below the variable, without hysteresis (R121). -/
def axisStart (s : Int) (ax : List (Int × Int)) : Nat := (ax.filter (fun b => decide (b.1 ≤ s))).length

/-- Code of a control mode (Table 5.3). -/
def modeCode : Mode → Nat
  | .charge => 0
  | .idle => 1
  | .discharge => 2
  | .trim => 3

/-- The mode of a code. -/
def modeOf (c : Nat) : Mode :=
  if c = 0 then .charge else if c = 1 then .idle else if c = 2 then .discharge else .trim

/-! ### Sources and references (R111 to R113, R127) -/

/-- Mode that a loop's source gives it (Table 4.4, R194). -/
def State.loopMode (s : State) (l : Nat) : Mode :=
  if l = 6 then (if s.shr.hold.st = .holdup then .discharge else .idle)
  else if l = 7 then (s.cfg.loops.get 7).constMode
  else
    let x := s.stage l
    if (x.transferDue || x.inHoldup) && !s.stageEnded l then .discharge else x.modeTick

/-- Outputs of a loop's latest evaluation in destination units; for a loop whose evaluation of the tick is skipped those of its late
one, which precedes whatever is evaluated after it (DEDUCED from R72 and R73, log entry 19). -/
def Loop.newOut (l : Loop) : List Int := l.pendOut.getD (l.lateOut.getD l.out)

/-- A mode uses the stage's voltage reference (Table 5.5). -/
def usesVolt (m : Mode) : Bool := m = .trim

/-- A mode uses the stage's current reference. -/
def usesCur (m : Mode) : Bool := m = .charge || m = .discharge

/-- An output names a reference of a stage that a mode uses (R111). -/
def names (d : Dest) (st : Nat) (m : Mode) : Bool :=
  match d with
  | .voltRef x => x = st && usesVolt m
  | .curRef x => x = st && usesCur m
  | _ => false

/-- Index of the first output of loop l that names a reference of a stage in use by a mode. -/
def outFor (b : Batch) (l st : Nat) (m : Mode) : Option Nat :=
  (List.range (b.loops.get l).p).find? (fun k => names (nth (b.loops.get l).outs k).dest st m)

/-- L6 commands a reference of the stage: in DISCHARGE mode, a disabled or stopped one with its safe values (R111, R135, R157). -/
def State.l6For (s : State) (st : Nat) (m : Mode) : Option Nat :=
  if s.loopMode 6 = .discharge && !s.stageEnded st then outFor s.cfg 6 st m else none

/-- L7 commands a reference of the stage (R111). -/
def State.l7For (s : State) (st : Nat) (m : Mode) : Option Nat :=
  if (s.loop 7).enabled && (s.loop 7).running && !(s.loop 7).stopped then outFor s.cfg 7 st m else none

/-- A reference that L6 or L7 gives is held to the stage's limits (R153). -/
def clampRef (c : StageCfg) (m : Mode) (v : Int) : Int :=
  if usesVolt m then clampI c.vMin c.vMax v else clampI 0 (if m = .charge then c.iChgMax else c.iDisMax) v

/-- The reference of a stage in force for a mode, in mV or mA (R111). -/
def State.refInForce (s : State) (st : Nat) (m : Mode) : Int :=
  let c := s.cfg.stages.get st
  match s.l6For st m with
  | some k => clampRef c m (nth (s.loop 6).newOut k)
  | none => match s.l7For st m with
    | some k => clampRef c m (nth (s.loop 7).out k)
    | none => (s.stage st).rampRef

/-- Value of a source in point units (or Q7.24 for a loop output and a constant), and its invalid flag (Table 4.2, R114). -/
def State.srcValue (s : State) (src : Src) : Int × Bool :=
  match src with
  | .fast c => ((s.msr.fast.get c).value, bvGet s.mem.degTick (36 + c / 4))
  | .slow c => ((s.msr.slow.get c).value, bvGet s.mem.degTick (44 + c / 32))
  | .point p => (s.lop.framePts.get p, s.lop.frameInv.get p)
  | .loopOut l k => (nth (s.loop l).ua k, false)
  | .stageRef st => ((s.stage st).rampRef, false)
  | .const v => (v, false)

/-- An input or scheduling entry in per-unit (R113). -/
def State.entryPu (s : State) (e : SrcEntry) : Int × Bool :=
  match e.src with
  | .const v => (v, false)
  | src => let (v, inv) := s.srcValue src
           (toPu v e.scale e.shift, inv)

/-- A reference entry of loop l in per-unit: for a stage loop an active output of L6 or L7 stands for the stage's own
slewed reference (R111). -/
def State.refPu (s : State) (l : Nat) (m : Mode) (e : SrcEntry) : Int :=
  if l < 6 && e.src = .stageRef l then toPu (s.refInForce l m) e.scale e.shift else (s.entryPu e).1

/-- The point of an input's source, as a residual message names it (R131). -/
def State.srcPoint (s : State) (l : Nat) (e : SrcEntry) : Nat :=
  match e.src with
  | .fast c =>
    match (phasesOf s.cfg l).find? (fun i => (s.cfg.phases.get i).phaseChan = c) with
    | some i => if l < 6 then 0x200 + 4 * i + 1 else 0x080 + c
    | none => 0x080 + c
  | .slow c => 0x0A0 + c
  | .point p => p
  | .loopOut k o => 0x300 + 16 * k + 1 + o
  | .stageRef st => 0x260 + 16 * st + (if usesCur (s.stage st).mode then 7 else 6)
  | .const _ => 0

/-- Value at a loop output's destination (R130): for a stage loop the stage's applied value, for L6 and L7 the reference in
force. -/
def State.destValue (s : State) (l : Nat) (d : Dest) : Int :=
  match d with
  | .peakRef => (s.stage l).peakRef
  | .slope => (s.stage l).slopeRef
  | .voltRef st => if usesVolt (s.loopMode st) then s.refInForce st .trim else divRhe (s.stage st).vSlew 1000
  | .curRef st => if usesCur (s.loopMode st) then s.refInForce st (s.loopMode st) else divRhe (s.stage st).iSlew 1000

/-- An output of loop l is applied at its destination (R111, R130). -/
def State.outApplied (s : State) (l k : Nat) (d : Dest) : Bool :=
  match d with
  | .peakRef | .slope => true
  | .voltRef st | .curRef st =>
    let m := s.loopMode st
    if l = 6 then s.l6For st m = some k
    else (s.l6For st m).isNone && s.l7For st m = some k

/-! ### One evaluation -/

/-- The cells of a mode and set of a loop (R120). -/
def cellRegion (c : LoopCfg) (m : Mode) (rset cell : Nat) : Nat :=
  let cells := c.sets.get (5 * modeCode m + rset)
  cells.getD cell 0xFFFF

/-- A loop is blending: its weight has not reached 64 (R124). -/
def Loop.blending (x : Loop) : Bool :=
  x.old.isSome && decide (divRhe (64 * x.j) (max 1 x.blendLen) < 64)

/-- Loops that blend now (R122). -/
def State.blendCount (s : State) : Nat := ((List.range 8).filter (fun l => (s.loop l).blending)).length

/-- The region in use after the transitions due at one evaluation (Tables 4.4, 4.5): the target set and mode first, then
scheduling, with the carry of R123. The new state, the old region's own state and the counters of the blend follow. -/
def loopTransition (s : State) (c : LoopCfg) (m : Mode) (sa sb : Int) (x : Loop) : Loop :=
  let rs := x.policySet.getD x.rset
  let changed := decide (m ≠ x.mode ∨ rs ≠ x.rset)
  let g := c.grids.get (modeCode m)
  let ia := axisIndex sa x.ia g.axisA
  let ib := axisIndex sb x.ib g.axisB
  let target := cellRegion c m rs (ia + 4 * ib)
  let x1 := { x with mode := m, rset := rs, policySet := none, ia := ia, ib := ib, justChanged := changed
                     heldBack := false }
  let go := fun r : Nat => carry (s.cfg.regions.get x.region) (s.cfg.regions.get r) c.n x.xh
  if changed then
    let r := if target = 0xFFFF then x.region else target
    { x1 with region := r, xh := go r, old := none, j := 0, blendLen := 0, xhOld := [] }
  else if x.blending || target = 0xFFFF || target = x.region then x1
  else if g.blendTicks ≤ 1 then
    { x1 with region := target, xh := go target, old := none, j := 0, blendLen := 0, xhOld := [] }
  else if s.blendCount ≥ s.cfg.blendLimit then { x1 with heldBack := true }
  else { x1 with region := target, xh := go target, old := some x.region, xhOld := x.xh, j := 0
                 blendLen := g.blendTicks }

/-- The persistence counters after one evaluation (R131, R132): an excluded input is not supervised. -/
def countResiduals (g : Region) (excl : BitVec 8) (m : Nat) (r : List Int) (inv : List Bool) (old : List Nat) :
    List Nat :=
  (List.range m).map (fun i =>
    if bvGet excl i then 0
    else if nth inv i then nth g.pers i
    else if (nth r i).natAbs > (nth g.thr i).toNat then min (nth old i + 1) (max 1 (nth g.pers i))
    else 0)

/-- Applied outputs with the marks of rate limiting, tracking and disagreement (R129, R130). -/
def outputStage (s : State) (l : Nat) (c : LoopCfg) (g : Region) (target prev : List Int) :
    List (Int × Bool × Bool × Bool) :=
  (List.range c.p).map (fun k =>
    let o := nth c.outs k
    if s.outApplied l k o.dest then
      let d := sat32 (nth target k - nth prev k)
      let sl := nth g.slew k
      let d1 := if sl ≠ 0 then clampI (-sl) sl d else d
      let lim := decide (sl ≠ 0 ∧ d1 ≠ d)
      (sat32 (nth prev k + d1), lim, false, lim)
    else (toPu (s.destValue l o.dest) o.trackScale o.trackShift, false, true, false))

/-- One evaluation of loop l on the inputs of one tick (R117, R124, R128 to R131). -/
def evalLoop (l : Nat) (s : State) : State :=
  let c := s.cfg.loops.get l
  let m := s.loopMode l
  let g0 := c.grids.get (modeCode m)
  let x := loopTransition s c m (s.entryPu g0.sa).1 (s.entryPu g0.sb).1 (s.loop l)
  let ins := (List.range c.m).map (fun i => s.entryPu (nth c.inputs i))
  let y := ins.map (·.1)
  let refs := (List.range c.p).map (fun k => s.refPu l m (nth c.refs k))
  let g := s.cfg.regions.get x.region
  let r := residuals g c.n c.m x.xh y
  let uc := controls g c.n c.p x.xh refs
  let blend := x.blending
  let j := if blend then x.j + 1 else x.j
  let w := divRhe (64 * j) (max 1 x.blendLen)
  let go := s.cfg.regions.get (x.old.getD 0)
  let ro := residuals go c.n c.m x.xhOld y
  let uo := controls go c.n c.p x.xhOld refs
  let target := if blend then
      (List.range c.p).map (fun k => sat32 (shrRhe (w * nth uc k + (64 - w) * nth uo k) 6))
    else uc
  let outs := outputStage s l c g target x.ua
  let ua := outs.map (·.1)
  let x1 := { x with
    j := j, res := r, ua := ua, evaluated := true
    xh := nextState g c.n c.m c.p x.xh ua r
    xhOld := if blend then nextState go c.n c.m c.p x.xhOld ua ro else x.xhOld
    counters := countResiduals g (c.excludes.get x.rset) c.m r (ins.map (·.2)) x.counters
    rateLimiting := outs.any (fun o => o.2.1), tracking := outs.any (fun o => o.2.2.1), justChanged := false
    pendOut := some ((List.range c.p).map (fun k => toDest (nth ua k) (nth c.outs k).base)) }
  let bad := (List.range c.p).find? (fun k => (nth outs k).2.2.2)
  let s1 := setLoop l (fun _ => x1) s
  match bad with
  | some k => raiseTIf x.justChanged kModeDisagree l (0x300 + 16 * l + 1 + k) s1
  | none => s1

/-- A loop is evaluated in a round (R73, R110, R133, R135, R161). -/
def State.loopRuns (s : State) (l : Nat) : Bool :=
  let x := s.loop l
  x.enabled && x.running && !x.stopped && !x.skipping && decide (0 < s.lanes) &&
    (decide (l ≥ 6) || (s.stage l).st = .running || (s.stage l).st = .stopping)

/-- Order of the loops in a round (R68). -/
def loopOrder : List Nat := [6, 0, 1, 2, 3, 4, 5, 7]

/-- One round: every loop that runs, in order; the tick's last evaluation is awaited (R70). -/
def loopRound (s : State) : State :=
  let any := loopOrder.any s.loopRuns
  let s1 := loopOrder.foldl (fun s l => if s.loopRuns l then evalLoop l s else s) s
  if any then { s1 with lop := { s1.lop with roundOpen := min (s1.lop.roundOpen + 1) 255 } } else s1

/-! ### Results and lateness at a boundary (R18, R72 to R74) -/

/-- Outputs take effect at a loop's destinations: a stage loop's on its own stage, those of L6 and L7 as references for
the evaluations to come (R18, R153). A stage outside RUNNING and STOPPING applies
none. -/
def applyOutputs (l : Nat) (o : List Int) (s : State) : State :=
  let c := s.cfg.loops.get l
  let s1 := setLoop l (fun x => { x with out := o }) s
  if l < 6 && ((s.stage l).st = .running || (s.stage l).st = .stopping) then
    let sc := s.cfg.stages.get l
    (List.range c.p).foldl (fun s k =>
      match (nth c.outs k).dest with
      | .peakRef => setStage l (fun x => { x with peakRef := clampI 0 sc.peakMax (nth o k), switching := true }) s
      | .slope => setStage l (fun x => { x with slopeRef := natOf (clampI 0 255 (nth o k)), switching := true }) s
      | _ => s) s1
  else s1

/-- Safe values of a loop's outputs (R115). -/
def safes (c : LoopCfg) : List Int := (List.range c.p).map (fun k => (nth c.outs k).safe)

/-- What became of a loop's evaluations by the boundary that ends a tick: on time, or late, in which case the result is applied at
the next boundary; or skipped, where the evaluation before it was late and is still not complete (R72 to R74). -/
def loopBoundary (loopsDone : BitVec 8) (l : Nat) (s : State) : State :=
  let x := s.loop l
  let due := bvGet loopsDone l
  if x.safeDue then
    applyOutputs l (safes (s.cfg.loops.get l))
      (setLoop l (fun x => { x with safeDue := false, pendOut := none, lateOut := none, skipping := false, flag := 0 }) s)
  else if x.skipping then
    raiseT kLoopSkip l 0 (setLoop l (fun x => { x with skipping := false, flag := 2, skipCount := inc32 x.skipCount }) s)
  else
    let s1 := match x.lateOut with
      | some late => applyOutputs l late (setLoop l (fun x => { x with lateOut := none }) s)
      | none => s
    match x.pendOut with
    | none => setLoop l (fun x => { x with flag := 0 }) s1
    | some o =>
      if due then applyOutputs l o (setLoop l (fun x => { x with pendOut := none, flag := 0 }) s1)
      else raiseT kLoopOverrun l 0
        (setLoop l (fun x => { x with lateOut := some o, pendOut := none, flag := 1, lateCount := inc32 x.lateCount }) s1)

/-- A loop with a late evaluation that the next boundary will not find complete either is not evaluated on this tick's inputs
(R73). -/
def loopSkips (skips : BitVec 8) (l : Nat) (s : State) : State :=
  setLoop l (fun x => { x with skipping := x.lateOut.isSome && bvGet skips l }) s

/-- Region within a set: the cell (R141). -/
def Loop.word (x : Loop) : Nat :=
  modeCode x.mode + 4 * x.rset + 32 * (x.ia + 4 * x.ib) + 512 * b2n x.blending + 1024 * b2n x.rateLimiting +
    2048 * b2n x.tracking + 4096 * b2n x.stopped + 8192 * b2n (!x.enabled)

/-- The samples that an evaluation of the ending tick supplies, and LOP_STATUS (R141). -/
def loopSamples (l : Nat) (s : State) : State :=
  let x := s.loop l
  let base := 0x300 + 16 * l
  let s0 := { s with lop := { s.lop with status := s.lop.status.put l x.word } }
  if !x.evaluated then s0
  else
    let c := s.cfg.loops.get l
    let outs := (List.range c.p).map (fun k => (base + 1 + k, nth x.newOut k))
    let res := (List.range c.m).map (fun i => (base + 5 + i, divRhe (nth x.res i * 1000000) 16777216))
    setLoop l (fun x => { x with evaluated := false })
      (sampleAll ([(base, (x.word : Int))] ++ outs ++ res ++
        [(base + 13, (x.evalNs : Int)), (base + 14, (x.lateCount : Int)), (base + 15, (x.skipCount : Int))]) s0)

/-- Results of every loop at the boundary, in the round's order, with the ending tick's samples taken before them. -/
def loopsAtBoundary (loopsDone skips : BitVec 8) (s : State) : State :=
  let s1 := loopOrder.foldl (fun s l => loopSamples l s) s
  loopOrder.foldl (fun s l => loopSkips skips l (loopBoundary loopsDone l s)) s1

/-- Values and invalid flags of the POINT sources as they stand at the boundary that opens a frame (R112, R114). -/
def keepFramePoints (s : State) : State :=
  let srcs := (List.range 8).flatMap (fun l =>
    let c := s.cfg.loops.get l
    c.inputs ++ c.refs ++ c.grids.flatMap (fun g => [g.2.sa, g.2.sb]))
  let pts := srcs.filterMap (fun e => match e.src with | .point p => some p | _ => none)
  { s with lop := { s.lop with framePts := pts.foldl (fun t p => t.put p (s.pt p)) []
                               frameInv := pts.foldl (fun t p => t.put p (s.pnt.shadow.get p).invalid) [] } }

/-! ### Starts and stops (R133, R135, R136) -/

/-- A loop starts: zero state, cells chosen without hysteresis, counters cleared, set 0, and outputs that continue from
their destinations (R136). -/
def startLoop (l : Nat) (s : State) : State :=
  let c := s.cfg.loops.get l
  let m := s.loopMode l
  let g := c.grids.get (modeCode m)
  let ia := axisStart (s.entryPu g.sa).1 g.axisA
  let ib := axisStart (s.entryPu g.sb).1 g.axisB
  let ua := (List.range c.p).map (fun k =>
    let o := nth c.outs k
    toPu (s.destValue l o.dest) o.trackScale o.trackShift)
  setLoop l (fun x => { x with
      running := true, stopped := false, mode := m, rset := 0, ia := ia, ib := ib
      region := cellRegion c m 0 (ia + 4 * ib), old := none, j := 0, blendLen := 0
      xh := List.replicate c.n 0, xhOld := [], ua := ua, res := [], counters := [], heldBack := false
      rateLimiting := false, tracking := false, policySet := none, policyStop := false, justChanged := false
      pendOut := none, lateOut := none, safeDue := false, skipping := false, flag := 0, evaluated := false }) s

/-- A loop's outputs take their safe values from the next tick boundary and nothing late comes after (R133, R135). -/
def dropLoop (l : Nat) (stopped : Bool) (s : State) : State :=
  setLoop l (fun x => { x with stopped := x.stopped || stopped, safeDue := true, pendOut := none, lateOut := none
                               skipping := false, old := none, xhOld := [], policySet := none, policyStop := false, evaluated := false }) s

/-- BLEND_END: the weight has reached 64 and the old region is dropped (R124). -/
def execBlendEnd (loop : Nat) (s : State) : Out :=
  let x := s.loop loop
  whenTime (decide (loop < 8) && x.old.isSome && !x.blending) s
    (setLoop loop (fun x => { x with old := none, xhOld := [], j := 0, blendLen := 0 }))

/-! ### The speed floor (R81, R137 to R139); times in 1/10,240 of a nanosecond, in which each of its terms is whole -/

/-- Nanoseconds of a time, rounded half to even (DESIGN CHOICE, log entry 19). -/
def floorNs (v : Nat) : Nat := natOf (divRhe v 10240)

/-- Rounds of a number of products on a number of lanes. -/
def roundsOf (macs lanes : Nat) : Nat := (macs + lanes - 1) / max 1 lanes

/-- Products of one evaluation (R118). -/
def macs (c : LoopCfg) : Nat := c.n * (c.n + 2 * c.m + 2 * c.p)

/-- Worst-corner time of one evaluation: 4.4 ns for each round, and 45 ns (R137, Table 4.6). -/
def evalTime (c : LoopCfg) (lanes : Nat) : Nat := 10240 * 45 + 45056 * roundsOf (macs c) lanes

/-- Worst-corner time of a carry (R137). -/
def carryTime (c : LoopCfg) (lanes : Nat) : Nat := 45056 * roundsOf (2 * c.n * c.n) lanes

/-- Modes in which a loop is evaluated: those that its stage allows, and for a battery stage DISCHARGE in hold-up and IDLE at END
(R157, Table 4.4). -/
def loopModes (b : Batch) (l : Nat) : List Mode :=
  if l = 6 then [.idle, .discharge]
  else if l = 7 then [(b.loops.get 7).constMode]
  else [Mode.charge, .idle, .discharge, .trim].filter fun m =>
    bvGet (b.stages.get l).modesAllowed (modeCode m) || ((b.stages.get l).battery && (m = .idle || m = .discharge))

/-- Sets that the loop can come to: the normal one and what the degrade map names from them (R132). -/
def loopSets (c : LoopCfg) : Nat → List Nat → List Nat
  | 0, l => l
  | n + 1, l =>
    let more := l.flatMap fun s => (List.range c.m).filterMap fun i =>
      match c.degrade.get (8 * s + i) with
      | .degraded k => if bvGet (c.excludes.get s) i then none else some k
      | _ => none
    loopSets c n (more.foldl (fun l k => if l.contains k then l else l ++ [k]) l)

/-- Cells that a mode's grid can reach. -/
def gridCells (g : Grid) : List Nat :=
  (List.range (g.axisB.length + 1)).flatMap fun ib => (List.range (g.axisA.length + 1)).map fun ia => ia + 4 * ib

/-- The cells that a loop can come to, each with its region record index (R120). -/
def reachedCells (b : Batch) (l : Nat) : List Nat :=
  let c := b.loops.get l
  (loopModes b l).flatMap fun m => (loopSets c 5 [0]).flatMap fun k =>
    (gridCells (c.grids.get (modeCode m))).map fun cell => cellRegion c m k cell

/-- Distinct region records that a loop can reach. -/
def reachable (b : Batch) (l : Nat) : Nat := ((reachedCells b l).filter (· ≠ 0xFFFF)).eraseDups.length

/-- A loop blends in some mode that it can come to (R124, R138). -/
def blends (b : Batch) (l : Nat) : Bool :=
  (loopModes b l).any fun m => decide (1 < ((b.loops.get l).grids.get (modeCode m)).blendTicks)

/-- The conversion tail of R81 at the shortest period: of the last enabled entry of each converter in the tick's last period. -/
def State.convTail (s : State) : Nat :=
  let one := fun conv =>
    match (s.slotsDue conv (s.cfg.tickPeriods - 1)).getLast? with
    | none => 0
    | some e => 10240 * 200 - (256 - (s.cfg.slots.get (16 * conv + e)).position) * 35 * s.cfg.nominalNs
  ((List.range 8).map one).foldl max 0

/-- Share of a loop in the floor (R138), of those enabled: its evaluation, its carry and, among the blend_limit largest, its second
evaluation, the lowest-numbered first of equal ones (DEDUCED, log entry 19). -/
def State.floorShare (s : State) (on : List Nat) (l : Nat) : Nat :=
  let c := s.cfg.loops.get l
  let lanes := s.lanes
  if !on.contains l then 0
  else
    let cand := on.filter (blends s.cfg)
    let ranked := sortBy (fun a b => decide (evalTime (s.cfg.loops.get a) lanes > evalTime (s.cfg.loops.get b) lanes)) cand
    evalTime c lanes + (if reachable s.cfg l > 1 then carryTime c lanes else 0) +
      (if (ranked.take s.cfg.blendLimit).contains l then evalTime c lanes else 0)

/-- FLOOR_COMPUTE: the shares of the enabled loops, the total and FLOOR_EXCEEDED (R139). -/
def computeFloorOf (on : List Nat) (s : State) : State :=
  let shares := (List.range 8).map (s.floorShare on)
  let total := s.convTail + shares.sum
  let top := shares.foldl max 0
  let worst := (shares.findIdx? (fun v => decide (v = top))).getD 0
  let exceeds := decide (8960 * s.tickNs ≤ total)
  let fl := (List.range 8).foldl (fun t l => Tab.put t l (floorNs (nth shares l))) []
  raiseIf exceeds kFloorExceeded worst (floorNs total)
    { s with lop := { s.lop with floors := fl, floorTotal := floorNs total, floorExceeded := exceeds } }

/-- The floor of the loops that are enabled (R139). -/
def computeFloor (s : State) : State := computeFloorOf ((List.range 8).filter fun l => (s.loop l).enabled) s

end Sys2Proof.Machine
end

