-- ==== Sys2Proof/Machine/Stages.lean ====
section
/-! DEFINITION. Phase channels and stages: the switching cycle, modes, references, stage states, shedding and failed phases
(chapter 05), with the loop commands that start and stop stages. -/
namespace Sys2Proof.Machine

/-- The monitor that carries a role (R93). -/
def monWith (b : Batch) (r : MonRole) : Option Nat :=
  (List.range 128).find? (fun m => (b.mons.get m).enable && (b.mons.get m).role = r)

/-- The UV level of the monitor of a role as sampled at the last tick boundary. -/
def State.roleUv (s : State) (r : MonRole) : Bool :=
  match monWith s.cfg r with
  | some m => bvGet s.msr.uvS m
  | none => false

/-- The OV level of the monitor of a role as sampled at the last tick boundary. -/
def State.roleOv (s : State) (r : MonRole) : Bool :=
  match monWith s.cfg r with
  | some m => bvGet s.msr.ovS m
  | none => false

/-- The phase i. -/
def State.phase (s : State) (i : Nat) : Phase := s.stg.phases.get i

/-- Stage of a phase. -/
def State.stageOf (s : State) (i : Nat) : Nat := (s.cfg.phases.get i).stage

/-- Unmasked phases of a stage (R172). -/
def State.unmasked (s : State) (st : Nat) : List Nat := (phasesOf s.cfg st).filter (fun i => !(s.phase i).masked)

/-- Active phases of a stage as they stand. -/
def State.activePhases (s : State) (st : Nat) : List Nat := (phasesOf s.cfg st).filter (fun i => (s.phase i).active)

/-- A stage applies loop outputs and switches (R153, R161). -/
def Stage.live (x : Stage) : Bool := x.st = .running || x.st = .stopping

/-- A sample of the ending tick by point ID: a converter channel's, else the point's frame value. -/
def State.tickValue (s : State) (id : Nat) : Int :=
  if 0x080 ≤ id ∧ id < 0x0A0 then (s.msr.fast.get (id - 0x080)).value
  else if 0x0A0 ≤ id ∧ id < 0x0E0 then (s.msr.slow.get (id - 0x0A0)).value
  else s.pt id

/-- Capability of a stage (R172). -/
def State.capability (s : State) (st : Nat) : Int :=
  if (s.stage st).live then (s.unmasked st).length * (s.cfg.stages.get st).phaseRating else 0

/-- Whether the charge controller owns a stage (R231). -/
def State.chargeOwned (s : State) (st : Nat) : Bool :=
  let c := s.cfg.stages.get st
  let g := s.cfg.strings.get c.string
  c.battery && g.present && g.chargeAuto

/-- The mode that a stage takes (R157). -/
def State.stageMode (s : State) (st : Nat) : Mode :=
  let c := s.cfg.stages.get st
  let x := s.stage st
  if s.stageEnded st then .idle
  else if c.battery && x.st = .running && x.inHoldup then .discharge
  else if s.chargeOwned st then ((s.bat.cur.strings.get c.string).chgMode).getD (x.cmdMode.getD c.defaultMode)
  else x.cmdMode.getD c.defaultMode

/-- A mode within modes_allowed that the topology permits (R156, Table 5.5). -/
def StageCfgPermits (c : StageCfg) (m : Nat) : Bool :=
  decide (m < 4) && bvGet c.modesAllowed m && (c.topology = 2 || m = 1 || m = 3)

/-! ### The switching cycle (Tables 5.1, 5.2) -/

/-- Boost direction (Table 5.1). -/
def State.boostDir (s : State) (st : Nat) : Bool :=
  let t := (s.cfg.stages.get st).topology
  t = 1 || (t = 2 && (s.stage st).mode = .discharge)

/-- Level of the pin in an on-time and after it, by the direction (Table 5.1). -/
def pwmOn (boost inOnTime : Bool) : PwmLevel := if boost = inOnTime then .low else .high

/-- The device does not hold the punty's pins: its PWM pins are at high impedance (R143, R371, R379). -/
def State.notHolding (s : State) : Bool := s.sys.displaced || !s.red.drive

/-- Nothing switches while the core die is held in reset, absent or booting, while the device does not hold, or in an
over-temperature shutdown of the power die (R22, R162, Table 3.7). -/
def State.pwmHeld (s : State) : Bool := s.sys.coreAbsent || !s.coreUp || s.sys.pdShutdown || s.notHolding

/-- A phase switches (R146, R161). -/
def State.phaseSwitches (s : State) (i : Nat) : Bool :=
  let st := s.stageOf i
  let x := s.stage st
  decide (st < 6) && x.live && x.switching && !x.ovLatch && (s.phase i).active && !s.pwmHeld

/-- Stage of a phase by the settings that the power die holds, which stand while the core die has none (R19). -/
def State.pdStageOf (s : State) (i : Nat) : Nat := (s.pdCfg.phases.get i).stage

/-- The over-voltage latch holds a phase, in every state of the core die, but for a shutdown of the power die (R163, R165). -/
def State.phaseLatched (s : State) (i : Nat) : Bool :=
  decide (i < 24 ∧ s.pdStageOf i < 6) && (s.stage (s.pdStageOf i)).ovLatch && !s.sys.pdShutdown

/-- The pin of a phase that does not switch: high impedance on a device that does not hold, low-side-on under a latch, mid-level in
a shutdown and in every other case (R143, R163 to R165, Table 1.3). -/
def settlePhase (i : Nat) (s : State) : State :=
  let p := s.phase i
  let rest := fun l : PwmLevel =>
    if p.pwm = l && !p.onTime then s else setPhase i (fun p => { p with onTime := false, blanked := false, pwm := l }) s
  if s.notHolding then rest .hiz
  else if s.phaseLatched i then rest (if p.midRest then .mid else .low)
  else if s.phaseSwitches i then s
  else rest .mid

/-- Every phase pin after a change of what holds it. -/
def settlePhases (s : State) : State := (List.range 24).foldl (fun s i => settlePhase i s) s

/-- ON_TIME_START: the active switch of a switching phase turns on, in the direction of the stage's mode (R145, R146, R158). -/
def execOnTimeStart (phase : Nat) (s : State) : Out :=
  let p := s.phase phase
  whenTime (decide (phase < 24) && s.phaseSwitches phase && !p.onTime && !p.midRest) s fun s =>
    let b := s.boostDir (s.stageOf phase)
    setPhase phase (fun p => { p with onTime := true, blanked := true, boost := b, onTimes := p.onTimes + 1, pwm := pwmOn b true }) s

/-- BLANKING_END (R146). -/
def execBlankingEnd (phase : Nat) (s : State) : Out :=
  whenDue ((s.phase phase).onTime && (s.phase phase).blanked) s
    (setPhase phase (fun p => { p with blanked := false }))

/-- An on-time ends: the synchronous switch turns on. -/
def endOnTime (i : Nat) (s : State) : State :=
  setPhase i (fun p => { p with onTime := false, blanked := false, pwm := pwmOn p.boost false }) s

/-- The sense signal as the energising current's: negated in boost direction, and inverted by the polarity bit (R146). -/
def State.energising (s : State) (i : Nat) (senseUv : Int) : Int :=
  if (s.phase i).boost = (s.pdCfg.phases.get i).polarity then senseUv else -senseUv

/-- peak_code of R151. -/
def peakCode (c : StageCfg) (ma : Int) : Nat := natOf (clampI 0 1023 (divRhe (clampI 0 c.peakMax ma * c.rSense) 100000))

/-- The peak code of a phase: its stage's, attenuated while the phase is shed (R152, R167). -/
def State.phaseCodeInForce (s : State) (i : Nat) : Nat :=
  let st := s.stageOf i
  natOf (divRhe (peakCode (s.cfg.stages.get st) (s.stage st).peakRef * (s.phase i).atten) 256)

/-- The slope code of a stage: the loop's where an output of it drives the slope, else the batch's (Table 5.3, R153). -/
def State.slopeCode (s : State) (st : Nat) : Nat :=
  if (s.cfg.loops.get st).outs.any fun o => o.dest = .slope then (s.stage st).slopeRef else (s.cfg.stages.get st).slope

/-- The peak code that ends an on-time: the lower of the phase's and the cycle limit's (R147, Table 1.3). -/
def State.tripCode (s : State) (i : Nat) : Nat := min (s.phaseCodeInForce i) (s.cfg.stages.get (s.stageOf i)).cycleLimit

/-- PEAK_COMPARATOR_TRIP: the sense signal, in uV, reaches the peak reference with the slope ramp, which rises by 0.5 mV/us a step
from the on-time's start on; the on-time of an unblanked phase ends (R147, R152). -/
def execPeakComparatorTrip (trip : PeakTrip) (s : State) : Out :=
  let i := trip.phase
  let p := s.phase i
  let reached := decide ((200 * s.tripCode i : Int) ≤ 2 * s.energising i trip.senseUv + s.slopeCode (s.stageOf i) * trip.ns)
  whenDue (p.onTime && !p.blanked && reached) s (endOnTime i)

/-- The cycle limit of a phase in uV of sense voltage (R148). -/
def State.limitUv (s : State) (i : Nat) : Int := 100 * (s.pdCfg.stages.get (s.pdStageOf i)).cycleLimit

/-- CYCLE_LIMIT_TRIP: the sense signal, in uV, stands at a cycle limit. On the energising side it ends an on-time; on the other a
switching phase goes to mid-level for the rest of the period; under a latch either does that, in every state of the core die
(R146, R148, R164). -/
def execCycleLimitTrip (phase : Nat) (senseUv : Int) (s : State) : Out :=
  let p := s.phase phase
  let e := s.energising phase senseUv
  let rest := fun s : State => setPhase phase (fun p => { p with
    onTime := false, blanked := false, midRest := true, pwm := .mid
    limEnds := if p.onTime then inc32 p.limEnds else p.limEnds }) s
  if s.phaseLatched phase then whenDue (p.pwm = .low && decide (s.limitUv phase ≤ e ∨ e ≤ -s.limitUv phase)) s rest
  else if decide (s.limitUv phase ≤ e) then
    whenDue (p.onTime && !p.blanked) s fun s => setPhase phase (fun p => { p with limEnds := inc32 p.limEnds }) (endOnTime phase s)
  else whenDue (decide (phase < 24) && s.phaseSwitches phase && !p.blanked && !p.midRest && decide (e ≤ -s.limitUv phase)) s rest

/-- MAX_DUTY_CLAMP: the on-time reaches max_duty (R146). -/
def execMaxDutyClamp (phase : Nat) (s : State) : Out :=
  whenDue (s.phase phase).onTime s fun s =>
    setPhase phase (fun p => { p with clampEnds := inc32 p.clampEnds }) (endOnTime phase s)

/-! ### References, modes and starts (R154, R158, R159, R161) -/

/-- Offset of the a-th of n active phases under auto_spread (R154). -/
def spread (first a n : Nat) : Nat := natOf (divRhe ((256 * a : Nat) : Int) (max 1 n) + first) % 256

/-- Offsets in effect for the active phases of a stage (R154, R168). -/
def setOffsets (st : Nat) (s : State) : State :=
  let c := s.cfg.stages.get st
  let act := s.activePhases st
  let first := (s.cfg.phases.get (act.headD 0)).offset
  (List.range act.length).foldl (fun s a =>
    let i := nth act a
    let o := if c.autoSpread then spread first a act.length else (s.cfg.phases.get i).offset
    setPhase i (fun p => { p with offset := o }) s) s

/-- Every unmasked phase of a stage that is RUNNING or STOPPING is active, in effect and as sent; in its other states none is
(R158, R161, R169). -/
def allActive (st : Nat) (s : State) : State :=
  let live := (s.stage st).live
  let f := fun (_ : Nat) (p : Phase) =>
    let on := live && !p.masked
    { p with active := on, shed := false, atten := 256, nxtActive := on, nxtShed := false, nxtAtten := 256 }
  let s1 := { s with stg := { s.stg with phases := s.stg.phases.modifyAll (phasesOf s.cfg st) f } }
  setOffsets st (setStage st (fun x => { x with shedding := none, j := 0, dwell := 0 }) s1)

/-- STAGE_REF value of a stage as it stands (R159, Table 4.2). -/
def Stage.refValue (x : Stage) : Int :=
  match x.mode with
  | .idle => 0
  | .trim => divRhe x.vSlew 1000
  | _ => divRhe x.iSlew 1000

/-- A mode takes effect at a boundary (R158). -/
def changeMode (st : Nat) (m : Mode) (s : State) : State :=
  let o := (s.stage st).mode
  if m = o then s
  else
    let zero := (m = .idle) || (o = .charge && m = .discharge) || (o = .discharge && m = .charge)
    let s1 := setStage st (fun x => { x with mode := m, iSlew := if zero then 0 else x.iSlew }) s
    settlePhases (allActive st s1)

/-- Every stage takes the mode that R157 gives it. -/
def stageModes (s : State) : State :=
  (List.range 6).foldl (fun s st => if s.stageUsed st then changeMode st (s.stageMode st) s else s) s

/-- A stage starts at a boundary, or becomes HALTED where it finds no unmasked phase (R161). -/
def startStage (st : Nat) (s : State) : State :=
  if (s.unmasked st).isEmpty then
    raise kStageLost (24 + st) 0 (setStage st (fun x => { x with st := .halted, switching := false }) s)
  else
    let c := s.cfg.stages.get st
    let v := 1000 * clampI c.vMin c.vMax (s.tickValue c.vSrc)
    let s1 := setStage st (fun x => { x with st := .running, vSlew := v, iSlew := 0, switching := false, slopeRef := c.slope
                                             offDue := false, midDue := false
                                             inHoldup := c.battery && s.shr.hold.st ≠ .normal }) s
    let s2 := setStage st (fun x => { x with mode := s1.stageMode st }) s1
    let s3 := setStage st (fun x => { x with modeTick := x.mode, rampRef := x.refValue }) s2
    let s4 := allActive st s3
    if (s4.loop st).enabled then startLoop st s4 else s4

/-- A stage leaves RUNNING and STOPPING for a state in which nothing switches. -/
def quitStage (st : Nat) (dest : StageState) (s : State) : State :=
  settlePhases (allActive st (setStage st (fun x => { x with
    st := dest, switching := false, offDue := false, midDue := false, handStep := none, transferDue := false
    inHoldup := false }) s))

/-- A loop is halted by STOP: its stage goes to HALTED, and its phases to mid-level at the next boundary (R133). -/
def stopLoop (l : Nat) (s : State) : State :=
  if (s.loop l).stopped || !(s.loop l).running then s
  else
    let s1 := raiseT kLoopStopped l 0 (dropLoop l true s)
    if l < 6 && (s1.stage l).live then setStage l (fun x => { x with st := .halted, midDue := true }) s1 else s1

/-- Loops whose residual policy is STOP stop in place of their next evaluation (R131, Table 4.5). -/
def policyStops (s : State) : State :=
  (List.range 8).foldl (fun s l => if (s.loop l).policyStop && s.loopRuns l then stopLoop l s else s) s

/-- RESIDUAL: a persistence counter has reached its persistence; the policy of the set in force follows (R131 to R133, R173). -/
def execResidual (loop input : Nat) (s : State) : Out :=
  let x := s.loop loop
  let c := s.cfg.loops.get loop
  let g := s.cfg.regions.get x.region
  let due := decide (loop < 8 ∧ input < c.m) && x.running && !x.stopped && !bvGet (c.excludes.get x.rset) input &&
    decide (0 < nth x.counters input ∧ nth g.pers input ≤ nth x.counters input)
  whenTime due s fun s =>
    let s1 := raiseT kResidual loop (s.srcPoint loop (nth c.inputs input))
      (setLoop loop (fun x => { x with counters := setNth x.counters input 0 }) s)
    match c.degrade.get (8 * x.rset + input) with
    | .flag => s1
    | .stop => setLoop loop (fun x => { x with policyStop := true }) s1
    | .degraded k =>
      let s2 := setLoop loop (fun x => { x with policySet := some k }) s1
      if loop < 6 then
        let out := (s2.unmasked loop).filter (fun i =>
          let n := (s2.cfg.phases.get i).loopInput
          decide (n < 8) && bvGet (c.excludes.get k) n)
        out.foldl (fun s i => raiseT kPhaseMasked i 0 (setPhase i (fun p => { p with maskDue := true }) s)) s2
      else s2

/-! ### What a tick boundary does to stages and phases -/

/-- Decisions sent in the ending tick take effect: masks always, removals and attenuations only where no abort latch stands
(R167, R170 to R172). -/
def applyPhases (st : Nat) (s : State) : State :=
  let x := s.stage st
  let f := fun (_ : Nat) (p : Phase) =>
    let masked := p.masked || p.maskDue
    if masked then { p with masked := true, maskDue := false, active := false, shed := false, atten := 256
                            nxtActive := false, nxtShed := false, nxtAtten := 256, openRun := 0 }
    else if x.abortLatch then { p with active := true, shed := false, atten := 256 }
    else { p with active := p.nxtActive, shed := p.nxtShed, atten := p.nxtAtten }
  let before := s.unmasked st
  let s1 := { s with stg := { s.stg with phases := s.stg.phases.modifyAll (phasesOf s.cfg st) f } }
  let s2 := setOffsets st (if x.abortSampled then setStage st (fun x => { x with abortLatch := false }) s1 else s1)
  if x.live && !before.isEmpty && (s2.unmasked st).isEmpty then
    raiseT kStageLost (24 + st) 0 (quitStage st .halted s2)
  else s2

/-- A stage whose stop is complete goes OFF, and one whose loop has stopped puts its phases at mid-level (R133, R160). -/
def applyStageDue (st : Nat) (s : State) : State :=
  let x := s.stage st
  let s1 := if x.offDue && x.st = .stopping then quitStage st .off s
            else setStage st (fun x => { x with offDue := false }) s
  if x.midDue then allActive st (setStage st (fun x => { x with midDue := false, switching := false }) s1) else s1

/-- A phase counts as open in the ending tick: its tests are on that tick's active set, on-times, sample and applied peak reference,
before what was decided in the tick takes effect (R171). -/
def State.openSeen (s : State) (i : Nat) : Bool :=
  let c := s.cfg.stages.get (s.stageOf i)
  let x := s.stage (s.stageOf i)
  let p := s.phase i
  let ch := (s.cfg.phases.get i).phaseChan
  decide (s.stageOf i < 6) && x.live && p.active && !p.masked && decide (ch < 32 ∧ 0 < p.onTimes ∧ p.onTimes ≤ p.clampEnds) &&
    decide (s.tickValue (0x080 + ch) ≤ c.openLevel) && decide (x.peakRef ≥ c.openRef)

/-- Open detection notes what each phase showed in the ending tick. -/
def openNotes (s : State) : State :=
  { s with stg := { s.stg with phases := s.stg.phases.modifyN 24 (fun i p => { p with openTick := s.openSeen i }) } }

/-- The reports of a phase for the ending tick (R149 to R150). -/
def phaseReport (p : Phase) : Phase :=
  { p with
    limRep := p.limEnds, clampRep := p.clampEnds, clampAll := decide (0 < p.onTimes ∧ p.onTimes ≤ p.clampEnds)
    onTimes := 0, limEnds := 0, clampEnds := 0
    limitRun := if 0 < p.limEnds then min (p.limitRun + 1) 255 else 0 }

/-- State code of a phase point (Table 5.8). -/
def State.phaseCode (s : State) (i : Nat) : Nat :=
  let p := s.phase i
  let x := s.stage (s.stageOf i)
  if s.phaseLatched i then 5
  else if p.masked then 4
  else if p.shed then 3
  else if x.shedding = some i && s.phaseSwitches i then 2
  else if s.phaseSwitches i then 1 else 0

/-- The samples of a phase for the ending tick (Table 5.8). -/
def phaseSamples (i : Nat) (s : State) : State :=
  let p := s.phase i
  let ch := (s.cfg.phases.get i).phaseChan
  let base := 0x200 + 4 * i
  let s1 := sample base (s.phaseCode i) s
  let s2 := if ch < 32 then sample (base + 1) (s.tickValue (0x080 + ch)) s1 else s1
  sampleAll [(base + 2, p.limEnds), (base + 3, p.clampEnds)] s2

/-- The samples of a stage for the ending tick (Table 5.8, R177). A stage without phases has no source of voltage, current or
temperature; those points of it stay 0. -/
def stageSamples (st : Nat) (s : State) : State :=
  let c := s.cfg.stages.get st
  let x := s.stage st
  let src := fun id : Nat => if s.stageUsed st then s.tickValue id else 0
  let v := src c.vSrc
  let i := src c.iSrc
  let p := sat32 (divRhe (v * i) 1000)
  let b := 0x260 + 16 * st
  let code : Nat := match x.st with | .off => 0 | .running => 1 | .stopping => 2 | .halted => 3 | .ovLatched => 4
  setStage st (fun x => { x with powerMw := p })
    (sampleAll [(b, code), (b + 1, modeCode x.mode), (b + 2, v), (b + 3, i), (b + 4, p), (b + 5, src c.tSrc),
      (b + 6, divRhe x.vSlew 1000), (b + 7, divRhe x.iSlew 1000), (b + 8, if x.live then x.peakRef else 0), (b + 9, (s.activePhases st).length),
      (b + 10, (s.unmasked st).length), (b + 11, s.capability st), (b + 12, x.ovCount), (b + 13, x.abortCount),
      (b + 14, x.shedCount)] s)

/-- Reflex states of a stage as sampled at the boundary: shutdown, over-voltage latch, abort latch (R21, R160, R170). -/
def stageSampled (st : Nat) (s : State) : State :=
  let x := s.stage st
  if s.sys.pdShutdown then
    let s1 := if x.st = .off then s else quitStage st .off s
    setStage st (fun x => { x with restartDue := true }) s1
  else
    let s1 := if x.ovLatch && x.st ≠ .ovLatched then
        raiseT kStageOv (24 + st) 0 (setStage st (fun x => { x with ovCount := inc32 x.ovCount })
          (quitStage st .ovLatched s))
      else s
    let ab := (s1.stage st).abortLatch
    let s2 := raiseTIf (ab && !x.abortSampled) kShedAbort (24 + st) 0 s1
    setStage st (fun y => { y with abortSampled := ab
                                   abortCount := if ab && !x.abortSampled then inc32 y.abortCount else y.abortCount }) s2

/-- Samples of every phase and stage for the ending tick, and its open detection, all before results of the loops and decisions of
the tick take effect (R176). -/
def stagePoints (s : State) : State :=
  let s1 := (List.range 24).foldl (fun s i => phaseSamples i s) s
  openNotes ((List.range 6).foldl (fun s st => stageSamples st s) s1)

/-- What was decided in the ending tick takes effect, then the reflex states are sampled. -/
def stagesAtBoundary (s : State) : State :=
  let used := (List.range 6).filter s.stageUsed
  let s1 := used.foldl (fun s st => applyPhases st (applyStageDue st s)) s
  let s2 := { s1 with stg := { s1.stg with phases := s1.stg.phases.modifyN 24 (fun _ p => phaseReport p) } }
  let s3 := used.foldl (fun s st => stageSampled st s) s2
  settlePhases { s3 with sys := { s3.sys with pdShutSampled := s3.sys.pdShutdown } }

/-- An enabled stage that a shutdown turned off starts at the first frame boundary after the release (R160). -/
def stageRestarts (s : State) : State :=
  (List.range 6).foldl (fun s st =>
    let x := s.stage st
    if x.restartDue && !s.sys.pdShutSampled && s.stageUsed st then
      let s1 := setStage st (fun x => { x with restartDue := false }) s
      if x.enabled && x.st = .off then startStage st s1 else s1
    else s) s

/-! ### The stage controller: step 5 of Table 2.6 (R159, R167, R171) -/

/-- Slew step per tick in uV or uA (R159). -/
def State.slewStep (s : State) (slew : Int) : Int := divRhe (slew * s.tickNs) 1000

/-- A value moved toward a target by at most a step. -/
def slewTo (step target v : Int) : Int := v + clampI (-step) step (target - v)

/-- The slewed references of a stage for the running tick (R159, R204). -/
def slewStage (st : Nat) (s : State) : State :=
  let c := s.cfg.stages.get st
  let x := s.stage st
  if !x.live then s
  else
    let down := x.st = .stopping
    let v := slewTo (s.slewStep c.vSlew) (if down then 0 else 1000 * x.vTarget) x.vSlew
    let i0 := match x.handStep with
      | some d => if x.iSlew > d then x.iSlew - d else 0
      | none => slewTo (s.slewStep c.iSlew) (if down then 0 else 1000 * x.iTarget) x.iSlew
    let i := clampI 0 (1000 * (if x.mode = .charge then c.iChgMax else c.iDisMax)) i0
    let zero := match x.mode with | .idle => true | .trim => v = 0 | _ => i = 0
    setStage st (fun x => { x with vSlew := v, iSlew := i, offDue := down && zero }) s

/-- The phase that sheds first: the highest rank, then the highest index (Table 5.4). -/
def shedFirst (b : Batch) (l : List Nat) : Option Nat :=
  l.foldl (fun best i =>
    match best with
    | none => some i
    | some k => if (b.phases.get i).shedRank ≥ (b.phases.get k).shedRank then some i else best) none

/-- The shed phase that returns first: the lowest rank, then the lowest index. -/
def addFirst (b : Batch) (l : List Nat) : Option Nat :=
  l.foldl (fun best i =>
    match best with
    | none => some i
    | some k => if (b.phases.get i).shedRank < (b.phases.get k).shedRank then some i else best) none

/-- Shed phases return while the current calls for them (R167). -/
def addPhases (b : Batch) (level i : Int) : Nat → List Nat → Nat → List Nat
  | 0, _, _ => []
  | k + 1, shed, n =>
    if i ≥ n * level then
      match addFirst b shed with
      | some p => p :: addPhases b level i k (shed.erase p) (n + 1)
      | none => []
    else []

/-- The shed decisions of a RUNNING stage on the inputs of the ending tick (R167). A dwell that has reached shed_dwell and a
ramp that has reached its end wait for SHED_START and PHASE_SHED. -/
def shedStage (st : Nat) (s : State) : State :=
  let c := s.cfg.stages.get st
  let x := s.stage st
  if x.st ≠ .running then s
  else
    let i : Int := (s.tickValue c.iSrc).natAbs
    let um := s.unmasked st
    let act := um.filter (fun p => (s.phase p).nxtActive)
    let n := act.length
    let stepSeen := s.roleUv (.stepDet st) || s.roleOv (.stepDet st)
    let sent := fun (ps : List Nat) (f : Phase → Phase) (s : State) =>
      { s with stg := { s.stg with phases := s.stg.phases.modifyAll ps (fun _ p => f p) } }
    let on := fun p : Phase => { p with nxtActive := true, nxtShed := false, nxtAtten := 256 }
    if stepSeen || x.abortSampled then
      setStage st (fun x => { x with shedding := none, j := 0, dwell := 0 }) (sent um on s)
    else if n < um.length && decide (i ≥ n * c.addLevel) then
      let back := addPhases s.cfg c.addLevel i um.length (um.filter (fun p => !(s.phase p).nxtActive)) n
      setStage st (fun x => { x with shedding := none, j := 0, dwell := 0 }) (sent (back ++ x.shedding.toList) on s)
    else match x.shedding with
      | some p =>
        if x.j ≥ c.shedRamp then s
        else
          let j := x.j + 1
          let a := natOf (divRhe (256 * ((c.shedRamp : Int) - j)) (max 1 c.shedRamp))
          setStage st (fun x => { x with j := j }) (sent [p] (fun q => { q with nxtAtten := a }) s)
      | none =>
        if c.shedEn && decide (n > c.minPhases) && decide (i ≤ ((n : Int) - 1) * c.shedLevel) then
          setStage st (fun x => { x with dwell := min (x.dwell + 1) 65535 }) s
        else setStage st (fun x => { x with dwell := 0 }) s

/-- The count of a phase's consecutive open ticks (R171). -/
def openTest (i : Nat) (s : State) : State :=
  setPhase i (fun p => { p with openRun := if p.openTick then min (p.openRun + 1) 255 else 0 }) s

/-- Step 5 of a tick; then what the running tick's STAGE_REF values and modes are is noted for its evaluation. -/
def stageController (s : State) : State :=
  let used := (List.range 6).filter s.stageUsed
  let s1 := used.foldl (fun s st => shedStage st (slewStage st s)) s
  let s2 := (List.range 24).foldl (fun s i => if s.stageUsed (s.stageOf i) then openTest i s else s) s1
  used.foldl (fun s st => setStage st (fun x => { x with modeTick := x.mode, rampRef := x.refValue }) s) s2

/-! ### Steps of stages and phases -/

/-- CYCLE_LIMIT: limit_ticks consecutive ticks with a cycle-limit termination (R150). -/
def execCycleLimit (phase : Nat) (s : State) : Out :=
  let c := s.cfg.stages.get (s.stageOf phase)
  whenTime (decide (phase < 24 ∧ s.stageOf phase < 6 ∧ 0 < (s.phase phase).limitRun ∧
      c.limitTicks ≤ (s.phase phase).limitRun)) s fun s =>
    raiseT kCycleLimit phase 0 (setPhase phase (fun p => { p with limitRun := 0 }) s)

/-- SHED_START: the dwell has reached shed_dwell and the highest-ranked active phase starts shedding (R167). -/
def execShedStart (stage : Nat) (s : State) : Out :=
  let c := s.cfg.stages.get stage
  let x := s.stage stage
  let act := (s.unmasked stage).filter (fun p => (s.phase p).nxtActive)
  whenTime (s.stageUsed stage && x.st = .running && x.shedding.isNone && c.shedEn &&
      decide (0 < x.dwell ∧ c.shedDwell ≤ x.dwell ∧ c.minPhases < act.length)) s
    (setStage stage (fun x => { x with shedding := shedFirst s.cfg act, j := 0, dwell := 0 }))

/-- PHASE_SHED: the ramp has reached attenuation 0 and the phase becomes SHED at the coming boundary (R167). -/
def execPhaseShed (stage : Nat) (s : State) : Out :=
  let c := s.cfg.stages.get stage
  let x := s.stage stage
  match x.shedding with
  | none => .next s
  | some p =>
    whenTime (s.stageUsed stage && x.st = .running && decide (c.shedRamp ≤ x.j)) s fun s =>
      setStage stage (fun x => { x with shedding := none, j := 0, shedCount := inc32 x.shedCount })
        (setPhase p (fun q => { q with nxtActive := false, nxtShed := true, nxtAtten := 256 }) s)

/-- PHASE_OPEN: a phase counted open for open_ticks is masked at the coming boundary (R171). -/
def execPhaseOpen (phase : Nat) (s : State) : Out :=
  let c := s.cfg.stages.get (s.stageOf phase)
  let p := s.phase phase
  whenTime (decide (phase < 24 ∧ s.stageOf phase < 6 ∧ 0 < p.openRun ∧ c.openTicks ≤ p.openRun)) s fun s =>
    raiseT kPhaseOpen phase 0 (setPhase phase (fun p => { p with openRun := 0, maskDue := true }) s)

/-! ### Commands -/

/-- One loop is enabled or disabled at its acceptance boundary (R135, R136, R160). -/
def enableLoop (l : Nat) (on : Bool) (s : State) : State :=
  let x := s.loop l
  if on then
    if x.enabled && !x.stopped then s
    else
      let s1 := setLoop l (fun x => { x with enabled := true, stopped := false, running := false }) s
      if l ≥ 6 then startLoop l s1
      else match (s1.stage l).st with
        | .running | .stopping => startLoop l s1
        | .halted => if (s1.stage l).enabled && !(s1.unmasked l).isEmpty then startStage l s1 else s1
        | _ => s1
  else if x.enabled then setLoop l (fun x => { x with enabled := false, running := false }) (dropLoop l false s)
  else s

/-- A loop that the batch declares: a stage loop's stage is in use (R135). -/
def State.loopDeclared (s : State) (l : Nat) : Bool :=
  if l < 6 then s.stageUsed l else (s.cfg.loops.get l).present

/-- CMD_LOOP_ENABLE (R135). -/
def cmdLoopEnable (changed value : BitVec 8) (s : State) : CmdOut :=
  let ls := (List.range 8).filter (bvGet changed)
  unlessRefused
    [(ls.any (fun l => !s.loopDeclared l), rsAbsent, 0),
     (ls.any (bvGet value) && s.lanes = 0, rsState, 1)] s fun s =>
    wrote (ls.foldl (fun s l => enableLoop l (bvGet value l) s) s) (ls.map (fun l => (0x06, l, 0)))

/-- CMD_LOOP_RESTORE: a loop in a degraded set restarts in set 0 (R133, R136). -/
def cmdLoopRestore (loop : Nat) (s : State) : CmdOut :=
  let x := s.loop loop
  unlessRefused
    [(decide (loop ≥ 8), rsRange, 0), (x.rset = 0 || x.stopped || !x.enabled, rsState, 0)] s fun s =>
    done (startLoop loop s)

/-- CMD_STAGE_ENABLE (Table 5.6); a stage that leaves RUNNING clears its shed state (R167). -/
def cmdStageEnable (stage : Nat) (on : Bool) (s : State) : CmdOut :=
  unlessRefused [(!s.stageUsed stage, rsAbsent, 0)] s fun s =>
    let s1 := setStage stage (fun x => { x with enabled := on, restartDue := x.restartDue || s.sys.pdShutSampled }) s
    let s2 := match (s.stage stage).st with
      | .off => if on && !s.sys.pdShutSampled then startStage stage s1 else s1
      | .running => if on then s1 else allActive stage (setStage stage (fun x => { x with st := .stopping }) s1)
      | .stopping => if on then setStage stage (fun x => { x with st := .running, offDue := false }) s1 else s1
      | .halted => if on then s1 else quitStage stage .off s1
      | .ovLatched => s1
    wrote s2 [(0x07, 24 + stage, 0)]

/-- CMD_STAGE_MODE_SET (R156, R157, R231, R244). -/
def cmdStageModeSet (stage mode : Nat) (s : State) : CmdOut :=
  unlessRefused
    [(!s.stageUsed stage, rsRange, 0), (!StageCfgPermits (s.cfg.stages.get stage) mode, rsRange, 1),
     (s.chargeOwned stage, rsOwned, 0), (decide (mode = 2) && s.stageEnded stage, rsState, 1)] s fun s =>
    let s1 := setStage stage (fun x => { x with cmdMode := some (modeOf mode) }) s
    wrote (changeMode stage (s1.stageMode stage) s1) [(0x07, 24 + stage, 1)]

/-- CMD_STAGE_REF_SET (R159, R231). -/
def cmdStageRefSet (stage target : Nat) (value : Int) (s : State) : CmdOut :=
  let c := s.cfg.stages.get stage
  let top := if c.iChgMax > c.iDisMax then c.iChgMax else c.iDisMax
  let bad := if target = 0 then decide (value < c.vMin ∨ c.vMax < value) else decide (value < 0 ∨ top < value)
  unlessRefused
    [(!s.stageUsed stage, rsRange, 0), (decide (target > 1), rsRange, 1), (bad, rsRange, 4),
     (s.chargeOwned stage, rsOwned, 0)] s fun s =>
    wrote (setStage stage (fun x => if target = 0 then { x with vTarget := value } else { x with iTarget := value }) s)
      [(0x07, 24 + stage, 2 + target)]

/-- CMD_STAGE_OV_CLEAR (R166, Table 5.6). -/
def cmdStageOvClear (stage : Nat) (s : State) : CmdOut :=
  let x := s.stage stage
  unlessRefused
    [(!s.stageUsed stage, rsRange, 0), (decide (x.st ≠ .ovLatched), rsState, 0),
     (s.roleOv (.stageOv stage), rsLevel, 0)] s fun s =>
    let s1 := setStage stage (fun x => { x with ovLatch := false, st := .off }) s
    done (settlePhases (if x.enabled then startStage stage s1 else s1))

/-- CMD_PHASE_UNMASK (R174). -/
def cmdPhaseUnmask (phase : Nat) (s : State) : CmdOut :=
  let st := s.stageOf phase
  let c := s.cfg.loops.get st
  let n := (s.cfg.phases.get phase).loopInput
  let x := s.loop st
  let excl := decide (st < 6 ∧ n < 8) && bvGet (c.excludes.get (x.policySet.getD x.rset)) n
  unlessRefused
    [(decide (phase ≥ 24), rsRange, 0), (!(s.phase phase).masked, rsState, 0), (excl, rsState, 0)] s fun s =>
    let on := (s.stage st).live
    let s1 := setPhase phase (fun p => { p with masked := false, maskDue := false, active := on, shed := false
                                                atten := 256, nxtActive := on, nxtShed := false, nxtAtten := 256
                                                openRun := 0 }) s
    let y := s1.stage st
    let s2 := if y.st = .halted && y.enabled && x.enabled && !x.stopped then startStage st s1 else setOffsets st s1
    done (settlePhases s2)

end Sys2Proof.Machine
end

