-- ==== Sys2Proof/Machine/Channels.lean ====
section
/-! DEFINITION. Slot, keeper and tie channels: limits, fault timer, breaker, power-good, seats, cool-down, damaged pass
transistors, early warning and the channel commands (chapter 09). Slots are 0 to 47, keepers 48 to 51, ties 52 and 53. -/
namespace Sys2Proof.Machine

/-- The channel c. -/
def State.chan (s : State) (c : Nat) : Channel := s.hsw.chans.get c

/-- A change of one channel. -/
def setChan (c : Nat) (f : Channel → Channel) (s : State) : State :=
  { s with hsw := { s.hsw with chans := s.hsw.chans.modify c f } }

/-- A slot channel. -/
def isSlot (c : Nat) : Bool := decide (c < 48)

/-- A keeper channel. -/
def isKeeper (c : Nat) : Bool := decide (48 ≤ c ∧ c < 52)

/-- A tie channel. -/
def isTie (c : Nat) : Bool := decide (52 ≤ c ∧ c < 54)

/-- A channel that the batch declares. -/
def State.chanUsed (s : State) (c : Nat) : Bool := decide (c < 54) && (s.cfg.chans.get c).present

/-- A channel that the power die's settings declare (R19, R279). -/
def State.pdUsed (s : State) (c : Nat) : Bool := decide (c < 54) && (s.pdCfg.chans.get c).present

/-- Channels in use. -/
def State.chansUsed (s : State) : List Nat := (List.range 54).filter s.chanUsed

/-! ### Limits (R258, R259) -/

/-- Limit code before the clamp (R257, R280). -/
def limRaw (ma rSense : Int) : Int := -((-(ma * rSense)).fdiv 250000)

/-- lim_code of R258. -/
def limCode (ma rSense : Int) : Nat := natOf (clampI 10 200 (limRaw ma rSense))

/-- Configured limit in mA: lim_start until the first power-good of a start, lim_run after it (R259). -/
def State.confMa (s : State) (c : Nat) : Int :=
  let g := s.cfg.chans.get c
  let x := s.chan c
  if x.runCode then (x.limRun.map Int.ofNat).getD g.limRun else g.limStart

/-- Configured code. -/
def State.confCode (s : State) (c : Nat) : Nat := limCode (s.confMa c) (s.cfg.chans.get c).rSense

/-- The lower of the configured and the enforcement code, which the core die commands. -/
def State.coreCode (s : State) (c : Nat) : Nat := min (s.confCode c) ((s.chan c).enforce.getD 255)

/-- Effective code: the lowest of the configured, the enforcement and the shed code (R259); with the core die in reset or absent
the code it last commanded stands, and shed steps lower it still (R279). -/
def State.effCode (s : State) (c : Nat) : Nat :=
  let x := s.chan c
  min (x.heldCode.getD (s.coreCode c)) (x.shed.getD 255)

/-- The power die goes on by itself: the code that the core die last commanded stands (R279). -/
def holdCodes (s : State) : State :=
  (List.range 54).foldl (fun s c =>
    if s.chanUsed c then setChan c (fun x => { x with heldCode := some (x.heldCode.getD (s.coreCode c)) }) s else s) s

/-- Source that binds a slot's limit: 0 configured, 1 enforcement, 2 shed (R553). -/
def State.limSource (s : State) (c : Nat) : Nat :=
  let x := s.chan c
  let k := s.confCode c
  let e := x.enforce.getD 255
  let h := x.shed.getD 255
  if k ≤ e ∧ k ≤ h then 0 else if e ≤ h then 1 else 2

/-! ### Starts and turn-offs (R267, R269) -/

/-- Cool-down runs at the boundary that opens frame f (R270). -/
def Channel.cooling (x : Channel) (f : Nat) : Bool := x.cool.any (fun e => decide (f ≤ e))

/-- The power die holds the channel latched off: a trip, or its over-temperature shutdown (R264, Table 3.7). -/
def Channel.latchedOff (x : Channel) : Bool := x.latched.isSome || x.shutLatch

/-- A start for the power die: its charge pump drives the gate, and the gate-rise time starts anew (R267). -/
def gateOn (x : Channel) : Channel :=
  { x with gate := true, runCode := false, riseNs := 0, gateUp := false, pgRun := 0, pg := false, pullDue := false, held := none }

/-- A start: CH_START is raised and the charge pump drives the gate under lim_start (R267). A latch that the core die has not yet
sampled stands, and the gate with it stays off (R20); so it does through a power-die over-temperature shutdown, which latches what
starts under it (Table 3.7). A power die that sees the core die absent begins no start (R279); the request waits for the core
die's return (DESIGN CHOICE, log entry 52). -/
def startChan (c : Nat) (s : State) : State :=
  setChan c (fun x =>
    let y := { x with st := .starting, pending := false, cool := none }
    if s.sys.pdShutdown && !isKeeper c then
      { y with gate := false, pg := false, pullDue := false, shutLatch := x.latched.isNone, tripSeen := false }
    else if x.latchedOff && !x.tripSeen then y
    else if s.sys.coreAbsent then { y with held := some true, latched := none, shutLatch := false, tripSeen := false }
    else { gateOn y with latched := none, shutLatch := false, tripSeen := false }) (raise kChStart c 0 s)

/-- An orderly turn-off: power-good deasserts now, the fast pull-down follows (R269). A power die that sees the core die absent
holds the gate as it is; the request waits as a start does (R279, log entry 52). -/
def turnOff (c : Nat) (dest : ChState) (s : State) : State :=
  setChan c (fun x =>
    let y := { x with st := dest, pending := false, ew := x.ew || isKeeper c }
    if s.sys.coreAbsent && x.gate then { y with held := some false }
    else { y with pg := false, pgRun := 0, pullDue := x.gate, held := none }) s

/-- The core die has returned: its limits are in force again, and what it asked of a gate meanwhile takes effect (R17, R279). -/
def returnChan (x : Channel) : Channel :=
  let y := { x with heldCode := none, held := none }
  match x.held with
  | some true => if x.latchedOff then y else gateOn y
  | some false => { y with pg := false, pgRun := 0, pullDue := x.gate }
  | none => y

/-- The gate goes off at once and is held off. -/
def gateOff (x : Channel) : Channel :=
  { x with gate := false, pg := false, pgRun := 0, limit := false, pullDue := false, gateUp := false, held := none }

/-- A slot that trips while its shed limit stands is noted (R202). -/
def noteUnder (c : Nat) (s : State) : State :=
  if isSlot c && (s.chan c).shed.isSome && !s.shr.hold.trippedUnder.contains c then
    { s with shr := { s.shr with hold := { s.shr.hold with trippedUnder := s.shr.hold.trippedUnder ++ [c] } } }
  else s

/-- A trip is sampled: the channel goes TRIPPED, cool-down starts anew in the frame of the sample (Table 9.3, R270). -/
def tripSampled (c : Nat) (s : State) : State :=
  let g := s.cfg.chans.get c
  let s1 := setChan c (fun x => { x with
    st := .tripped, tripSeen := true, pending := false, pg := false, trips := inc32 x.trips
    cool := some (s.tim.frame + g.coolFrames), gapRun := 0, gapAll := false }) (noteUnder c s)
  { s1 with hsw := { s1.hsw with tripEvent := bvPut s1.hsw.tripEvent c true } }

/-- A toggle of a TRIPPED channel: its latch is released and it starts, waits for the end of cool-down with its start
pending, or returns to its rest state (Tables 9.3 and 9.4, R278). The boundary opens frame f. -/
def toggleChan (c f : Nat) (s : State) : State :=
  let x := s.chan c
  let g := s.cfg.chans.get c
  let free := fun (dest : ChState) => setChan c (fun x => { x with
    st := dest, latched := none, shutLatch := false, tripSeen := false, pending := false, seatRun := 0, seatAll := false }) s
  if isTie c then (if x.cooling f then setChan c (fun x => { x with pending := true }) s else free .empty)
  else if isSlot c && !x.seatS then free .empty
  else if x.cooling f then setChan c (fun x => { x with pending := true }) s
  else if isKeeper c && decide (x.vinRun < g.insertFrames) then free .empty
  else startChan c s

/-! ### Reflexes of the power die (R19, R260 to R263, R272 to R275) -/

/-- The fault timer's full count, in eighths of a nanosecond. -/
def timerFull (timerUs : Nat) : Nat := 8000 * timerUs

/-- Fault timer and gate-rise time taken up to a moment of the running tick, ns after its opening boundary: the timer goes up
while the limit is active and down at one eighth of that rate otherwise; gate-rise time counts while the limit is inactive
(R261, R267). -/
def chanTimers (ns timerUs : Nat) (x : Channel) : Channel :=
  let d := ns - x.limNs
  { x with
    timer8 := if x.limit then min (x.timer8 + 8 * d) (timerFull timerUs) else x.timer8 - d
    riseNs := if x.gate && !x.limit && !x.gateUp && !x.follower then x.riseNs + d else x.riseNs
    limNs := max x.limNs ns }

/-- The channel's timers at a moment of the running tick, under the settings that the power die holds. -/
def State.timedChan (s : State) (m : ChanMoment) : Channel := chanTimers m.ns (s.pdCfg.chans.get m.chan).timerUs (s.chan m.chan)

/-- CURRENT_LIMIT_ENGAGE: the sense voltage has reached the effective code (R260). -/
def execCurrentLimitEngage (m : ChanMoment) (s : State) : Out :=
  let x := s.chan m.chan
  whenDue (s.pdUsed m.chan && x.gate && !x.limit) s
    (setChan m.chan (fun _ => { s.timedChan m with limit := true, limitTick := true }))

/-- CURRENT_LIMIT_RELEASE: the limit becomes inactive (R261). -/
def execCurrentLimitRelease (m : ChanMoment) (s : State) : Out :=
  whenDue (s.chan m.chan).limit s (setChan m.chan (fun _ => { s.timedChan m with limit := false }))

/-- A trip latches the channel off in the power die; a slot that trips while its shed limit stands is noted (R202). -/
def latchTrip (c : Nat) (cause : TripCause) (f : Channel → Channel) (s : State) : State :=
  noteUnder c (setChan c (fun x => { f x with latched := some cause, tripSeen := false, pg := false }) s)

/-- The fault timer has run out on a channel that is not latched. -/
def timedOut (timerUs : Nat) (x : Channel) : Bool :=
  x.gate && x.limit && x.latched.isNone && decide (timerFull timerUs ≤ x.timer8)

/-- TIMER_TRIP: the fault timer reaches timer_us; latch and power-good go first, the
pull-down follows (R261, R262). -/
def execTimerTrip (m : ChanMoment) (s : State) : Out :=
  whenDue (s.pdUsed m.chan && timedOut (s.pdCfg.chans.get m.chan).timerUs (s.timedChan m)) s
    (latchTrip m.chan .timer (fun _ => { s.timedChan m with pullDue := true }))

/-- GATE_PULLDOWN_DELAY: the fast pull-down begins (R262, R269). -/
def execGatePulldownDelay (chan : Nat) (s : State) : Out :=
  whenDue (s.chan chan).pullDue s (setChan chan gateOff)

/-- BREAKER_TRIP: twice the effective code's voltage; the pull-down begins and power-good goes with it (R263). -/
def execBreakerTrip (chan : Nat) (s : State) : Out :=
  let x := s.chan chan
  whenDue (s.pdUsed chan && x.gate && x.latched.isNone) s (latchTrip chan .breaker gateOff)

/-- A damaged pass transistor: the gate is held off and the channel is FAILED (R272, R273). -/
def failChan (c : Nat) (k : Nat × Nat) (s : State) : State :=
  let s1 := setChan c (fun x => { gateOff x with st := .failed, pending := false, ew := x.ew || isKeeper c }) s
  if s1.timeRuns then raiseT k c 0 s1 else s1

/-- GATE_STUCK: GATE-OUT has not reached 8 V within gate_rise_ms of limit-inactive time after the start (R272). -/
def execGateStuck (chan : Nat) (s : State) : Out :=
  let x := s.chan chan
  whenDue (s.pdUsed chan && x.st = .starting && x.gate && !x.gateUp &&
      decide (x.riseNs ≥ (s.pdCfg.chans.get chan).gateRiseMs * 1000000)) s (failChan chan kGateStuck)

/-- FET_SHORT: current or output with the gate held off, or an output that rose before the gate (R273). -/
def execFetShort (chan : Nat) (s : State) : Out :=
  let x := s.chan chan
  whenDue (s.pdUsed chan && decide (x.st ≠ .on ∧ x.st ≠ .failed) && (!x.gate || (x.st = .starting && !x.gateUp))) s
    (failChan chan kFetShort)

/-- KEEPER_VIN_OV: VIN_HV above vin_ov opens the keeper by orderly turn-off, without latching (Table 9.4). -/
def execKeeperVinOv (keeper : Nat) (s : State) : Out :=
  let c := 48 + keeper
  let x := s.chan c
  whenDue (decide (keeper < 4) && s.pdUsed c && x.gate && decide (x.st = .on ∨ x.st = .starting)) s fun s =>
    let s1 := setChan c (fun x => { x with vinRun := 0, vinAll := false }) (turnOff c .empty s)
    if s1.timeRuns then raiseT kKeeperVinOv c 0 s1 else s1

/-- EW_ASSERT: VIN_HV has fallen below ew_level (R275). -/
def execEwAssert (keeper : Nat) (s : State) : Out :=
  let c := 48 + keeper
  whenDue (decide (keeper < 4) && s.pdUsed c && (s.pdCfg.chans.get c).ewEn) s
    (setChan c (fun x => { x with ewVin := true, ew := true }))

/-- The hold-up state enters HOLDUP: every keeper with ew_en asserts its early warning (R275). -/
def ewHoldup (s : State) : State :=
  (List.range 4).foldl (fun s k =>
    let c := 48 + k
    if s.chanUsed c && (s.cfg.chans.get c).ewEn then setChan c (fun x => { x with ewVin := true, ew := true }) s else s) s

/-- Loss of the cable's presence pull-down opens the tie channel without a trip; through a core-die reset the opening waits for
the adoption to be recorded (R277). -/
def tiePulled (port : Nat) (s : State) : State :=
  let c := 52 + port
  let x := s.chan c
  if s.pdUsed c && x.gate then
    let s1 := setChan c (fun x => { gateOff x with
      st := if x.latchedOff then x.st else .empty, openDue := false, pulledDue := !s.timeRuns }) s
    if s1.timeRuns then raiseT kTiePulled c 0 s1 else s1
  else s

/-- A power-die over-temperature shutdown opens a slot or tie, and latches off one that was started or on (Table 3.7). -/
def shutdownChan (x : Channel) : Channel :=
  let y := gateOff x
  if (x.st = .starting || x.st = .on) && !x.latchedOff then { y with shutLatch := true, tripSeen := false } else y

/-- What a power-die over-temperature shutdown does to the channels: slots and ties open, keepers hold (Table 3.7). -/
def shutdownChans (s : State) : State :=
  (List.range 54).foldl (fun s c => if isKeeper c then s else setChan c shutdownChan s) s

/-! ### A tick boundary (R264 to R266, R268 to R270, R275, R276) -/

/-- A channel monitor code in mV. -/
def codeMv (k : Nat) : Int := 25 * (k : Int)

/-- Channel current in mA (R265). -/
def chanMa (sense rSense : Int) : Int := divRhe (sense * 3125) (2 * (if rSense > 0 then rSense else 1))

/-- State code of R282. -/
def chCode : ChState → Nat
  | .empty => 0
  | .seating => 1
  | .disabled => 2
  | .starting => 3
  | .on => 4
  | .tripped => 5
  | .failed => 6

/-- Points of a channel for the ending tick (Table 9.7). -/
def chanSamples (c : Nat) (s : State) : State :=
  let g := s.cfg.chans.get c
  let x := s.chan c
  let b := 0x800 + 8 * c
  let i := chanMa x.sense g.rSense
  let v := codeMv x.snsp
  let flags := b2n x.limitTick + 2 * b2n x.pg + 4 * b2n (x.enforce = some (s.effCode c)) + 8 * b2n (x.shed = some (s.effCode c)) +
    16 * b2n x.pending + 32 * b2n (x.cooling s.tim.frame) + 64 * b2n (isKeeper c && x.ew)
  sampleAll [(b, chCode x.st), (b + 1, i), (b + 2, v), (b + 3, codeMv x.outv), (b + 4, sat32 (divRhe (v * i) 1000)),
    (b + 5, divRhe (s.effCode c * 250000) (max 1 g.rSense)), (b + 6, flags), (b + 7, x.trips)] s

/-- The power-good test at a boundary (R268): the second of two boundaries in window, with the limit inactive at both and
between them. -/
def pgTest (g : ChanCfg) (x : Channel) : Channel :=
  let ok := x.gate && x.gateUp && !x.limit && !x.pullDue && decide (codeMv x.snsp - codeMv x.outv ≤ g.pgDrop)
  if x.pg then x
  else if !ok then { x with pgRun := 0 }
  else if x.pgRun ≥ 1 && !x.limitTick then { x with pgRun := 2, pg := true, runCode := true }
  else { x with pgRun := 1 }

/-- What the power die does with a channel over a tick of `dt` ns: gate level, power-good test, timers, and a timer that has
run out at the boundary trips (R261, R268). -/
def pdTickChan (dt : Nat) (up : Bool) (c : Nat) (s : State) : State :=
  let g := s.pdCfg.chans.get c
  let s1 := setChan c (fun x =>
    { chanTimers dt g.timerUs (pgTest g { x with gateUp := x.gate && up }) with limNs := 0 }) s
  if timedOut g.timerUs (s1.chan c) then latchTrip c .timer (fun x => { x with pullDue := true }) s1 else s1

/-- The monitor's codes of a channel in their widths (R265). -/
def takeCodes (k : ChanSample) (x : Channel) : Channel :=
  { x with sense := clampI (-32768) 32767 k.sense, snsp := min k.snsp 4095, outv := min k.outv 4095, srcv := min k.srcv 4095 }

/-- A tick of the power die with the core die in reset: starts complete and fault timers run on by themselves (R279). -/
def pdTick (inp : TickInputs) (s : State) : State :=
  ((List.range 54).filter s.pdUsed).foldl (fun s c =>
    let k := inp.chans.get c
    setChan c (fun x => { x with limitRep := x.limitTick, limitTick := x.limit })
      (pdTickChan inp.dtNs k.gateUp c (setChan c (takeCodes k) s))) s

/-- Trip, shutdown, power-good and seat of one channel as sampled at a boundary, in that order (Table 9.3, R270). -/
def chanEvents (c : Nat) (seat : Bool) (s : State) : State :=
  let x := s.chan c
  let s1 := match x.latched with
    | some cause =>
      if x.tripSeen || x.st = .failed then s
      else raiseT (match cause with | .timer => kTimerTrip | .breaker => kBreakerTrip) c 0 (tripSampled c s)
    | none => if x.shutLatch && !x.tripSeen && x.st ≠ .failed then tripSampled c s else s
  let y := s1.chan c
  let s2 := if y.st = .starting && y.pg then setChan c (fun x => { x with st := .on }) s1 else s1
  if !isSlot c then s2
  else
    let s3 := setChan c (fun x => { x with seatS := seat, seatAll := x.seatAll && seat, gapAll := x.gapAll && !seat }) s2
    match (s2.chan c).st with
    | .empty => if seat then setChan c (fun x => { x with st := .seating, seatRun := 0 }) s3 else s3
    | .seating | .disabled => if seat then s3 else setChan c (fun x => { x with st := .empty, pending := false }) s3
    | .starting | .on => if seat then s3 else turnOff c .empty s3
    | _ => s3

/-- The early warning pin of a keeper at a boundary, on the hold-up state of that boundary: once asserted, for whatever cause, it
deasserts where the channel is ON, hold-up is NORMAL and VIN_HV is above ew_level + 500 mV (R275). -/
def keeperTick (vin : Int) (c : Nat) (s : State) : State :=
  let g := s.cfg.chans.get c
  setChan c (fun x =>
    let v := (x.ewVin || x.ew) && !(s.shr.hold.st = .normal && decide (vin > g.ewLevel + 500))
    { x with ewVin := v, ew := x.st ≠ .on || (g.ewEn && v)
             vinAll := x.vinAll && decide (g.vinUv ≤ vin ∧ vin ≤ g.vinOv) }) s

/-- Every keeper in use at a boundary, after the hold-up state. -/
def keepersTick (vin : Int) (s : State) : State :=
  ([48, 49, 50, 51].filter s.chanUsed).foldl (fun s c => keeperTick vin c s) s

/-- One channel at a tick boundary: its samples, timers, the power-good test and what the core die samples. -/
def chanTick (inp : TickInputs) (c : Nat) (s : State) : State :=
  let k := inp.chans.get c
  let s1 := chanSamples c (pdTickChan inp.dtNs k.gateUp c (setChan c (takeCodes k) s))
  let s2 := chanEvents c (bvGet inp.seats c) s1
  setChan c (fun x => { x with limitRep := x.limitTick, limitTick := x.limit, pgS := x.pg }) s2

/-- Every channel in use at a tick boundary, and the VIN_HV sample. -/
def chansTick (inp : TickInputs) (s : State) : State :=
  let s1 := s.chansUsed.foldl (fun s c => chanTick inp c s) s
  { s1 with hsw := { s1.hsw with vinMv := inp.vinMv } }

/-! ### Frame boundaries -/

/-- Whole frames of seat, gap and window counted at the boundary that ends a frame (R266, R274). -/
def chanFrame (c : Nat) (s : State) : State :=
  setChan c (fun x => { x with
    seatRun := if x.seatAll then min (x.seatRun + 1) 2047 else 0, seatAll := true
    gapRun := if x.gapAll then min (x.gapRun + 1) 2047 else 0, gapAll := true
    vinRun := if x.vinAll then min (x.vinRun + 1) 32767 else 0, vinAll := true
    st := if isKeeper c && x.st = .empty && x.vinAll then .seating
          else if isKeeper c && x.st = .seating && !x.vinAll then .empty else x.st }) s

/-- Every channel in use at a frame boundary. -/
def chansFrame (s : State) : State := s.chansUsed.foldl (fun s c => chanFrame c s) s

/-- SEAT_DEBOUNCE_COMPLETE: the seat was present for the debounce; the slot starts, waits with its start pending, or is
DISABLED (Table 9.3). The step stands at the boundary that ends the running frame. -/
def execSeatDebounceComplete (slot : Nat) (s : State) : Out :=
  let x := s.chan slot
  whenDrives (s.tim.frameDue && isSlot slot && s.chanUsed slot && x.st = .seating && !x.pending && x.seatAll &&
      decide (x.seatRun + 1 ≥ (s.cfg.chans.get slot).seatDb)) s fun s =>
    if !x.enabled then setChan slot (fun x => { x with st := .disabled }) s
    else if x.cooling (s.tim.frame + 1) then setChan slot (fun x => { x with pending := true }) s
    else startChan slot s

/-- PULL_COUNTED_AS_TOGGLE: the seat of a TRIPPED slot was absent for the debounce (Table 9.3). The step stands at the boundary
that ends the running frame. -/
def execPullCountedAsToggle (slot : Nat) (s : State) : Out :=
  let x := s.chan slot
  whenDrives (s.tim.frameDue && isSlot slot && s.chanUsed slot && x.st = .tripped && x.gapAll &&
      decide (x.gapRun + 1 ≥ (s.cfg.chans.get slot).seatDb)) s
    (setChan slot (fun x => { x with st := .empty, pending := false, latched := none, shutLatch := false, tripSeen := false }))

/-- COOL_DOWN_END: cool-down ends at the boundary that ends frame ft + cool_frames, and a pending start takes effect there;
a tie with a toggle pending returns to OPEN (R270, R278). -/
def execCoolDownEnd (chan : Nat) (s : State) : Out :=
  let x := s.chan chan
  whenDrives (s.tim.frameDue && s.chanUsed chan && x.cool.any (fun e => decide (e ≤ s.tim.frame))) s fun s =>
    let s1 := setChan chan (fun x => { x with cool := none }) s
    if !x.pending then s1
    else if x.st = .tripped then toggleChan chan (s.tim.frame + 1) (setChan chan (fun x => { x with pending := false }) s1)
    else startChan chan s1

/-- KEEPER_INSERT_DELAY_END: VIN_HV was in window for insert_frames and the keeper starts, or is DISABLED (Tables 9.3 and 9.4).
The step stands at the boundary that ends the running frame. -/
def execKeeperInsertDelayEnd (keeper : Nat) (s : State) : Out :=
  let c := 48 + keeper
  let x := s.chan c
  whenDrives (s.tim.frameDue && decide (keeper < 4) && s.chanUsed c && decide (x.st = .empty ∨ x.st = .seating) && x.vinAll &&
      !x.cooling (s.tim.frame + 1) && decide (x.vinRun + 1 ≥ (s.cfg.chans.get c).insertFrames)) s fun s =>
    if x.enabled then startChan c s else setChan c (fun x => { x with st := .disabled }) s

/-- Bits of HSW_TRIP_EVENT written 1 are cleared (R283). -/
def clearTrips (reg : Nat) (mask : Word) (s : State) : State :=
  let m : BitVec 64 := if reg = 0 then BitVec.ofNat 64 mask.toNat else BitVec.ofNat 64 (mask.toNat * 4294967296)
  { s with hsw := { s.hsw with tripEvent := s.hsw.tripEvent &&& ~~~m } }

/-! ### Commands (Table 9.6); the boundary opens the current frame -/

/-- CMD_HSW_SET (Table 9.3, Table 9.4). -/
def cmdHswSet (chan : Nat) (on : Bool) (s : State) : CmdOut :=
  unlessRefused [(!s.chanUsed chan || isTie chan, rsRange, 0)] s fun s =>
    let x := s.chan chan
    let s1 := setChan chan (fun x => { x with enabled := on }) s
    let s2 :=
      if on then
        match x.st with
        | .disabled =>
          if isKeeper chan then
            if decide (x.vinRun < (s.cfg.chans.get chan).insertFrames) || x.cooling s.tim.frame then
              setChan chan (fun x => { x with st := .empty }) s1
            else startChan chan s1
          else if !x.seatS then setChan chan (fun x => { x with st := .empty }) s1
          else if x.cooling s.tim.frame then setChan chan (fun x => { x with st := .seating, pending := true }) s1
          else startChan chan s1
        | _ => s1
      else
        match x.st with
        | .starting | .on => turnOff chan .disabled s1
        | .seating => if x.pending then setChan chan (fun x => { x with st := .disabled, pending := false }) s1 else s1
        | .tripped => setChan chan (fun x => { x with pending := false }) s1
        | _ => s1
    wrote s2 [(0x0B, chan, 0)]

/-- CMD_HSW_TOGGLE (Table 9.3, Table 9.4, R278). -/
def cmdHswToggle (chan : Nat) (s : State) : CmdOut :=
  let x := s.chan chan
  unlessRefused
    [(decide (chan ≥ 54), rsRange, 0), (decide (x.st ≠ .tripped) || x.pending, rsState, 0)] s fun s =>
    done (toggleChan chan s.tim.frame s)

/-- CMD_HSW_LIMIT_SET (R280). -/
def cmdHswLimitSet (chan limit : Nat) (s : State) : CmdOut :=
  let g := s.cfg.chans.get chan
  let raw := limRaw limit g.rSense
  unlessRefused
    [(!s.chanUsed chan || isTie chan, rsRange, 0),
     (decide (raw < 10 ∨ 200 < raw ∨ (limit : Int) < g.limStart), rsRange, 4)] s fun s =>
    let s1 := setChan chan (fun x => { x with limRun := some limit }) s
    wrote s1 [(0x0B, chan, 1)] (leBytes 1 (s1.effCode chan))

/-- CMD_HSW_FAIL_CLEAR (Table 9.3): the seat is tested again from the next tick boundary. -/
def cmdHswFailClear (chan : Nat) (s : State) : CmdOut :=
  unlessRefused
    [(decide (chan ≥ 54), rsRange, 0), (decide ((s.chan chan).st ≠ .failed), rsState, 0)] s fun s =>
    done (setChan chan (fun x => { gateOff x with st := .empty, latched := none, shutLatch := false, tripSeen := false
                                                  pending := false, ew := x.ew }) s)

end Sys2Proof.Machine
end

