-- ==== Sys2Proof/Machine/Sharing.lean ====
section
/-! DEFINITION. Rectifier sharing by the marver, hold-up, hand-back and the hardware shed (chapter 06). -/
namespace Sys2Proof.Machine

/-- A change of the hold-up state. -/
def setHold (f : HoldUp → HoldUp) (s : State) : State := { s with shr := { s.shr with hold := f s.shr.hold } }

/-- A change of the marver's work of the running frame. -/
def setMar (f : MarverSt → MarverSt) (s : State) : State := { s with shr := { s.shr with nxt := f s.shr.nxt } }

/-- A change of a rectifier in the running frame's work. -/
def setRect (r : Nat) (f : Rect → Rect) (s : State) : State :=
  setMar (fun m => { m with rects := m.rects.modify r f }) s

/-- A change of what has been taken in about a rectifier, or of its state by a command: in effect and in the running
frame's work alike. -/
def setRectBoth (r : Nat) (f : Rect → Rect) (s : State) : State :=
  setRect r f { s with shr := { s.shr with cur := { s.shr.cur with rects := s.shr.cur.rects.modify r f } } }

/-- The rectifier r as the running frame's work has it. -/
def State.rect (s : State) (r : Nat) : Rect := s.shr.nxt.rects.get r

/-- The rectifier r as in effect. -/
def State.rectCur (s : State) (r : Nat) : Rect := s.shr.cur.rects.get r

/-- A rectifier that the batch declares. -/
def State.rectUsed (s : State) (r : Nat) : Bool := decide (r < 36) && (s.cfg.rects.get r).present

/-- Rectifiers in use, in index order. -/
def State.rectsUsed (s : State) : List Nat := (List.range 36).filter s.rectUsed

/-- Age of a rectifier's current point. -/
def State.rectAge (s : State) (r : Nat) : Nat := s.ptAge (0x400 + 8 * r + 1)

/-- A rectifier has a fresh reading: its current point took a sample in the last complete frame (R180). -/
def State.rectFresh (s : State) (r : Nat) : Bool :=
  (s.pnt.shadow.get (0x400 + 8 * r + 1)).sampled && s.rectAge r = 0

/-- ENTERING, HOLDING or SERVING: the sharing set (R183). -/
def Rect.sharing (x : Rect) : Bool := x.st = .entering || x.st = .holding || x.st = .serving

/-- "Any on" of Table 6.3. -/
def Rect.on (x : Rect) : Bool := x.sharing || x.st = .unparking || x.st = .silent

/-! ### STATUS_WORD (PMBus 1.3 bit positions, PRESUMED, log entry 26) -/

/-- An output, current, temperature or communication fault: VOUT, IOUT, VOUT_OV, IOUT_OC, TEMPERATURE, CML. -/
def swFault (w : Nat) : Bool := bitAt w 15 || bitAt w 14 || bitAt w 5 || bitAt w 4 || bitAt w 2 || bitAt w 1

/-- An input fault: INPUT or VIN_UV. -/
def swInput (w : Nat) : Bool := bitAt w 13 || bitAt w 3

/-- The output is on: OFF is clear. -/
def swOn (w : Nat) : Bool := !bitAt w 6

/-- POWER_GOOD: POWER_GOOD# is clear. -/
def swGood (w : Nat) : Bool := !bitAt w 11

/-! ### Output power, derated ratings, capacity and reserve (R187, R188, R205, R207) -/

/-- Rectifiers whose readings count in the output points of Table 6.9. -/
def State.rectsOut (s : State) : List Nat :=
  s.rectsUsed.filter fun r =>
    decide ((s.rectCur r).st ≠ .absent ∧ (s.rectCur r).st ≠ .parked ∧ s.rectAge r < s.cfg.marver.staleFrames)

/-- Rectifier output current, mA. -/
def State.rectCurrent (s : State) : Int := sumI (s.rectsOut.map fun r => s.pt (0x400 + 8 * r + 1))

/-- Rectifier output power, mW. -/
def State.rectPower (s : State) : Int := sumI (s.rectsOut.map fun r => s.pt (0x400 + 8 * r + 3))

/-- Derated rating as the lehr computed it in the frame before; before the first, the rating by derate_missing_ppm (R187). -/
def State.derated (s : State) (r : Nat) : Int :=
  ((s.rectCur r).derated).getD (divRhe ((s.cfg.rects.get r).rating * s.cfg.lehr.missing) 1000000)

/-- Sum of the derated ratings of some rectifiers. -/
def State.capOf (s : State) (l : List Nat) : Int := sumI (l.map s.derated)

/-- Reserve over some rectifiers (R187). -/
def State.reserveOf (s : State) (l : List Nat) : Int :=
  if s.cfg.marver.nn then
    let a := s.capOf (l.filter fun r => (s.cfg.rects.get r).feed = 0)
    let b := s.capOf (l.filter fun r => (s.cfg.rects.get r).feed ≠ 0)
    s.capOf l - (if a < b then a else b)
  else (maxI (l.map s.derated)).getD 0

/-- The rectifier of a list that unparks first: the lowest rank, then the lowest index (Table 6.1). -/
def unparkFirst (b : Batch) (l : List Nat) : Option Nat :=
  l.foldl (fun best r =>
    match best with
    | none => some r
    | some k => if (b.rects.get r).parkRank < (b.rects.get k).parkRank then some r else best) none

/-- The rectifier of a list that parks first: the highest rank, then the highest index. -/
def parkFirst (b : Batch) (l : List Nat) : Option Nat :=
  l.foldl (fun best r =>
    match best with
    | none => some r
    | some k => if (b.rects.get r).parkRank ≥ (b.rects.get k).parkRank then some r else best) none

/-- Parking headroom over the rectifiers that are parked (R188): that of the one which would unpark first, where a rectifier that a
command keeps parked comes behind the others. -/
def State.headOf (s : State) (parked : List Nat) : Int :=
  let free := parked.filter fun r => (s.rect r).park ≠ .park
  match unparkFirst s.cfg (if free.isEmpty then parked else free) with
  | none => 0
  | some r => s.cfg.marver.loadRise * ((s.cfg.rects.get r).unparkMs : Int)

/-- Rectifiers that are PARKED in the running frame's work. -/
def State.parkedSet (s : State) : List Nat := s.rectsUsed.filter fun r => decide ((s.rect r).st = .parked)

/-- Parked rectifiers that no command keeps parked (R190). -/
def State.unparkSet (s : State) : List Nat := s.parkedSet.filter fun r => (s.rect r).park ≠ .park

/-- The running frame's work has parked a rectifier already: at most one parks per frame (R189). -/
def State.hasParked (s : State) : Bool :=
  s.rectsUsed.any fun r => decide ((s.rectCur r).st = .serving ∧ (s.rect r).st = .parked)

/-- Parking is open: hold-up is NORMAL and has been so for park_dwell frames, and the frame has parked no rectifier (R189). -/
def State.parkOpen (s : State) : Bool := s.shr.hold.st = .normal && s.shr.nxt.parkHold = 0 && !s.hasParked

/-- A rectifier that RECT_SILENT or RECT_NO_ACK takes out in the running frame: the frame's books leave it out (R191). -/
def State.rectLeaving (s : State) (r : Nat) : Bool :=
  decide (s.rectAge r ≥ s.cfg.marver.staleFrames) || decide ((s.rect r).nacks ≥ 8)

/-- Rectifiers counted in capacity: SERVING in effect and in the running frame's work (R183, R191). -/
def State.servingSet (s : State) : List Nat :=
  s.rectsUsed.filter fun r => decide ((s.rectCur r).st = .serving ∧ (s.rect r).st = .serving) && !s.rectLeaving r

/-- The demand that parking is judged by (R189). -/
def State.demandDm (s : State) : Int :=
  if s.rectPower > s.leh.cur.demand then s.rectPower else s.leh.cur.demand

/-- Demand with the park margin, rounded half to even. -/
def State.demandMargin (s : State) : Int := s.demandDm + divRhe (s.demandDm * s.cfg.marver.parkMargin) 1000000

/-- The park test of R189 for one rectifier, with the change applied. -/
def State.parkTest (s : State) (cand : Nat) : Bool :=
  let l := s.servingSet.filter (· ≠ cand)
  decide (s.capOf l - s.reserveOf l - s.headOf (insertBy (fun a b => decide (a < b)) cand s.parkedSet) ≥ s.demandMargin)

/-! ### Trims (R184, R185) -/

/-- Integrator of a rectifier that enters ENTERING (R184). -/
def enterRect (g : RectCfg) (x : Rect) : Rect :=
  { x with st := .entering, trim := g.trimMin, integ := g.trimMin - x.base, ramp := 0, errRun := 0, satRun := 0
           errRaised := false, satRaised := false, inputGood := false }

/-- VOUT_TRIM code (R185); an exponent above 0 divides by its power of two. -/
def trimCode (trim n : Int) : Int :=
  if n ≤ 0 then satS 16 (divRhe (trim * (2 : Int) ^ (-n).toNat) 1000000)
  else satS 16 (divRhe trim (1000000 * (2 : Int) ^ n.toNat))

/-- One rectifier of the law of R184, its int32 values saturating (R12), with the run counts of R186 and the hold count of Table 6.3. -/
def lawOne (b : Batch) (mean : Int) (fresh : Bool) (i : Int) (r : Nat) (x : Rect) : Rect :=
  let g := b.rects.get r
  let m := b.marver
  let ramp := if x.st = .entering then (if x.ramp + m.rampPpm < 1000000 then x.ramp + m.rampPpm else 1000000) else x.ramp
  let target := if x.st = .entering && decide (ramp < mean) then ramp else mean
  let x1 := { x with ramp := ramp }
  if !fresh then x1
  else
    let share := sat32 (divRhe (i * 1000000) (if g.ratedMa > 0 then g.ratedMa else 1))
    let e := sat32 (target - share)
    let integ := clampI (g.trimMin - g.trimMax) (g.trimMax - g.trimMin) (x.integ + sat32 (shrRhe (m.ki * e) 8))
    let trim := clampI g.trimMin g.trimMax (x.base + integ + sat32 (shrRhe (m.kp * e) 8))
    let wide := decide ((e.natAbs : Int) > m.shareTol)
    let sat := decide (trim = g.trimMin ∨ trim = g.trimMax)
    let high := decide (trim = g.trimMax)
    let run := if !sat then 0 else if x.satRun > 0 && x.satHigh = high then min (x.satRun + 1) 65535 else 1
    { x1 with
      share := share, integ := integ, trim := trim
      errRun := if wide then min (x.errRun + 1) 65535 else 0, errRaised := x.errRaised && wide
      satRun := run, satHigh := high, satRaised := x.satRaised && decide (run > 1)
      holdCount := if x.st = .holding then (if wide then 0 else min (x.holdCount + 1) 16) else x.holdCount }

/-- The law over the sharing set (R184): only in NORMAL; otherwise every rectifier that is on is written trim_min. -/
def marverLaw (s : State) : State :=
  let normal := s.shr.hold.st = .normal
  let base := fun (r : Nat) (x : Rect) =>
    let up := x.base + s.cfg.marver.baseRate
    if normal then { x with base := if x.base < 0 then (if up < 0 then up else 0) else x.base }
    else { x with base := (s.cfg.rects.get r).trimMin }
  let s1 := setMar (fun m => { m with rects := m.rects.modifyAll s.rectsUsed base }) s
  if !normal then
    setMar (fun m => { m with rects := m.rects.modifyAll s.rectsUsed fun r x =>
      if x.on then { x with trim := (s.cfg.rects.get r).trimMin, integ := 0 } else { x with integ := 0 } }) s1
  else
    let set := s.rectsUsed.filter fun r => (s1.rect r).sharing && !s.rectLeaving r
    let live := set.filter fun r => decide (s.rectAge r < s.cfg.marver.staleFrames)
    let si := sumI (live.map fun r => s.pt (0x400 + 8 * r + 1))
    let sr := sumI (live.map fun r => (s.cfg.rects.get r).ratedMa)
    let mean := if sr > 0 then sat32 (divRhe (si * 1000000) sr) else 0
    setMar (fun m => { m with
      meanPpm := mean
      rects := m.rects.modifyAll set fun r x => lawOne s.cfg mean (s.rectFresh r) (s.pt (0x400 + 8 * r + 1)) r x }) s1

/-! ### Rectifier events in the marver's frame (Table 6.3) -/

/-- A rectifier becomes FAULTED with its trim held. -/
def faultRect (r ctx : Nat) (s : State) : State :=
  raise kRectFault r ctx (setRect r (fun x => { x with st := .faulted, inputGood := false }) s)

/-- A rectifier goes to INPUT_LOST with its trim at trim_min. -/
def inputLostRect (r : Nat) (s : State) : State :=
  let g := s.cfg.rects.get r
  raise kRectInputLost r 0 (setRect r (fun x => { x with st := .inputLost, trim := g.trimMin, inputGood := false }) s)

/-- Discovery has completed: the state that the STATUS_WORD tells. -/
def discoverRect (r w : Nat) (acLost : Bool) (s : State) : State :=
  let g := s.cfg.rects.get r
  if !swOn w then setRect r (fun x => { x with st := .parked }) s
  else if acLost || swInput w then inputLostRect r s
  else if swFault w then faultRect r 0 (setRect r (fun x => { x with trim := g.trimMin }) s)
  else setRect r (enterRect g) s

/-- UNPARKING begins: VOUT_TRIM to trim_min, then OPERATION 0x80. -/
def unparkRect (r : Nat) (s : State) : State :=
  let g := s.cfg.rects.get r
  setRect r (fun x => { x with st := .unparking, unparkNs := 0, trim := g.trimMin, opDue := some 0x80 }) s

/-- A rectifier is parked: OPERATION park_operation. -/
def parkRect (r : Nat) (s : State) : State :=
  setRect r (fun x => { x with st := .parked, opDue := some s.cfg.marver.parkOperation }) s

/-- The inputs of a rectifier's events that one evaluation takes up. -/
def takeInputs (r : Nat) (s : State) : State :=
  setRect r (fun x => { x with statusNew := none, writeFault := none, parkNow := false, returnNow := false }) s

/-- The events that take a rectifier out of the sharing set and of capacity, ahead of the law of the same frame (R191): an input
failure comes before another fault, and either before a write that failed twice (Table 6.3). -/
def rectLost (r : Nat) (s : State) : State :=
  let x := s.rect r
  let w := x.statusNew
  let lost := x.acLostF || w.any swInput
  if x.on && lost then inputLostRect r (takeInputs r s)
  else if (x.on || x.st = .inputLost) && w.any swFault && !lost then faultRect r 0 (takeInputs r s)
  else if x.st ≠ .absent && x.writeFault.isSome then faultRect r (x.writeFault.getD 0) (takeInputs r s)
  else s

/-- The other events of one rectifier on the input set of the frame that has ended, in the order of Table 6.3. A PARK accepted
while parking is closed waits for it to open. -/
def rectEvents (r : Nat) (s : State) : State :=
  let x := s.rect r
  let g := s.cfg.rects.get r
  let normal := s.shr.hold.st = .normal
  let w := x.statusNew
  let s0 := takeInputs r s
  if x.st = .absent then
    match w with
    | some v => if x.vmodeOk then discoverRect r v x.acLostF s0 else s0
    | none => s0
  else match x.st with
    | .parked => if normal && x.park = .unpark then unparkRect r s0 else s0
    | .unparking =>
      if w.any (fun v => swOn v && swGood v) then setRect r (enterRect g) s0
      else setRect r (fun x => { x with unparkNs := min (x.unparkNs + s.frameNs) 4294967295 }) s0
    | .entering =>
      if normal && decide (x.ramp ≥ s.shr.nxt.meanPpm) then setRect r (fun x => { x with st := .holding, holdCount := 0 }) s0
      else s0
    | .silent => if s.rectFresh r then setRect r (fun x => { x with st := .holding, holdCount := 0 }) s0 else s0
    | .serving =>
      if !s.parkOpen then setRect r (fun y => { y with parkNow := x.parkNow }) s0
      else if x.parkNow || (x.park = .park && s.parkTest r) then parkRect r s0 else s0
    | .inputLost =>
      if !x.acLostF && !swInput x.status && swOn x.status && !(w.any swInput) then
        (if normal then setRect r (enterRect g) s0 else setRect r (fun x => { x with inputGood := true }) s0)
      else setRect r (fun x => { x with inputGood := false }) s0
    | .faulted =>
      if (x.returnNow && swOn x.status) || (g.autoReturn && w.any (fun v => !swFault v && !swInput v && swOn v)) then
        setRect r (fun x => { enterRect g x with clearDue := true }) s0
      else s0
    | _ => s0

/-- Parked rectifiers unpark while the test of R189 fails. -/
def unparkUntil : Nat → State → State
  | 0, s => s
  | n + 1, s =>
    let l := s.servingSet ++ s.rectsUsed.filter fun r => decide ((s.rect r).st = .unparking)
    if s.capOf l - s.reserveOf l - s.headOf s.parkedSet ≥ s.demandMargin then s
    else match unparkFirst s.cfg s.unparkSet with
      | none => s
      | some r => unparkUntil n (unparkRect r s)

/-- Automatic unparking, and the dwell of automatic parking (R189). -/
def marverPark (lost : Bool) (s : State) : State :=
  let m := s.cfg.marver
  let s1 := setMar (fun n => { n with parkHold := n.parkHold - 1 }) s
  if s.shr.hold.st ≠ .normal then setMar (fun n => { n with dwell := 0 }) s
  else if lost || decide (s.demandDm > s.capOf s.servingSet - s.reserveOf s.servingSet - s.headOf s.parkedSet) then
    unparkUntil 36 s1
  else
    let busy := s.rectsUsed.any fun r => decide ((s.rect r).st = .unparking ∨ (s.rect r).st = .entering ∨ (s.rect r).st = .holding)
    let cands := s.servingSet.filter fun r => decide ((s.rect r).park = .auto)
    let ok := m.parkEn && !busy && decide (s.servingSet.length > m.parkMin) && s.shr.nxt.parkHold = 0 &&
      (match parkFirst s.cfg cands with | some c => s.parkTest c | none => false)
    setMar (fun n => { n with dwell := if ok then min (n.dwell + 1) 65535 else 0 }) s1

/-- The books of the frame: capacity, reserve, headroom, input-good capacity, RESERVE_SHORT and the PMBus route
(R187, R188, R191, R192, R203). -/
def marverBooks (moved : Bool) (s : State) : State :=
  let sv := s.servingSet
  let good := s.rectsUsed.filter fun r => ((s.rect r).sharing && !s.rectLeaving r) || ((s.rect r).st = .inputLost && (s.rect r).inputGood)
  let share := s.rectsUsed.filter fun r => (s.rect r).sharing
  let c := s.capOf sv
  let rs := s.reserveOf sv
  let short := decide (c - rs < s.demandDm)
  let s1 := setMar (fun m => { m with capC := c, reserve := rs, headH := s.headOf s.parkedSet, inGood := s.capOf good
                                      inGoodRes := s.reserveOf good, shortRaised := short }) s
  let s2 := setHold (fun h => { h with pmbusRoute := moved && decide (s.capOf share < s.rectPower) }) s1
  raiseIf (short && !s.shr.nxt.shortRaised) kReserveShort 36 0 s2

/-- Points of the marver for the frame (Table 6.9), taken when its work ends; a share error stands where the law was evaluated
on a fresh reading. -/
def marverPoints (s : State) : State :=
  let one := fun (s : State) (r : Nat) =>
    let x := s.rect r
    let b := 0x400 + 8 * r
    let code : Nat := match x.st with
      | .absent => 0 | .parked => 1 | .unparking => 2 | .entering => 3 | .holding => 4 | .serving => 5 | .silent => 6
      | .faulted => 7 | .inputLost => 8
    let s1 := sampleAll [(b, (code : Int)), (b + 4, divRhe x.trim 1000)] s
    if (s.rectCur r).sharing && s.rectFresh r && s.shr.hold.st = .normal then sample (b + 5) x.share s1 else s1
  let s1 := s.rectsUsed.foldl one s
  let n := s.shr.nxt
  let cnt := fun (st : RectState) => (s.rectsUsed.filter fun r => decide ((s.rect r).st = st)).length
  let base := (minI (s.rectsUsed.map fun r => (s.rect r).base)).getD 0
  sampleAll [(0x381, sat32 s.rectCurrent), (0x382, sat32 s.rectPower), (0x383, sat32 n.capC), (0x384, sat32 n.reserve),
    (0x385, sat32 n.headH), (0x386, sat32 n.inGood), (0x38A, n.meanPpm), (0x38B, divRhe base 1000),
    (0x38F, ((cnt .serving + 65536 * cnt .parked : Nat) : Int))] s1

/-- MARVER_FRAME: the marver's work of the frame that opens, on the input set of the frame before (R180 to R191). -/
def marverFrame (s : State) : State :=
  let s0 := s.rectsUsed.foldl (fun s r => rectLost r s) { s with shr := { s.shr with nxt := s.shr.cur } }
  let s2 := s.rectsUsed.foldl (fun s r => rectEvents r s) (marverLaw s0)
  let lost := s.rectsUsed.any fun r =>
    (s.rectCur r).st = .serving && ((s2.rect r).st ≠ .serving || s.rectLeaving r) && (s2.rect r).st ≠ .parked
  let moved := s.rectsUsed.any fun r => (s.rectCur r).st ≠ .inputLost && (s2.rect r).st = .inputLost
  marverBooks moved (marverPark lost s2)

/-- What was taken in about the rectifiers in the frame that ends (R183): AC_OK over the whole frame. -/
def rectsClose (s : State) : State :=
  s.rectsUsed.foldl (fun s r => setRectBoth r (fun x => { x with 
    acLostF := x.acLost, acLost := false, vinAge := if x.vinNew then 0 else min (x.vinAge + 1) 65535, vinNew := false }) s) s

/-- RECT_WRITE_ISSUE: the writes that the frame's results call for become due at the boundary that brings them into effect
(R182). -/
def rectWrites (s : State) : State :=
  s.rectsUsed.foldl (fun s r =>
    let x := s.rectCur r
    match x.expN with
    | some n =>
      if x.st ≠ .absent && x.lastCode ≠ some (trimCode x.trim n) && (x.st ≠ .parked || x.lastCode.isSome || x.failTrim) then
        setRectBoth r (fun x => { x with trimDue := true }) s
      else setRectBoth r (fun x => { x with trimDue := false }) s
    | none => s) s

/-! ### Rows of rectifiers -/

/-- RECT_NO_ACK: eight consecutive transactions without acknowledgement (R183). -/
def execRectNoAck (rect : Nat) (s : State) : Out :=
  let x := s.rect rect
  whenDrives (s.rectUsed rect && x.st ≠ .absent && decide (x.nacks ≥ 8)) s fun s =>
    let clear := fun x : Rect => { x with expN := none, vmodeOk := false, statusNew := none, lastCode := none, opDue := none
                                          trimDue := false, clearDue := false, failTrim := false, failOp := false, nacks := 0
                                          writeFault := none, parkNow := false, returnNow := false }
    raiseIf x.sharing kRectFault rect 0
      (setRect rect (fun x => { x with st := .absent, inputGood := false }) (setRectBoth rect clear s))

/-- RECT_SILENT: the current point's age reaches stale_frames (R183). -/
def execRectSilent (rect : Nat) (s : State) : Out :=
  whenDrives (s.rectUsed rect && (s.rect rect).sharing && decide (s.rectAge rect ≥ s.cfg.marver.staleFrames)) s fun s =>
    raise kRectSilent rect 0 (setRect rect (fun x => { x with st := .silent }) s)

/-- RECT_UNPARK_TIMEOUT: 2 x unpark_latency without output on and POWER_GOOD (R183). -/
def execRectUnparkTimeout (rect : Nat) (s : State) : Out :=
  let x := s.rect rect
  whenDrives (s.rectUsed rect && x.st = .unparking &&
      decide (x.unparkNs ≥ 2000000 * (s.cfg.rects.get rect).unparkMs + s.frameNs)) s fun s =>
    raise kRectUnparkTimeout rect 0 (setRect rect (fun x => { x with st := .faulted }) s)

/-- RECT_SERVING: 16 consecutive fresh frames within share_tol (R183). -/
def execRectServing (rect : Nat) (s : State) : Out :=
  let x := s.rect rect
  whenDrives (s.rectUsed rect && x.st = .holding && decide (x.holdCount ≥ 16)) s
    (setRect rect (fun x => { x with st := .serving }))

/-- SHARE_TOL: a share error, or a trim at its limit, for share_fault_frames (R186). -/
def execShareTol (rect : Nat) (s : State) : Out :=
  let x := s.rect rect
  let n := s.cfg.marver.shareFaultFrames
  let err := x.sharing && !x.errRaised && decide (x.errRun ≥ n)
  let sat := x.sharing && !x.satRaised && decide (x.satRun ≥ n)
  whenDrives (s.rectUsed rect && (err || sat)) s fun s =>
    let s1 := setRect rect (fun x => { x with errRaised := x.errRaised || err, satRaised := x.satRaised || sat }) s
    raiseIf sat kShareTol rect (if x.satHigh then 2 else 1) (raiseIf err kShareTol rect 0 s1)

/-- RECT_PARK: the dwell reaches park_dwell and the highest-ranked SERVING rectifier parks (R189). -/
def execRectPark (s : State) : Out :=
  let cands := s.servingSet.filter fun r => decide ((s.rect r).park = .auto)
  match parkFirst s.cfg cands with
  | none => .next s
  | some c =>
    whenDrives (s.parkOpen && decide (0 < s.shr.nxt.dwell ∧ s.cfg.marver.parkDwell ≤ s.shr.nxt.dwell)) s fun s =>
      setMar (fun m => { m with dwell := 0 }) (parkRect c s)

/-- CMD_RECT_PARK_SET (R190): the setting stands from acceptance; Table 6.3 follows it in the marver's work of the frame that
opens. -/
def cmdRectParkSet (rect setting : Nat) (s : State) : CmdOut :=
  unlessRefused
    [(!s.rectUsed rect, rsAbsent, 0), (decide (setting > 2), rsRange, 1),
     (setting = 1 && !s.parkTest rect, rsMargin, 1)] s fun s =>
    let p : ParkSet := if setting = 1 then .park else if setting = 2 then .unpark else .auto
    wrote (setRectBoth rect (fun y => { y with park := p, parkNow := setting = 1 }) s) [(0x08, rect, 0)]

/-- CMD_RECT_RETURN (R190): a FAULTED rectifier whose output is on returns as from INPUT_LOST in the marver's work of the frame
that opens. -/
def cmdRectReturn (rect : Nat) (s : State) : CmdOut :=
  let x := s.rectCur rect
  unlessRefused [(!s.rectUsed rect || x.st ≠ .faulted, rsState, 0)] s fun s =>
    done (setRectBoth rect (fun y => { y with returnNow := true }) s)

/-! ### Hold-up (R192 to R197, R203, R204) -/

/-- Battery stages in use. -/
def State.batteryStages (s : State) : List Nat :=
  (List.range 6).filter fun st => s.stageUsed st && (s.cfg.stages.get st).battery

/-- The AC_OK route of Table 6.4 at a tick boundary. -/
def State.acRoute (s : State) : Bool :=
  let set := s.rectsUsed.filter fun r => (s.rectCur r).sharing
  let lost := set.filter fun r => s.roleUv (.acOk r)
  !lost.isEmpty && decide (s.capOf (set.filter fun r => !lost.contains r) < s.rectPower)

/-- HOLDUP_ENTER at an entry boundary (R193, R194): a mode request for L6 and every RUNNING battery stage; the trim bases
go to trim_min. -/
def enterHoldup (route : Nat) (s : State) : State :=
  let base := fun (r : Nat) (x : Rect) => { x with base := (s.cfg.rects.get r).trimMin }
  let s1 := s.rectsUsed.foldl (fun s r => setRectBoth r (base r) s) s
  let s2 := s.batteryStages.foldl (fun s st =>
    if (s.stage st).st = .running then
      setStage st (fun x => { x with transferDue := !x.inHoldup, handStep := none }) s else s) s1
  let s3 := setHold (fun h => { h with st := .holdup, entries := inc32 h.entries, routeHit := true, retRun := 0
                                       noCapRaised := false }) s2
  (if route = 2 then raiseNext else raiseOpen) kHoldupEnter 36 route (ewHoldup s3)

/-- HOLDUP_TRANSFER: one tick after the entry the battery stages take DISCHARGE (R194). -/
def holdupTransfer (s : State) : State :=
  s.batteryStages.foldl (fun s st =>
    if (s.stage st).transferDue then setStage st (fun x => { x with transferDue := false, inHoldup := true }) s else s) s

/-- Hand-back mode of a battery stage (R157, R204). -/
def handbackMode (c : StageCfg) : Mode := if StageCfgPermits c 0 then .charge else .idle

/-- The end of hold-up: stages to their hand-back mode, input-good rectifiers SERVING without a ramp (R204). -/
def exitHoldup (s : State) : State :=
  let s1 := s.batteryStages.foldl (fun s st =>
    setStage st (fun x => { x with inHoldup := false, transferDue := false, handStep := none
                                   cmdMode := some (handbackMode (s.cfg.stages.get st)) }) s) s
  let owned := s.batteryStages.filter s.chargeOwned
  let hb := fun (b : BatSt) => owned.foldl (fun b st =>
    let c := s.cfg.stages.get st
    { b with strings := b.strings.modify c.string (fun x => { x with chgMode := some (handbackMode c) }) }) b
  let good := fun x : Rect => x.sharing || (x.st = .inputLost && x.inputGood)
  let f := fun x : Rect =>
    if good x then { x with st := .serving, integ := 0, inputGood := false, errRun := 0, satRun := 0, holdCount := 0 } else x
  let s2 := s.rectsUsed.foldl (fun s r => setRectBoth r f s) { s1 with bat := { s1.bat with cur := hb s1.bat.cur, nxt := hb s1.bat.nxt } }
  let pd := s.cfg.marver.parkDwell
  let s3 := { s2 with shr := { s2.shr with cur := { s2.shr.cur with parkHold := pd }, nxt := { s2.shr.nxt with parkHold := pd } } }
  raiseOpen kHoldupExit 36 0 (setHold (fun h => { h with st := .normal }) s3)

/-- Every battery stage still RUNNING or STOPPING in DISCHARGE has a slewed current reference of 0 (R204). -/
def State.handbackDone (s : State) : Bool :=
  s.batteryStages.all fun st =>
    let x := s.stage st
    !(x.live && x.mode = .discharge) || decide (x.iSlew = 0)

/-- HOLDUP_NO_CAPABILITY, once per excursion (Table 6.5). -/
def noCapability (s : State) : State :=
  let able := s.batteryStages.any fun st => (s.stage st).st = .running && decide (s.capability st > 0)
  if s.shr.hold.st ≠ .holdup then s
  else if able then setHold (fun h => { h with noCapRaised := false }) s
  else if s.shr.hold.noCapRaised then s
  else raiseOpen kHoldupNoCapability 36 0 (setHold (fun h => { h with noCapRaised := true }) s)

/-- SHED_STEP for the steps applied in the ending tick; SHED and AC_OK as sampled (R183, R200, R201). -/
def shedSampled (s : State) : State :=
  let s1 := s.shr.hold.stepsToSample.foldl (fun s c => raiseT kShedStep c 0 s) s
  let s2 := setHold (fun h => { h with stepsToSample := [], shedSeen := h.shedSeen || s.roleUv .shed }) s1
  s.rectsUsed.foldl (fun s r => if s.roleUv (.acOk r) then setRectBoth r (fun x => { x with acLost := true }) s else s) s2

/-- Hold-up at a tick boundary: the transfer that falls due, the routes of Table 6.4, the end of hand-back. -/
def holdupTick (s : State) : State :=
  let s1 := holdupTransfer (shedSampled s)
  let trip := s1.roleUv .holdTrip
  let s2 :=
    if trip || s1.acRoute then
      let s' := setHold (fun h => { h with routeHit := true }) s1
      if s1.shr.hold.st ≠ .holdup then enterHoldup (if trip then 0 else 1) s' else s'
    else if s1.shr.hold.st = .handback && s1.handbackDone then exitHoldup s1 else s1
  let s3 := noCapability s2
  let code : Nat := match s3.shr.hold.st with | .normal => 0 | .holdup => 1 | .handback => 2
  sample 0x388 code s3

/-- The PMBus route at the boundary that brings the marver's work into effect (Table 6.4). -/
def holdupPmbus (s : State) : State :=
  if s.shr.hold.pmbusRoute then
    let s1 := setHold (fun h => { h with pmbusRoute := false, routeHit := true }) s
    if s.shr.hold.st ≠ .holdup then enterHoldup 2 s1 else s1
  else s

/-- The bus load of R203. -/
def State.busLoad (s : State) : Int :=
  s.rectPower + sumI (s.batteryStages.map fun st => s.pt (0x260 + 16 * st + 4))

/-- Measured draw of every slot, mW. -/
def State.slotDraw (s : State) : Int := sumI ((List.range 48).map fun c => s.pt (0x800 + 8 * c + 4))

/-- Hold-up's work of a frame: the return condition of R203, the release condition of R201, the points of Table 6.9. -/
def holdupFrame (s : State) : State :=
  let h := s.shr.hold
  let n := s.shr.nxt
  let load := s.busLoad
  let g := n.inGood
  let ok := h.st = .holdup && !h.routeHit && decide (g * 1000000 ≥ load * (1000000 + s.cfg.hold.returnMargin)) &&
    decide (g ≥ load + n.inGoodRes)
  let clear := if h.shedSeen then 0 else min (h.clearRun + 1) 4096
  let rel := !h.standing.isEmpty && decide (clear ≥ s.cfg.hold.shedClearFrames) &&
    decide (s.leh.cur.supply - s.slotDraw ≥ s.cfg.hold.shedReleaseMargin)
  let s1 := setHold (fun h => { h with
    stFrame := h.st, routeHit := false, shedSeen := false, clearRun := clear, relDue := rel
    retRun := if ok then min (h.retRun + 1) 65535 else 0 }) s
  sampleAll [(0x387, sat32 load), (0x389, sat32 (sumI (s.batteryStages.map s.capability))),
    (0x38C, (h.order.length : Int)), (0x38D, (h.standing.length : Int)), (0x38E, (h.entries : Int))] s1

/-- HANDBACK_START: the return condition held for return_frames (R203, R204). The step stands at the boundary that ends the
running frame. -/
def execHandbackStart (s : State) : Out :=
  let h := s.shr.hold
  whenDrives (s.tim.frameDue && h.st = .holdup && !h.routeHit && !h.pmbusRoute && decide (0 < h.retRun ∧ s.cfg.hold.returnFrames ≤ h.retRun)) s fun s =>
    let step := divRhe (s.cfg.hold.handbackRate * 1000) (max 1 s.frameTicks)
    let s1 := s.batteryStages.foldl (fun s st =>
      let c := s.cfg.stages.get st
      let x := s.stage st
      if x.live && x.mode = .discharge then
        let i := match s.l6For st .discharge with
          | some k => 1000 * clampRef c .discharge (nth (s.loop 6).out k)
          | none => x.iSlew
        setStage st (fun x => { x with iSlew := i, iTarget := 0, handStep := some step }) s
      else s) s
    setHold (fun h => { h with st := .handback, retRun := 0 }) s1

/-! ### The hardware shed (R198 to R202) -/

/-- The slot already stands at or below the limit of an entry (R200). -/
def State.shedDone (s : State) (e : ShedEntry) : Bool :=
  match (s.chan e.slot).shed with
  | some k => decide (k ≤ limCode e.keep (s.pdCfg.chans.get e.slot).rSense)
  | none => false

/-- One shed step: the slot's limit becomes its keep, rounded up to the next step (R198, R199). -/
def applyShed (e : ShedEntry) (s : State) : State :=
  let k := limCode e.keep (s.pdCfg.chans.get e.slot).rSense
  let s1 := setChan e.slot (fun x => { x with shed := some k }) s
  setHold (fun h => { h with steps := min (h.steps + 1) 255, vinAtStep := s.hsw.vinMv
                             standing := e.slot :: h.standing.filter (· ≠ e.slot)
                             stepsToSample := h.stepsToSample ++ [e.slot] }) s1

/-- The next entry of the progression that still has to be applied is applied. -/
def shedNext : Nat → State → State
  | 0, s => s
  | n + 1, s =>
    let h := s.shr.hold
    match h.prog[h.progPos]? with
    | none => s
    | some e =>
      let s1 := setHold (fun h => { h with progPos := h.progPos + 1 }) s
      if s.shedDone e then shedNext n s1 else applyShed e s1

/-- SHED asserts: entry 1 of the order in effect (R199); a progression that runs goes on with its own order (R200). -/
def shedStart (vin : Int) (s : State) : State :=
  let s0 := { s with hsw := { s.hsw with vinMv := vin } }
  if s.shr.hold.progRun then s0
  else shedNext 48 (setHold (fun h => { h with prog := h.order, progRun := true, progPos := 0, steps := 0 }) s0)

/-- SHED_INTERVAL: at each shed_interval after the last applied step (R199). With SHED no longer asserted the progression
has ended at its last interval (R200). -/
def execShedInterval (vinMv : Int) (s : State) : Out :=
  let on := match monWith s.pdCfg .shed with
    | some m => bvGet s.msr.uv m
    | none => false
  whenDue s.shr.hold.progRun s fun s =>
    let s0 := { s with hsw := { s.hsw with vinMv := vinMv } }
    if !on then setHold (fun h => { h with progRun := false }) s0
    else if vinMv < s.shr.hold.vinAtStep + s.pdCfg.hold.shedRise then shedNext 48 s0 else s0

/-- A shed limit is released; a slot that tripped under it is toggled (R201, R202). The boundary opens frame f. -/
def releaseShed (c f : Nat) (s : State) : State :=
  let s1 := setChan c (fun x => { x with shed := none }) (setHold (fun h => { h with
    standing := h.standing.filter (· ≠ c), trippedUnder := h.trippedUnder.filter (· ≠ c) }) s)
  let s2 := (if s.tim.frame = f then raise else raiseNext) kShedRelease c 0 s1
  if s.shr.hold.trippedUnder.contains c && s.cfg.hold.shedRestart && (s.chan c).st = .tripped && !(s.chan c).pending then
    toggleChan c f s2 else s2

/-- SHED_RELEASE: one slot per frame, the last applied first (R201). -/
def shedReleaseFrame (f : Nat) (s : State) : State :=
  match s.shr.hold.standing with
  | c :: _ => if s.shr.hold.relDue then releaseShed c f s else s
  | [] => s

/-- CMD_SHED_RELEASE releases every shed limit (R201). -/
def cmdShedRelease (s : State) : CmdOut :=
  let l := s.shr.hold.standing
  done (l.foldl (fun s c => releaseShed c s.tim.frame s) s) (leBytes 1 l.length)

end Sys2Proof.Machine
end

