-- ==== Sys2Proof/Machine/Battery.lean ====
section
/-! DEFINITION. Battery strings: integration, confidence, corrections, end of discharge, impedance tables, cycle records,
the charge controller, warning levels and the battery commands (chapter 08). -/
namespace Sys2Proof.Machine

/-- A change of a string in the running frame's work. -/
def setStr (n : Nat) (f : BatString → BatString) (s : State) : State :=
  { s with bat := { s.bat with nxt := { s.bat.nxt with strings := s.bat.nxt.strings.modify n f } } }

/-- A change of a string in effect and in the running frame's work alike. -/
def setStrBoth (n : Nat) (f : BatString → BatString) (s : State) : State :=
  setStr n f { s with bat := { s.bat with cur := { s.bat.cur with strings := s.bat.cur.strings.modify n f } } }

/-- The string n as the running frame's work has it. -/
def State.str (s : State) (n : Nat) : BatString := s.bat.nxt.strings.get n

/-- A string that the batch declares. -/
def State.strUsed (s : State) (n : Nat) : Bool := decide (n < 6) && (s.cfg.strings.get n).present

/-- Strings in use. -/
def State.strsUsed (s : State) : List Nat := (List.range 6).filter s.strUsed

/-- A module that the batch declares. -/
def State.modUsed (s : State) (m : Nat) : Bool := decide (m < 64) && (s.cfg.modules.get m).present

/-- Modules of a string, in index order. -/
def State.modsOf (s : State) (n : Nat) : List Nat :=
  (List.range 64).filter fun m => s.modUsed m && (s.cfg.modules.get m).string = n

/-- The module m. -/
def State.module (s : State) (m : Nat) : BatModule := s.bat.modules.get m

/-- A change of one module's readings. -/
def setModule (m : Nat) (f : BatModule → BatModule) (s : State) : State :=
  { s with bat := { s.bat with modules := s.bat.modules.modify m f } }

/-- The battery stage of a string. -/
def State.strStage (s : State) (n : Nat) : Option Nat :=
  (List.range 6).find? fun st =>
    s.stageUsed st && (s.cfg.stages.get st).battery && (s.cfg.stages.get st).string = n

/-- mA ns per mAh. -/
def nasPerMah : Int := 3600000000000

/-- Full-charge capacity in mA ns. -/
def BatString.fccNas (x : BatString) : Int := (max 1 x.fccMah : Nat) * nasPerMah

/-- soc_c of R241. -/
def BatString.socC (x : BatString) : Int := divRhe (x.qRem * 1000000) x.fccNas

/-- A current at or above a share of C given in ppm. -/
def BatString.overC (x : BatString) (i ppm : Int) : Bool := decide ((i.natAbs : Int) * 1000000 ≥ ppm * x.fccMah)

/-- Steps of R234, in frames. -/
def State.stepFast (s : State) : Nat := max 1 (natOf (divRhe 1000000 (max 1 s.frameNs)))

/-- The slow step of R234. -/
def State.stepSlow (s : State) : Nat := max s.stepFast (natOf (divRhe 100000000 (max 1 s.frameNs)))

/-- soc_ocv of R238: string mV to ppm. -/
def socOcv (g : StringCfg) (v : Int) : Int :=
  let c : Int := g.cells
  let p := fun i : Nat => divRhe ((i : Int) * 1000000) 15
  if v < c * nth g.ocv 0 then 0
  else if v > c * nth g.ocv 15 then 1000000
  else
    let i := ((List.range 15).filter fun i => decide (v ≥ c * nth g.ocv i)).length - 1
    let d := c * (nth g.ocv (i + 1) - nth g.ocv i)
    p i + divRhe ((v - c * nth g.ocv i) * (p (i + 1) - p i)) (if d > 0 then d else 1)

/-- band of R241. -/
def State.band (s : State) (t : Int) : Nat := (s.cfg.est.bandEdges.filter fun e => decide (e ≤ t)).length

/-- The SoC index of R241. -/
def BatString.sidx (x : BatString) : Nat := natOf (clampI 0 999999 x.socC) / 62500

/-- Index of a cell: 128 m + 8 s + b. -/
def cellIndex (m sidx band : Nat) : Nat := 128 * m + 8 * sidx + min band 7

/-- The impedance cell in use of a module; without a temperature there is none. -/
def State.cellInUse (s : State) (m sidx : Nat) : ZCell :=
  match (s.module m).temp with
  | some t => s.bat.zlive.get (cellIndex m sidx (s.band t))
  | none => {}

/-- Impedance of a string and its confidence (R241). -/
def State.zOf (s : State) (n : Nat) (x : BatString) : Int × Int :=
  let g := s.cfg.strings.get n
  match s.modsOf n with
  | [] => (g.zWiring + nth g.zDefault (8 * x.sidx + Config.noModuleBand n % 8), 500000)
  | ms =>
    let cells := ms.map fun m => s.cellInUse m x.sidx
    (g.zWiring + sumI (cells.map (·.z)), (minI (cells.map fun c => (min c.n 8 : Nat) * 125000)).getD 0)

/-! ### One closed step (Table 8.4) as a function of the string -/

/-- Length of the open step, ns. -/
def State.stepNs (s : State) (x : BatString) : Nat := x.elapsed * s.frameNs

/-- Integration and confidence loss (R235 to R237). -/
def closeInteg (s : State) (n : Nat) (x : BatString) : BatString :=
  let g := s.cfg.strings.get n
  let dt : Int := s.stepNs x
  let iStep := if x.fast then (if x.icnt > 0 then sat32 (divRhe x.isum x.icnt) else x.iHold) else x.iFrame
  let dq0 := if x.fast then iStep * dt else x.iHold * (dt - s.frameNs) + x.iFrame * s.frameNs
  let dq := if dq0 < 0 then -(divRhe (-dq0 * g.etaChg) 1000000) else dq0
  let q := clampI (-x.fccNas) x.fccNas (x.qRem - dq)
  let up := x.overC iStep g.fastFrac
  let down := !x.overC (2 * iStep) g.fastFrac
  let loss := divRhe ((dq.natAbs : Int) * s.cfg.est.kqPpm * 100) x.fccNas + divRhe (dt * s.cfg.est.ktPpm) nasPerMah
  let k := if loss ≥ x.k then 0 else x.k - loss
  { x with
    iStep := iStep, qRem := q, disAcc := if dq > 0 then x.disAcc + dq else x.disAcc
    fast := if up then true else if down then false else x.fast
    iHold := iStep, elapsed := 0, isum := 0, icnt := 0, closeDue := false, closed := true, rested := false
    senseLost := !x.senseAny, senseAny := false, k := if x.senseAny then k else divRhe k 2
    refDis := if dq > 0 then x.refDis + dq else x.refDis, refIn := x.refIn - dq, vcTime := x.vcTime + natOf dt }

/-- The rest timer over one closed step (R239). -/
def restStep (s : State) (n : Nat) (dt : Nat) (x : BatString) : BatString :=
  let g := s.cfg.strings.get n
  match x.voltage with
  | none => x
  | some v =>
    let still := decide ((x.iStep.natAbs : Int) * 1000000 ≤ s.cfg.est.restIPpm * x.fccMah)
    let near := match x.restMark with
      | none => true
      | some m => decide (((v - m).natAbs : Int) ≤ s.cfg.est.restDv * g.cells)
    if !still || !near then { x with restTime := 0, restMark := none, restSince := 0 }
    else
      let since := x.restSince + dt
      if x.restMark.isNone then { x with restTime := dt, restMark := some v, restSince := 0 }
      else if since ≥ 60000000000 then { x with restTime := x.restTime + dt, restMark := some v, restSince := 0 }
      else { x with restTime := x.restTime + dt, restSince := since }

/-- A rest correction is due (R239). -/
def restDue (s : State) (x : BatString) : Bool :=
  x.closed && x.voltage.isSome && decide (x.restTime ≥ s.cfg.est.restTimeS * 1000000000)

/-- The rest correction (R239), which is also a reference of R240 up to 500,000 ppm. -/
def restCorrect (s : State) (n : Nat) (x : BatString) : BatString :=
  let v := x.voltage.getD 0
  let soc := socOcv (s.cfg.strings.get n) v
  let x1 := { x with qRem := divRhe (soc * x.fccNas) 1000000, k := 1000000, discordant := false, rested := true
                     restTime := 0, restMark := some v, restSince := 0 }
  if soc ≤ 500000 then { x1 with refSoc := some soc, refDis := 0, refIn := 0 } else x1

/-- The step qualifies for the compensated voltage (R241). -/
def voltDue (s : State) (n : Nat) (x : BatString) : Bool :=
  let span := x.vcHi.getD x.iStep - x.vcLo.getD x.iStep
  x.closed && !x.rested && x.voltage.isSome && decide (x.vcTime ≥ s.cfg.est.vcIntervalS * 1000000000) &&
    decide ((x.iStep.natAbs : Int) * 1000000 ≤ s.cfg.est.vcIMaxPpm * x.fccMah) &&
    decide (span * 1000000 ≤ s.cfg.est.vcDiPpm * x.fccMah) && decide ((s.zOf n x).2 > 0)

/-- The compensated voltage as a SoC (R241). -/
def compensated (s : State) (n : Nat) (x : BatString) : Int :=
  socOcv (s.cfg.strings.get n) (sat32 (x.voltage.getD 0 + divRhe (x.iStep * (s.zOf n x).1) 1000000))

/-- The evaluation of R241 is taken: its interval starts anew. -/
def voltTaken (soc : Int) (x : BatString) : BatString := { x with socV := soc, vcTime := 0, vcLo := none, vcHi := none }

/-- The compensated voltage and its correction (R241). -/
def voltCorrect (s : State) (n : Nat) (x : BatString) : BatString :=
  let soc := compensated s n x
  let zc := (s.zOf n x).2
  let x1 := voltTaken soc x
  if x.discordant then x1
  else
    let g := divRhe ((s.cfg.est.wMax * (1000000 - x.k)).tdiv 1000000 * zc) 1000000
    let c := x.socC + divRhe (g * (soc - x.socC)) 1000000
    let kv := divRhe (s.cfg.est.vcConfMax * zc) 1000000
    { x1 with qRem := divRhe (c * x.fccNas) 1000000, k := if x.k < kv then x.k + divRhe (g * (kv - x.k)) 1000000 else x.k }

/-- INIT ends at the first voltage with a resting current, or at the first step that qualifies for R241 (R250). -/
def initEnd (s : State) (n : Nat) (x : BatString) : BatString :=
  if !x.init then x
  else
    let rest := decide ((x.iStep.natAbs : Int) * 1000000 ≤ s.cfg.est.restIPpm * x.fccMah)
    let set := fun (soc : Int) (x : BatString) =>
      { x with init := false, qRem := divRhe (soc * x.fccNas) 1000000, k := s.cfg.est.kInit, socV := soc }
    match x.voltage with
    | some v =>
      if rest then set (socOcv (s.cfg.strings.get n) v) x
      else if voltDue s n x then
        let soc := compensated s n x
        set soc (voltTaken soc x)
      else x
    | none => x

/-- A step becomes discordant (R242). -/
def discordDue (s : State) (x : BatString) : Bool :=
  !x.discordant && decide (x.qRem ≤ 0 ∧ x.socV > s.cfg.est.discSoc)

/-- The discordance test (R242). -/
def discordStep (s : State) (x : BatString) : BatString :=
  if discordDue s x then
    { x with discordant := true, relearn := true, k := if x.k < s.cfg.est.kDisc then x.k else s.cfg.est.kDisc }
  else x

/-- SoC for capping and discharge limit (R245). -/
def capStep (s : State) (n : Nat) (x : BatString) : BatString :=
  let g := s.cfg.strings.get n
  let soc := if x.discordant then (if x.socC < x.socV then x.socC else x.socV) else x.socC
  let cap := clampI 0 1000000 soc
  let taper := if g.socTaper > 0 then g.socTaper else 1
  let lim := divRhe (g.disPowerMax * (if cap < taper then cap else taper)) taper
  { x with socCap := cap, disLimit := if x.ended then 0 else if lim > g.disFloor then lim else g.disFloor
           zString := (s.zOf n x).1 }

/-! ### Cycle records in battery memory (R248, R249) -/

/-- The 32 bytes of a cycle record, its CRC-32C the last four; the places of the fields before it are the model's (DESIGN CHOICE,
log entry 53). -/
def CycleRec.bytes (r : CycleRec) : List Byte :=
  let l := leBytes 4 r.seq ++ leBytes 4 r.cycles ++ leInt 8 r.disAcc ++ leBytes 4 r.fccMah ++ leBytes 8 (b2n r.relearn)
  l ++ leBytes 4 (crc32c l)

/-- A copy of a cycle record, where its CRC-32C verifies. -/
def readRecord (l : List Byte) : Option CycleRec :=
  if l.length = 32 ∧ crc32c (l.take 28) = field l 28 4 then
    some { seq := field l 0 4, cycles := field l 4 4, disAcc := ofBits 64 (field l 8 8), fccMah := field l 16 4
           relearn := field l 20 1 ≠ 0 }
  else none

/-- Copy 0 or 1 of a string's cycle record. -/
def State.recCopy (s : State) (n copy : Nat) : Option CycleRec := readRecord (s.bat.crecs.get (2 * n + copy))

/-- The newer valid copy of a string's cycle record (R249). -/
def State.cycleRec (s : State) (n : Nat) : Option CycleRec :=
  match s.recCopy n 0, s.recCopy n 1 with
  | some a, some b => if b.seq ≤ a.seq then some a else some b
  | some a, none => some a
  | none, b => b

/-! ### Queued writes (R247, R248) -/

/-- A write joins the queue of 64, or is dropped and counted. -/
def queueZ (w : ZWrite) (s : State) : State :=
  if s.bat.zq.length < 64 then { s with bat := { s.bat with zq := s.bat.zq ++ [w] } }
  else
    let s1 := raiseIf (!s.bat.zDropRaised) kZtableDrop (if w.isCell then 64 + w.index else w.index) 0 s
    { s1 with bat := { s1.bat with zDropped := inc32 s1.bat.zDropped, zDropRaised := true } }

/-- A string's cycle record joins the queue (R248). -/
def queueRecord (n : Nat) (x : BatString) (s : State) : State :=
  queueZ { isCell := false, index := n, crec := { cycles := x.cycles, disAcc := x.disAcc, fccMah := x.fccMah, relearn := x.relearn } }
    (setStr n (fun x => { x with recFrames := 0 }) s)

/-- One queued write reaches battery memory; a cycle record takes the older of its two copies (R249). -/
def writeZ (w : ZWrite) (s : State) : State :=
  if w.isCell then { s with bat := { s.bat with ztab := s.bat.ztab.put (128 * w.index + w.cellIx) w.cell } }
  else
    let (copy, seq) := match s.recCopy w.index 0, s.recCopy w.index 1 with
      | some a, some b => (if b.seq ≤ a.seq then 1 else 0, max a.seq b.seq)
      | some a, none => (1, a.seq)
      | none, some b => (0, b.seq)
      | none, none => (0, 0)
    let r : CycleRec := { w.crec with seq := (seq + 1) % 4294967296 }
    { s with bat := { s.bat with crecs := s.bat.crecs.put (2 * w.index + copy) r.bytes } }

/-! ### The estimator's frame -/

/-- Conditions that inhibit charging (R232): a temperature outside the window, a silent module, an alarm that ends charge. -/
def State.inhibits (s : State) (n : Nat) : Bool :=
  let g := s.cfg.strings.get n
  (s.modsOf n).any fun m =>
    let x := s.module m
    x.silent || x.temp.any (fun t => decide (t < g.chgTMin ∨ g.chgTMax < t)) || bitAt x.status 14 || bitAt x.status 15

/-- v_cv of R232. -/
def State.vCv (s : State) (n : Nat) : Int :=
  let g := s.cfg.strings.get n
  let own := (g.cells : Int) * g.vCellChg
  let mods := (s.modsOf n).filterMap fun m => (s.module m).chgV
  if mods.isEmpty then own else (if sumI mods < own then sumI mods else own)

/-- The mode that the string's stage would take if the string were not END (R244). -/
def State.wouldMode (s : State) (n : Nat) : Option Mode :=
  (s.strStage n).map fun st =>
    let c := s.cfg.stages.get st
    let x := s.stage st
    if s.chargeOwned st then ((s.bat.cur.strings.get n).chgMode).getD (x.cmdMode.getD c.defaultMode)
    else x.cmdMode.getD c.defaultMode

/-- The string's average cell is at most (or above) a voltage, where the voltage point is valid. -/
def avgAtMost (g : StringCfg) (v : Option Int) (mv : Int) : Bool := v.any fun v => decide (v ≤ (g.cells : Int) * mv)

/-- The end-of-discharge test of one frame (R243). -/
def State.eodTest (s : State) (n : Nat) (x : BatString) : Bool :=
  let g := s.cfg.strings.get n
  let dis := (s.strStage n).any fun st => (s.stage st).mode = .discharge
  let cell := minI ((s.modsOf n).filterMap fun m => if (s.module m).silent then none else (s.module m).minCell)
  decide (x.iStep > 0) && dis && (cell.any (fun c => decide (c ≤ g.vCellEod)) || avgAtMost g x.voltage g.vAvgEod)

/-- The frames in a row in which the test of R243 has held; where a step closes in the frame, on that step's current. -/
def eodCount (s : State) (n : Nat) (x : BatString) : BatString :=
  { x with eodRun := if !x.ended && s.eodTest n x then min (x.eodRun + 1) 255 else 0 }

/-! ### The order of a closed step (Table 8.4) -/

/-- What a closed step does before its corrections: integration, the count of the end-of-discharge test, the rest timer, the end of
INIT. -/
def closeWork (s : State) (n : Nat) (x : BatString) : BatString :=
  initEnd s n (restStep s n (s.stepNs x) (eodCount s n (closeInteg s n x)))

/-- End of discharge is due: the test has held in eod_frames frames (R243). -/
def eodDue (s : State) (n : Nat) (x : BatString) : Bool :=
  !x.ended && !x.closeDue && decide (0 < x.eodRun ∧ (s.cfg.strings.get n).eodFrames ≤ x.eodRun)

/-- Charge termination is due: the termination current has persisted in CV (R232). -/
def termDue (s : State) (n : Nat) (x : BatString) : Bool :=
  let g := s.cfg.strings.get n
  g.chargeAuto && x.charge = .cv && !x.closeDue && decide (0 < x.termRun ∧ g.termFrames ≤ x.termRun)

/-- Something of a closed step's work stands before its discordance test. -/
def workDue (s : State) (n : Nat) (x : BatString) : Bool :=
  eodDue s n x || termDue s n x || restDue s x || voltDue s n x

/-- The end of a closed step's work: discordance, SoC for capping, limit. -/
def endWork (s : State) (n : Nat) (x : BatString) : BatString := capStep s n (discordStep s x)

/-- A string that reaches end of discharge (R243). -/
def endString (x : BatString) : BatString :=
  { x with ended := true, qRem := 0, discordant := false, refSoc := some 0, refDis := 0, refIn := 0, eodRun := 0, endRun := 0 }

/-- A full-charge anchor as far as charge, confidence and the flag go (R240). -/
def anchorString (x : BatString) : BatString := { x with qRem := x.fccNas, k := 1000000, discordant := false, anchored := true }

/-- The discharge limit that the lehr of the same frame sees: what a step that closes in this frame will leave (the lehr runs
after the estimator, Table 2.7). -/
def State.disLimitAhead (s : State) (n : Nat) : Int :=
  let x := s.str n
  if !x.closeDue then x.disLimit
  else
    let y := closeWork s n x
    let y1 := if eodDue s n y then endString y else if termDue s n y then anchorString y else y
    let z := if restDue s y1 then restCorrect s n y1 else if voltDue s n y1 then voltCorrect s n y1 else y1
    (endWork s n z).disLimit

/-- One string at the opening of a frame: its inputs, the open step, the run counts (R229, R235, R241, R243, R244, R232). -/
def strOpen (n : Nat) (s : State) : State :=
  let g := s.cfg.strings.get n
  let e := s.cfg.est
  let x := s.bat.cur.strings.get n
  let p := s.pnt.shadow.get g.vPt
  let v := if p.sampled && !p.invalid then some p.value else none
  let i := if x.cntF > 0 then sat32 (divRhe x.sumF x.cntF) else x.iHold
  let el := x.elapsed + 1
  let close := el = (if x.fast then s.stepFast else s.stepSlow) || (!x.fast && x.overC i g.fastFrac)
  let far := x.zstep.any fun z => decide (((i - z.iNew).natAbs : Int) * 1000000 > e.zHoldPpm * x.fccMah)
  let x1 := { x with
    voltage := v, iFrame := i, elapsed := el, closeDue := close, closed := false, rested := false
    isum := if x.fast then x.isum + x.sumF else x.isum, icnt := if x.fast then x.icnt + x.cntF else x.icnt
    senseAny := x.senseAny || decide (x.cntF > 0)
    vcLo := some (match x.vcLo with | some a => if i < a then i else a | none => i)
    vcHi := some (match x.vcHi with | some a => if i > a then i else a | none => i)
    zstep := if far then none else x.zstep
    termRun := if x.charge = ChargeState.cv && decide (-i ≤ g.iTerm) then min (x.termRun + 1) 1048576 else 0
    cvFrames := if x.charge = ChargeState.cv then min (x.cvFrames + 1) 4294967295 else 0
    inhibRun := if x.charge = ChargeState.inhibit && !s.inhibits n then min (x.inhibRun + 1) 64 else 0
    recFrames := min (x.recFrames + 1) 65536 }
  let up := x1.ended && s.wouldMode n = some .charge && v.isSome && !avgAtMost g v (g.vAvgEod + 100)
  setStr n (fun _ => { (if close then x1 else eodCount s n x1) with endRun := if up then min (x1.endRun + 1) 64 else 0 }) s

/-- ESTIMATOR_FRAME at the opening of a frame (R235). -/
def estimatorFrame (s : State) : State :=
  let due := s.bat.zpend.filter fun p => decide (p.2.2 ≤ s.tim.frame)
  let b := { s.bat with
    nxt := s.bat.cur
    zlive := due.foldl (fun t p => t.put p.1 p.2.1) s.bat.zlive
    zpend := s.bat.zpend.filter fun p => decide (s.tim.frame < p.2.2)
    modules := s.bat.modules.modifyAll ((List.range 64).filter s.modUsed) fun _ m => { m with age := min (m.age + 1) 4294967295 } }
  s.strsUsed.foldl (fun s n => strOpen n s) { s with bat := b }

/-- The sums of the current points of the frame that ends, taken before R87 starts them anew (R229, R235). -/
def batClose (s : State) : State :=
  s.strsUsed.foldl (fun s n =>
    let a := s.pnt.acc.get (s.cfg.strings.get n).iPt
    setStrBoth n (fun x => { x with sumF := a.sum, cntF := a.n }) s) s

/-- A transition of the charge controller. -/
def chargeTo (st : ChargeState) (x : BatString) : BatString :=
  let m : Option Mode := match st with
    | .idle => some .idle | .cc => some .charge | .cv | .float => some .trim | .inhibit => some .idle | .suspended => x.chgMode
  { x with charge := st, chgMode := m, termRun := 0, cvFrames := 0, inhibRun := 0 }

/-- The charge controller of one string at the end of the frame's work (Table 8.3). -/
def chargeStep (n : Nat) (s : State) : State :=
  let g := s.cfg.strings.get n
  let x := s.str n
  let run := (s.strStage n).any fun st => (s.stage st).st = .running
  let normal := s.shr.hold.st = .normal
  let inh := s.inhibits n
  if !g.chargeAuto then s
  else if !normal then (if x.charge = .suspended then s else setStr n (chargeTo .suspended) s)
  else if !run then setStr n (chargeTo .idle) s
  else match x.charge with
    | .idle => if !inh && !x.ended then setStr n (chargeTo .cc) s else s
    | .suspended =>
      setStr n (fun x => { chargeTo .cc x with chgMode := (s.strStage n).map fun st => handbackMode (s.cfg.stages.get st) }) s
    | .inhibit => s
    | st =>
      if inh then raise kChargeInhibit n 0 (setStr n (chargeTo .inhibit) s)
      else if st = .cc then
        (if x.voltage.any (fun v => decide (v ≥ s.vCv n)) then
          setStr n (fun x => { chargeTo .cv x with chgV := some (s.vCv n) }) s else s)
      else if st = .float then
        (if decide (x.socCap ≤ g.rechargeSoc) || x.voltage.any (fun v => decide (v < (g.cells : Int) * g.vCellRecharge)) then
          setStr n (chargeTo .cc) s else s)
      else s

/-- The current target in CC (R233): with no bus voltage the budget's current is a free value. -/
def chargeTarget (count n : Nat) (s : State) : State :=
  let g := s.cfg.strings.get n
  let x := s.str n
  if !g.chargeAuto || x.charge ≠ .cc then s
  else
    let head := if s.leh.cur.headroom > 0 then s.leh.cur.headroom else 0
    let bus := s.pt 0x380
    let mods := ((s.modsOf n).filterMap fun m => (s.module m).chgI).filter (· ≠ 0)
    let top := (s.strStage n).map fun st => (s.cfg.stages.get st).iChgMax
    let low := (minI ([g.iChgSet] ++ mods ++ top.toList)).getD 0
    if bus > 0 then
      let b := divRhe (head * g.chgShare * 1000) (1000000 * (max 1 count : Nat) * bus)
      setStr n (fun x => { x with chgI := some (if b < low then b else low) }) s
    else
      let (v, s1) := takeFree s
      setStr n (fun x => { x with chgI := some (if v < low then v else low) }) s1

/-- String flags (Table 8.7). -/
def BatString.flags (x : BatString) : Nat :=
  b2n x.init + 2 * b2n x.discordant + 4 * b2n x.ended + 8 * b2n x.relearn + 16 * b2n x.fast +
    32 * b2n (decide (x.restTime > 0)) + 64 * b2n x.senseLost

/-- Hold-up seconds (R251). -/
def BatString.seconds (x : BatString) : Int :=
  if x.iStep ≥ 100 then sat32 (divRhe (divRhe (x.socCap * x.fccNas) 1000000) (x.iStep * 1000000000)) else 65535

/-- Code of the charge controller's state (Table 8.7). -/
def chargeCode : ChargeState → Nat
  | .idle => 0
  | .cc => 1
  | .cv => 2
  | .float => 3
  | .inhibit => 4
  | .suspended => 5

/-- The samples that a closed step supplies (R253). -/
def strSamples (n : Nat) (s : State) : State :=
  let x := s.str n
  let b := 0x600 + 16 * n
  if !x.closed then s
  else
    let mods := (s.modsOf n).map s.module
    let opt := fun (j : Nat) (v : Option Int) => match v with | some v => [(b + j, v)] | none => []
    sampleAll ([(b, (x.flags : Int))] ++ opt 1 x.voltage ++
      [(b + 2, x.iStep), (b + 3, clampI 0 1000000 x.socC), (b + 4, x.socV), (b + 5, x.socCap), (b + 6, x.k),
       (b + 7, (x.fccMah : Int)), (b + 8, sat32 (divRhe x.qRem nasPerMah)), (b + 9, x.seconds), (b + 10, x.disLimit),
       (b + 11, (x.cycles : Int))] ++ opt 12 (minI (mods.filterMap (·.minCell))) ++ opt 13 (maxI (mods.filterMap (·.temp))) ++
      [(b + 14, if (s.cfg.strings.get n).chargeAuto then (chargeCode x.charge : Int) else 0), (b + 15, sat32 x.zString)]) s

/-- The end of the estimator's work of a frame: the charge controllers, their targets and the samples (R231 to R233). -/
def estimatorEnd (s : State) : State :=
  let s1 := s.strsUsed.foldl (fun s n => chargeStep n s) s
  let cc := (s.strsUsed.filter fun n => (s1.str n).charge = .cc && (s.cfg.strings.get n).chargeAuto).length
  let s2 := s.strsUsed.foldl (fun s n => chargeTarget cc n s) s1
  s.strsUsed.foldl (fun s n => strSamples n s) s2

/-- One warning level (R251). -/
def levelStep (falling : Bool) (q : Int) (l : Level) (live : Bool) : Bool :=
  if falling then (if live then !decide (q > l.value + l.hyst) else decide (q ≤ l.value))
  else if live then !decide (q < l.value - l.hyst) else decide (q ≥ l.value)

/-- The warning levels of one string at the boundary that brings its results into effect (R251). -/
def strLevels (n : Nat) (s : State) : State :=
  let g := s.cfg.strings.get n
  let x := s.bat.cur.strings.get n
  if x.init then s
  else
    let one := fun j : Nat =>
      let l := nth g.levels j
      let live := bvGet x.levels j
      if j = 4 && l.value = 0 then x.anchored
      else levelStep (decide (j < 3)) (if j < 3 && l.seconds then x.seconds else x.socCap) l live
    let now := bvOf 5 one
    let ev := bvOf 32 fun i => decide (5 * n ≤ i ∧ i < 5 * n + 5) && bvGet now (i - 5 * n) && !bvGet x.levels (i - 5 * n)
    let s1 := setStrBoth n (fun x => { x with levels := now, anchored := false }) s
    { s1 with bat := { s1.bat with levelEvent := s1.bat.levelEvent ||| ev } }

/-- The estimator's results take effect: modes and targets of the charge controllers, warning levels (R231, R251). -/
def estimatorApply (s : State) : State :=
  let s1 := s.strsUsed.foldl (fun s n => strLevels n s) { s with bat := { s.bat with cur := s.bat.nxt } }
  s1.batteryStages.foldl (fun s st =>
    let x := s.bat.cur.strings.get (s.cfg.stages.get st).string
    if s.chargeOwned st && s.shr.hold.st = .normal then
      setStage st (fun y => { y with vTarget := x.chgV.getD y.vTarget, iTarget := x.chgI.getD y.iTarget }) s
    else s) s1

/-! ### Rows -/

/-- A current step begins an impedance update (R246): the last reading of each module before the step frame is kept. -/
def zstepBegin (n : Nat) (old : BatString) (s : State) : State :=
  let x := s.str n
  let di := x.iStep - old.iHold
  if !(old.fast && x.overC di s.cfg.est.zStepPpm && di ≠ 0) then s
  else
    let f := s.tim.frame - 1
    let s1 := setStr n (fun x => { x with zstep := some { frame := f, di := di, iNew := x.iStep, sidx := x.sidx } }) s
    (s.modsOf n).foldl (fun s m =>
      setModule m (fun y => { y with vBefore := if y.voltFrame < f then y.voltage else y.vPrev, vAfter := none }) s) s1

/-- Whole discharges counted into the cycle count (R248). -/
def countCycles (n : Nat) (s : State) : State :=
  let x := s.str n
  let k := (x.disAcc / x.fccNas).toNat
  if k = 0 then s
  else
    let y := { x with cycles := add32 x.cycles k, disAcc := x.disAcc - k * x.fccNas }
    queueRecord n y (setStr n (fun _ => y) s)

/-- The end of a closed step's work, with its message (R242). -/
def finishStep (n : Nat) (s : State) : State :=
  let x := s.str n
  raiseIf (discordDue s x) kDiscordant n 0 (setStr n (endWork s n) s)

/-- INTEGRATION_STEP_CLOSE: the step closes (R235, R238). A correction that falls due in it ends its work. -/
def execIntegrationStepClose (string : Nat) (s : State) : Out :=
  let x := s.str string
  whenDrives (s.strUsed string && x.closeDue) s fun s =>
    let y := closeWork s string x
    let s1 := raiseIf y.senseLost kStringSenseLost string 0 (setStr string (fun _ => y) s)
    let s2 := countCycles string (zstepBegin string x s1)
    if workDue s2 string y then s2 else finishStep string s2

/-- A closed step goes on with what Table 8.4 has after the work just done: a correction that is due waits for its row. -/
def goOn (n : Nat) (s : State) : State :=
  let x := s.str n
  if x.closed && !workDue s n x then finishStep n s else s

/-- Steps 3 and 4 of Table 8.4 come before the corrections. -/
def State.stepsDone (s : State) (n : Nat) : Bool := !eodDue s n (s.str n) && !termDue s n (s.str n)

/-- REST_CORRECTION (R239). -/
def execRestCorrection (string : Nat) (s : State) : Out :=
  whenDrives (s.strUsed string && s.stepsDone string && restDue s (s.str string)) s fun s =>
    finishStep string (raise kRestCorrection string 0 (setStr string (restCorrect s string) s))

/-- VOLTAGE_CORRECTION (R241). -/
def execVoltageCorrection (string : Nat) (s : State) : Out :=
  let x := s.str string
  whenDrives (s.strUsed string && s.stepsDone string && !restDue s x && voltDue s string x) s fun s =>
    finishStep string (setStr string (voltCorrect s string) s)

/-- Full-charge capacity that an anchor relearns from a valid reference (R240). -/
def relearnFcc (design : Nat) (fccStep : Int) (x : BatString) (soc : Int) : Int :=
  let f : Int := x.fccMah
  let raw := (divRhe (x.refIn * 1000000) (1000000 - soc)).tdiv nasPerMah
  let d := (f * fccStep).tdiv 1000000
  clampI ((design : Int).tdiv 2) (((design : Int) * 6).tdiv 5) (clampI (f - d) (f + d) raw)

/-- The full-charge anchor (R240). -/
def fullAnchor (n : Nat) (s : State) : State :=
  let x := s.str n
  let s1 :=
    if !x.relearn then s
    else
      match x.refSoc with
      | some soc =>
        if x.refDis * 20 ≤ x.fccNas then
          let f := relearnFcc (s.cfg.strings.get n).designMah s.cfg.est.fccStep x soc
          let y := { x with fccMah := natOf f, relearn := false }
          raise kRelearnDone n 0 (queueRecord n y (setStr n (fun _ => y) s))
        else raise kRelearnRefused n 0 s
      | none => raise kRelearnRefused n 0 s
  setStr n (fun x => capStep s n (anchorString x)) s1

/-- CHARGE_TERMINATION: the termination current has persisted; FLOAT with a full anchor (R232, R240). -/
def execChargeTermination (string : Nat) (s : State) : Out :=
  let g := s.cfg.strings.get string
  whenDrives (s.strUsed string && !eodDue s string (s.str string) && termDue s string (s.str string)) s fun s =>
    goOn string (setStr string (fun x => { chargeTo .float x with chgV := some ((g.cells : Int) * g.vCellFloat) }) (fullAnchor string s))

/-- CHARGE_TIMEOUT: cv_timeout frames in CV; FLOAT without an anchor (R232). -/
def execChargeTimeout (string : Nat) (s : State) : Out :=
  let g := s.cfg.strings.get string
  let x := s.str string
  whenDrives (s.strUsed string && g.chargeAuto && x.charge = .cv && decide (0 < x.cvFrames ∧ g.cvTimeout ≤ x.cvFrames)) s fun s =>
    raise kChargeTimeout string 0
      (setStr string (fun x => { chargeTo .float x with chgV := some ((g.cells : Int) * g.vCellFloat) }) s)

/-- INHIBIT_CLEAR: every inhibiting condition absent for 64 consecutive frames (R232). -/
def execInhibitClear (string : Nat) (s : State) : Out :=
  let x := s.str string
  whenDrives (s.strUsed string && x.charge = .inhibit && decide (x.inhibRun ≥ 64)) s (setStr string (chargeTo .cc))

/-- EOD_REACHED: the test held in eod_frames consecutive frames and the string enters END (R243). -/
def execEodReached (string : Nat) (s : State) : Out :=
  whenDrives (s.strUsed string && eodDue s string (s.str string)) s fun s =>
    goOn string (raise kEodReached string 0 (setStr string (fun x => capStep s string (endString x)) s))

/-- END_CLEAR: 64 consecutive frames in CHARGE above v_avg_eod + 100 mV (R244). -/
def execEndClear (string : Nat) (s : State) : Out :=
  let x := s.str string
  whenDrives (s.strUsed string && x.ended && decide (x.endRun ≥ 64)) s
    (setStr string (fun x => capStep s string { x with ended := false, endRun := 0 }))

/-- IMPEDANCE_UPDATE: a module's voltage step updates its cell (R246, R247). -/
def execImpedanceUpdate (module : Nat) (s : State) : Out :=
  let m := s.module module
  let n := (s.cfg.modules.get module).string
  match (s.str n).zstep, m.vBefore, m.vAfter, m.temp with
  | some z, some v0, some v1, some t =>
    whenDrives (s.modUsed module && s.strUsed n && !m.silent && z.di ≠ 0) s fun s =>
      let s0 := setModule module (fun m => { m with vBefore := none, vAfter := none }) s
      let num := -((v1 - v0) * 1000000)
      let zs := if z.di > 0 then divRhe num z.di else divRhe (-num) (-z.di)
      if zs ≤ 0 ∨ s.cfg.est.zMax < zs then s0
      else
        let ix := 8 * z.sidx + min (s.band t) 7
        let old := s.bat.zlive.get (128 * module + ix)
        let cell : ZCell := { z := if old.n = 0 then zs else old.z + shrRhe (zs - old.z) s.cfg.est.zShift, n := min (old.n + 1) 255 }
        let s1 := queueZ { isCell := true, index := module, cellIx := ix, cell := cell } s0
        if s0.bat.zq.length < 64 then
          { s1 with bat := { s1.bat with zpend := s1.bat.zpend ++ [(128 * module + ix, cell, s.tim.frame + 2)] } }
        else s1
  | _, _, _, _ => .next s

/-- CYCLE_RECORD_QUEUE: every 65,536 frames (R248). -/
def execCycleRecordQueue (string : Nat) (s : State) : Out :=
  whenDrives (s.strUsed string && decide ((s.str string).recFrames ≥ 65536)) s fun s => queueRecord string (s.str string) s

/-- MODULE_SILENT: the module's points have reached an age of 4 x module_poll frames (R230). -/
def execModuleSilent (module : Nat) (s : State) : Out :=
  let m := s.module module
  whenDrives (s.modUsed module && !m.silentRaised && decide (m.age ≥ 4 * s.cfg.est.modulePoll)) s fun s =>
    raise kModuleSilent (64 + module) 0 (setModule module (fun m => { m with silent := true, silentRaised := true }) s)

/-- Bits of BAT_LEVEL_EVENT written 1 are cleared (R251). -/
def clearLevels (mask : Word) (s : State) : State :=
  { s with bat := { s.bat with levelEvent := s.bat.levelEvent &&& ~~~mask } }

/-! ### Module readings (R230, R439) -/

/-- Alarm bits of BatteryStatus (R439). -/
def alarmBits (w : Nat) : Bool := [15, 14, 12, 11, 9, 8].any (bitAt w)

/-- A reading of a module is taken in: its value, its points, its age, its alarm. -/
def moduleReading (m code w : Nat) (s : State) : State :=
  let g := s.cfg.modules.get m
  let b := 0x680 + 4 * m
  let s0 := setModule m (fun x => { x with age := 0, silent := false, silentRaised := false }) s
  if code = 0x09 then
    let z := (s.str g.string).zstep
    let late := z.any fun z => decide (z.frame + s.cfg.est.zSettle ≤ s.tim.frame)
    setModule m (fun x => { x with vPrev := x.voltage, voltage := some (w : Int), voltFrame := s.tim.frame
                                   vAfter := if late && x.vBefore.isSome && x.vAfter.isNone then some (w : Int) else x.vAfter }) s0
  else if code = 0x08 then
    let t := (w : Int) * 10 - 27315
    sample (b + 2) t (setModule m (fun x => { x with temp := some t }) s0)
  else if code = 0x16 then
    let bad := alarmBits w
    let s1 := sample (b + 3) w (setModule m (fun x => { x with status := w, alarmRaised := bad }) s0)
    raiseIf (bad && !(s.module m).alarmRaised) kModuleAlarm (64 + m) w s1
  else if code = 0x14 then setModule m (fun x => { x with chgI := some (w : Int) }) s0
  else if code = 0x15 then setModule m (fun x => { x with chgV := some (w : Int) }) s0
  else
    let s1 := if code = g.minvCmd then sample b w (setModule m (fun x => { x with minCell := some (w : Int) }) s0) else s0
    if code = g.maxvCmd then sample (b + 1) w (setModule m (fun x => { x with maxCell := some (w : Int) }) s1) else s1

/-! ### Commands (Table 8.6) -/

/-- CMD_BAT_SOC_SET. -/
def cmdBatSocSet (string soc conf : Nat) (s : State) : CmdOut :=
  unlessRefused
    [(!s.strUsed string, rsAbsent, 0), (decide (soc > 1000000), rsRange, 4), (decide (conf > 1000000), rsRange, 8)] s fun s =>
    wrote (setStrBoth string (fun x => capStep s string { x with
      qRem := divRhe ((soc : Int) * x.fccNas) 1000000, k := conf, init := false }) s) [(0x0A, string, 0)]

/-- CMD_BAT_RELEARN (R242). -/
def cmdBatRelearn (string : Nat) (s : State) : CmdOut :=
  unlessRefused [(!s.strUsed string, rsAbsent, 0)] s fun s =>
    done (setStrBoth string (fun x => { x with relearn := true }) s)

/-- CMD_BAT_CYCLES_SET (R248). -/
def cmdBatCyclesSet (string count : Nat) (s : State) : CmdOut :=
  unlessRefused [(!s.strUsed string, rsAbsent, 0)] s fun s =>
    let old := (s.bat.cur.strings.get string).cycles
    let s1 := setStrBoth string (fun x => { x with cycles := count, disAcc := 0, recFrames := 0 }) s
    wrote (queueRecord string (s1.str string) s1) [(0x0A, string, 1)] (leBytes 4 old)

/-- CMD_BAT_ZTABLE_RESET: the module's table returns to z_default with counts 0 (R249). -/
def cmdBatZtableReset (module : Nat) (s : State) : CmdOut :=
  unlessRefused [(!s.modUsed module, rsAbsent, 0)] s fun s =>
    let z := (s.cfg.strings.get (s.cfg.modules.get module).string).zDefault
    let ks := (List.range 128).map (128 * module + ·)
    let f := fun (k : Nat) (_ : ZCell) => ({ z := nth z (k - 128 * module), n := 0 } : ZCell)
    done { s with bat := { s.bat with
      ztab := s.bat.ztab.modifyAll ks f, zlive := s.bat.zlive.modifyAll ks f
      zq := s.bat.zq.filter fun w => !(w.isCell && w.index = module)
      zpend := s.bat.zpend.filter fun p => !ks.contains p.1 } }

/-- CMD_BAT_ZTABLE_READ: a deferred query of the cells as they stand now (R252, R480). -/
def cmdBatZtableRead (h : CmdHeader) (module : Nat) (s : State) : CmdOut :=
  unlessRefused [(!s.modUsed module, rsAbsent, 0)] s fun s =>
    let cell := fun k : Nat =>
      let c := s.bat.ztab.get (128 * module + k)
      leBytes 4 (natOf c.z % 16777216 + 16777216 * c.n)
    later { s with hst := { s.hst with defData := s.hst.defData.put h.mbox ((List.range 128).flatMap cell) } }

end Sys2Proof.Machine
end

