-- ==== Sys2Proof/Machine/Pmbus.lean ====
section
/-! DEFINITION. The PMBus ports: polls, writes, host transactions, alerts and recovery (R432 to R440). -/
namespace Sys2Proof.Machine

/-- A change of one PMBus port. -/
def setPmb (p : Nat) (f : PmbPort → PmbPort) (s : State) : State :=
  { s with pmb := { s.pmb with ports := s.pmb.ports.modify p f } }

/-- The PMBus port p. -/
def State.pmbPort (s : State) (p : Nat) : PmbPort := s.pmb.ports.get p

/-- A device on a PMBus port. -/
inductive PmbDev | rect (r : Nat) | module (m : Nat)
deriving DecidableEq, Repr

/-- Rectifiers and modules of a port with their addresses, in ascending address: a device's rank is its position. -/
def State.pmbDevs (s : State) (p : Nat) : List (Nat × PmbDev) :=
  let rs := (s.rectsUsed.filter fun r => (s.cfg.rects.get r).port = p).map fun r => ((s.cfg.rects.get r).address, PmbDev.rect r)
  let ms := ((List.range 64).filter fun m => s.modUsed m && (s.cfg.modules.get m).port = p).map fun m =>
    ((s.cfg.modules.get m).address, PmbDev.module m)
  sortBy (fun a b => decide (a.1 < b.1)) (rs ++ ms)

/-- The device at a position of a port. -/
def State.pmbDev (s : State) (p pos : Nat) : Option (Nat × PmbDev) := (s.pmbDevs p)[pos]?

/-- Position of an address on a port. -/
def State.pmbPos (s : State) (p addr : Nat) : Option Nat :=
  let i := ((s.pmbDevs p).takeWhile fun d => d.1 ≠ addr).length
  if i < (s.pmbDevs p).length then some i else none

/-- Position of a rectifier on its port. -/
def State.rectPos (s : State) (r : Nat) : Nat :=
  let g := s.cfg.rects.get r
  (s.pmbPos g.port g.address).getD 0

/-- Instance of a device's messages (R434). -/
def pmbInst (p pos : Nat) : Nat := 16 + 16 * p + pos

/-- LINEAR11 as Y x 2^N scaled by a factor, rounded half to even (R438). -/
def linear11 (w : Nat) (factor : Int) : Int :=
  let y := ofBits 11 (w % 2048)
  let n := ofBits 5 (w / 2048)
  if n ≥ 0 then y * factor * (2 : Int) ^ n.toNat else divRhe (y * factor) ((2 : Int) ^ (-n).toNat)

/-- READ_VOUT: an unsigned mantissa with the exponent of VOUT_MODE, in mV (R438). -/
def linear16 (w : Nat) (n : Int) : Int :=
  if n ≥ 0 then (w : Int) * 1000 * (2 : Int) ^ n.toNat else divRhe ((w : Int) * 1000) ((2 : Int) ^ (-n).toNat)

/-! ### Polls that fall due (R433, R437, R230) -/

/-- Polls that one frame makes due at a position, with the pace accumulators after it: READ_IOUT at poll_hz, the status
group every status_frames, a module's group every module_poll frames. -/
def State.pollsOf (s : State) (pos : Nat) (d : PmbDev) (acc : Tab Nat) : List (Nat × Nat) × Tab Nat :=
  let a := 2 * pos
  match d with
  | .rect r =>
    let st := (s.rectCur r).st
    let frames := acc.get (a + 1) + 1
    let group := decide (frames ≥ s.cfg.marver.statusFrames)
    let acc1 := acc.put (a + 1) (if group then 0 else frames)
    if st = .absent then (if group then [(pos, 0x20)] else [], acc1.put a 0)
    else
      let status := if group then [(pos, 0x79), (pos, 0x88), (pos, 0x8B), (pos, 0x8D)] else []
      if st = .parked then (status, acc1.put a 0)
      else
        let v := acc.get a + s.cfg.marver.pollHz * s.frameNs
        (status ++ List.replicate (v / 1000000000) (pos, 0x8C), acc1.put a (v % 1000000000))
  | .module m =>
    let g := s.cfg.modules.get m
    let x := s.module m
    let frames := acc.get a + 1
    if frames < s.cfg.est.modulePoll then ([], acc.put a frames)
    else
      let found := if x.chgI.isNone || x.chgV.isNone then [(pos, 0x14), (pos, 0x15)] else []
      ([(pos, 0x09), (pos, 0x08), (pos, 0x16), (pos, g.minvCmd), (pos, g.maxvCmd)] ++ found, acc.put a 0)

/-- Due polls of every position of a port, in position order. -/
def State.pollsDue (s : State) (p : Nat) : List (Nat × Nat) × Tab Nat :=
  let ds := s.pmbDevs p
  (List.range ds.length).foldl (fun (l, acc) pos =>
    match ds[pos]? with
    | none => (l, acc)
    | some d => let (l1, acc1) := s.pollsOf pos d.2 acc; (l ++ l1, acc1)) ([], (s.pmbPort p).acc)

/-! ### Issue (R433) -/

/-- The next write of R182 or CLEAR_FAULTS on a port: the rectifiers in index order. -/
def State.writeDue (s : State) (p : Nat) : Option (Nat × Nat) :=
  (s.rectsUsed.filter fun r => (s.cfg.rects.get r).port = p).findSome? fun r =>
    let x := s.rectCur r
    if x.trimDue then some (r, 0x22)
    else if x.opDue.isSome then some (r, 0x01)
    else if x.clearDue then some (r, 0x03)
    else none

/-- A write leaves the list of writes due; the code of a VOUT_TRIM counts as acknowledged until it fails (R182). -/
def markIssued (r code : Nat) (s : State) : State :=
  let c := s.rectCur r
  setRectBoth r (fun x =>
    if code = 0x22 then { x with trimDue := false, lastCode := c.expN.map (trimCode c.trim) }
    else if code = 0x01 then { x with opDue := if x.opDue = c.opDue then none else x.opDue, opSent := c.opDue }
    else { x with clearDue := false }) s

/-- A port goes on with its next transaction ahead of the polls: a status read after an alert, a write, a host transaction.
An alert that waits for its response, a hung bus and a recovery hold everything back (R433, R435, R436). -/
def portNext (p : Nat) (s : State) : State :=
  let x := s.pmbPort p
  if x.active.isSome || x.hung || !x.recoverMbox.isEmpty then s
  else match x.statusFirst with
    | some pos => setPmb p (fun y => { y with active := some (pos, 0), activeKind := 1, statusFirst := none }) s
    | none =>
      if x.alert && !x.alertIgn then s
      else match s.writeDue p with
        | some (r, code) => setPmb p (fun y => { y with active := some (r, code), activeKind := 2 }) (markIssued r code s)
        | none =>
          match x.hostq with
          | [] => s
          | _ => setPmb p (fun y => { y with active := some (0, 0), activeKind := 3 }) s

/-- Every port at the opening of a frame: what is due goes on the bus (RECT_WRITE_ISSUE). -/
def portsNext (s : State) : State := (List.range 8).foldl (fun s p => portNext p s) s

/-! ### Results -/

/-- A device did not acknowledge: PMB_NACK once per excursion, and one more of a rectifier's consecutive failures (R434). -/
def devNack (p pos : Nat) (message : Bool) (s : State) : State :=
  let x := s.pmbPort p
  let s1 := if message && !bvGet x.nackRaised pos then
      raise kPmbNack (pmbInst p pos) 0 (setPmb p (fun y => { y with nackRaised := bvPut y.nackRaised pos true }) s)
    else s
  match s.pmbDev p pos with
  | some (_, .rect r) => setRectBoth r (fun x => { x with nacks := min (x.nacks + 1) 15 }) s1
  | _ => s1

/-- A device acknowledged every byte: its excursion and its consecutive failures end. -/
def devAck (p pos : Nat) (s : State) : State :=
  let s1 := setPmb p (fun y => { y with nackRaised := bvPut y.nackRaised pos false }) s
  match s.pmbDev p pos with
  | some (_, .rect r) => setRectBoth r (fun x => { x with nacks := 0 }) s1
  | _ => s1

/-- A PEC that did not match: PMB_PEC once per excursion; a match ends it (R434). -/
def devPec (p pos : Nat) (ok : Bool) (s : State) : State :=
  if ok then setPmb p (fun y => { y with pecRaised := bvPut y.pecRaised pos false }) s
  else if bvGet (s.pmbPort p).pecRaised pos then s
  else raise kPmbPec (pmbInst p pos) 0 (setPmb p (fun y => { y with pecRaised := bvPut y.pecRaised pos true }) s)

/-- Acknowledgement and PEC of a transaction with a declared device; a stretched or hung bus raises no PMB_NACK (R434, R435). -/
def devOutcome (p pos : Nat) (r : PmbResult) (s : State) : State :=
  if r.res ≠ 0 then devNack p pos (r.res = 1 || r.res = 2 || r.res = 5) s
  else devPec p pos r.pecOk (devAck p pos s)

/-- A write of R182 failed: once more after the next boundary; after a second failure of that write in a row the marver takes the
rectifier to FAULTED in the frame that follows (R182, R183). -/
def writeFailed (r code : Nat) (s : State) : State :=
  let c := s.rectCur r
  if code = 0x22 then
    setRectBoth r (fun x => { x with
      failTrim := !c.failTrim, lastCode := none, writeFault := if c.failTrim then some code else x.writeFault }) s
  else
    let s1 := setRectBoth r (fun x => { x with
      failOp := !c.failOp, writeFault := if c.failOp then some code else x.writeFault }) s
    if c.failOp then s1 else setRect r (fun x => { x with opDue := if x.opDue.isNone then c.opSent else x.opDue }) s1

/-- A write of R182 went through. -/
def writeDone (r code : Nat) (s : State) : State :=
  setRectBoth r (fun x => if code = 0x22 then { x with failTrim := false } else { x with failOp := false }) s

/-- One reading of a rectifier is taken in (R180, R181, R183, R437, R438, Table 6.9). -/
def rectReading (r code : Nat) (data : List Byte) (s : State) : State :=
  let w := field data 0 2
  let b := 0x400 + 8 * r
  let x := s.rectCur r
  if code = 0x20 then
    let m := field data 0 1
    if m / 32 = 0 then setRectBoth r (fun x => { x with expN := some (ofBits 5 m), vmodeOk := true }) s
    else raise kRectConfig r 0 (setRect r (fun x => { x with st := .faulted, inputGood := false }) s)
  else if code = 0x79 then
    sample (b + 7) w (setRectBoth r (fun x => { x with statusNew := some w, status := w }) s)
  else if code = 0x88 then setRectBoth r (fun x => { x with vinMv := some (sat32 (linear11 w 1000)), vinNew := true }) s
  else if code = 0x8D then sample (b + 6) (sat32 (linear11 w 100)) s
  else if code = 0x8B then
    match x.expN with
    | none => s
    | some n =>
      let v := sat32 (linear16 w n)
      sample (b + 2) v (setRectBoth r (fun x => { x with vout := some v }) s)
  else
    let i := sat32 (linear11 w 1000)
    let s1 := sample (b + 1) i s
    match x.vout with
    | none => s1
    | some v => sample (b + 3) (sat32 (divRhe (i * v) 1000)) s1

/-- One reading of a declared device is taken in; discovery of a rectifier goes on with its STATUS_WORD (R179, R183). -/
def devReading (p pos code : Nat) (data : List Byte) (s : State) : State :=
  match s.pmbDev p pos with
  | none => s
  | some (_, .rect r) =>
    let s1 := rectReading r code data s
    if code = 0x20 then setPmb p (fun y => { y with pollq := (pos, 0x79) :: y.pollq }) s1 else s1
  | some (_, .module m) => moduleReading m code (field data 0 2) s

/-- The alert line is ignored until it has stood deasserted for a whole frame (R436). -/
def alertStuck (p : Nat) (s : State) : State :=
  raise kPmbAlertStuck p 0
    (setPmb p (fun y => { y with alertIgn := true, alertHigh := false, alertAddr := none, alertRun := 0, statusFirst := none }) s)

/-- The answer to a Receive Byte from 0x0C (R436). -/
def alertAnswer (p : Nat) (r : PmbResult) (s : State) : State :=
  if r.res ≠ 0 then alertStuck p s
  else
    let a := field r.data 0 1 / 2
    let x := s.pmbPort p
    let run := if x.alertAddr = some a then min (x.alertRun + 1) 15 else 1
    let pos := s.pmbPos p a
    let s1 := setPmb p (fun y => { y with alertAddr := some a, alertRun := run, statusFirst := pos }) s
    if pos.isNone && decide (run ≥ 8) then alertStuck p s1 else s1

/-- Status that a device's last reading showed. -/
def State.lastStatus (s : State) (p pos : Nat) : Nat :=
  match s.pmbDev p pos with
  | some (_, .rect r) => (s.rectCur r).status
  | some (_, .module m) => (s.module m).status
  | none => 0

/-- Code of the status read of a device. -/
def State.statusCode (s : State) (p pos : Nat) : Nat :=
  match s.pmbDev p pos with
  | some (_, .module _) => 0x16
  | _ => 0x79

/-- The status read after an alert response (R436). -/
def alertStatus (p pos : Nat) (r : PmbResult) (s : State) : State :=
  let old := s.lastStatus p pos
  let s1 := devOutcome p pos r s
  let good := decide (r.res = 0) && r.pecOk
  let s2 := if good then devReading p pos (s.statusCode p pos) r.data s1 else s1
  let changed := good && decide (field r.data 0 2 ≠ old)
  if changed then setPmb p (fun y => { y with alertRun := 1 }) s2
  else if (s.pmbPort p).alertRun ≥ 8 then alertStuck p s2
  else s2

/-- Result and reply bytes of a host transaction (Table 17.6). -/
def hostReply (x : HostXact) (r : PmbResult) : Nat × List Byte :=
  let pec := if !x.pec then 0 else if r.pecOk then 1 else 2
  let data := if r.res ≠ 0 then [] else if x.kind = 1 then padTo 1 r.data else if x.kind = 3 then padTo 2 r.data
    else if x.kind = 5 then r.data.take 32 else []
  (if r.res ≠ 0 || pec = 2 then 2 else 0, leBytes 1 r.res ++ leBytes 1 pec ++ leBytes 1 data.length ++ [0] ++ padTo 32 data)

/-- A host transaction ends; its reply is written at the boundary after (R440, Table 17.3). -/
def hostDone (p : Nat) (r : PmbResult) (s : State) : State :=
  match (s.pmbPort p).hostq with
  | [] => s
  | x :: rest =>
    let (st, bytes) := hostReply x r
    let s1 := setPmb p (fun y => { y with hostq := rest, doneq := y.doneq ++ [(x.mbox, x.opcode, st, bytes)] }) s
    match s.pmbPos p x.addr with
    | none => s1
    | some pos => devOutcome p pos { r with pecOk := r.pecOk || !x.pec } s1

/-- The active transaction of a port ends with a result. -/
def finishActive (p : Nat) (r0 : PmbResult) (s : State) : State :=
  let x := s.pmbPort p
  match x.active with
  | none => s
  | some (a, code) =>
    let s1 := setPmb p (fun y => { y with active := none, count := inc32 y.count
                                          errors := if r0.res ≠ 0 || !r0.pecOk then inc32 y.errors else y.errors }) s
    let pecOf := fun pos : Nat => match s.pmbDev p pos with
      | some (addr, _) => { r0 with pecOk := r0.pecOk || s.cfg.pecOff.contains (p, addr) }
      | none => r0
    if x.activeKind = 0 then alertAnswer p r0 s1
    else if x.activeKind = 1 then alertStatus p a (pecOf a) s1
    else if x.activeKind = 2 then
      let pos := s.rectPos a
      let r := pecOf pos
      let s2 := devOutcome p pos r s1
      if code = 0x03 then s2
      else if r.res ≠ 0 || !r.pecOk then writeFailed a code s2
      else writeDone a code s2
    else if x.activeKind = 3 then hostDone p r0 s1
    else
      let r := pecOf a
      let s2 := devOutcome p a r s1
      if r.res = 0 && r.pecOk then devReading p a code r.data s2 else s2

/-! ### Boundaries -/

/-- The alert lines as a tick boundary samples them (R436). -/
def pmbTick (alerts : BitVec 8) (s : State) : State :=
  (List.range 8).foldl (fun s p =>
    let b := bvGet alerts p
    setPmb p (fun y => { y with alert := b, alertHigh := y.alertHigh && !b }) s) s

/-- The end of a frame on a port: polls not started carry over, and an ignored alert line that stood deasserted is heard
again (R433, R435, R436). -/
def pmbClose (p : Nat) (s : State) : State :=
  let x := s.pmbPort p
  let exceeds := !x.pollq.isEmpty
  let s1 := raiseIf (exceeds && !x.overRaised) kPmbPollOverrun p 0 s
  setPmb p (fun y => { y with overRaised := exceeds
                              alertIgn := y.alertIgn && !y.alertHigh, alertHigh := true
                              hungFrames := if y.hung then min (y.hungFrames + 1) 64 else 0 }) s1

/-- Replies of transactions and recoveries that ended in the frame (R440, Table 17.3). -/
def pmbReplies (s : State) : State :=
  (List.range 8).foldl (fun s p =>
    let q := (s.pmbPort p).doneq
    q.foldl (fun s d => finishDeferred d.1 d.2.1 d.2.2.1 d.2.2.2 s) (setPmb p (fun y => { y with doneq := [] }) s)) s

/-- The writes of a hung port's rectifiers cannot be issued: they stay due, and each frame counts one toward the consecutive
failures (R434; DEDUCED, log entry 36). -/
def hungWrites (p : Nat) (s : State) : State :=
  if !(s.pmbPort p).hung then s
  else (s.rectsUsed.filter fun r => (s.cfg.rects.get r).port = p).foldl (fun s r =>
    let x := s.rectCur r
    if x.trimDue || x.opDue.isSome || x.clearDue then setRectBoth r (fun x => { x with nacks := min (x.nacks + 1) 15 }) s else s) s

/-- The opening of a frame: polls fall due in position order behind those carried over at the same position (R433). -/
def pmbOpen (p : Nat) (s : State) : State :=
  let (l, acc) := s.pollsDue p
  hungWrites p (setPmb p (fun y => { y with acc := acc, pollq := sortBy (fun a b => decide (a.1 < b.1)) (y.pollq ++ l) }) s)

/-- Ports that carry a device or have been used. -/
def State.pmbPorts (s : State) : List Nat :=
  (List.range 8).filter fun p => !(s.pmbDevs p).isEmpty || (tabKeys s.pmb.ports).contains p

/-! ### Rows -/

/-- PMB_POLL: the next due poll is issued; on a hung bus it cannot be issued and counts as a failure (R433, R434). -/
def execPmbPoll (port : Nat) (s : State) : Out :=
  let x := s.pmbPort port
  whenTime (x.active.isNone && x.recoverMbox.isEmpty && x.statusFirst.isNone && !(x.alert && !x.alertIgn)) s fun s =>
    if x.hung then
      match x.hostq, x.pollq with
      | _ :: _, _ => hostDone port { res := 4 } s
      | [], (pos, _) :: rest => devNack port pos false (setPmb port (fun y => { y with pollq := rest }) s)
      | [], [] => s
    else
      let s1 := portNext port s
      if (s1.pmbPort port).active.isSome then s1
      else match x.pollq with
        | [] => s
        | d :: rest => setPmb port (fun y => { y with pollq := rest, active := some d, activeKind := 4 }) s

/-- PMB_TRANSACTION_COMPLETE (R433, R434, R436, R181 to R183, R230). -/
def execPmbTransactionComplete (port : Nat) (result : PmbResult) (s : State) : Out :=
  whenTime (s.pmbPort port).active.isSome s fun s => portNext port (finishActive port result s)

/-- PMB_ALERT: the line stands asserted and the next transaction is a Receive Byte from 0x0C (R436). -/
def execPmbAlert (port : Nat) (s : State) : Out :=
  let x := s.pmbPort port
  whenDrives (x.alert && !x.alertIgn && !x.hung && x.active.isNone && x.statusFirst.isNone && x.recoverMbox.isEmpty) s
    (setPmb port fun y => { y with active := some (0, 0), activeKind := 0 })

/-- PMB_STRETCH_TIMEOUT: 25 ms of SCL low in one transaction abandon it (R435). -/
def execPmbStretchTimeout (port : Nat) (s : State) : Out :=
  whenTime (s.pmbPort port).active.isSome s fun s =>
    portNext port (finishActive port { res := 3 } (raise kPmbStretchTimeout port 0 s))

/-- Recovery has run: the bus is free, or the port stays hung for 64 frames more; a command that asked for it is answered
(R435, Table 17.3). -/
def recoveryRun (port : Nat) (freed : Bool) (s : State) : State :=
  let x := s.pmbPort port
  let ans := x.recoverMbox.map fun m => (m, 0x1101, 0, [if freed then (0 : Byte) else 1])
  let s1 := setPmb port (fun y => { y with hung := !freed, hungFrames := 0, recoverMbox := [], doneq := y.doneq ++ ans }) s
  if freed then portNext port (raise kPmbBusRecovered port 0 s1) else s1

/-- PMB_BUS_HUNG: 35 ms; recovery runs at once (R435). -/
def execPmbBusHung (port : Nat) (freed : Bool) (s : State) : Out :=
  whenDrives (decide (port < 8) && !(s.pmbPort port).hung) s fun s =>
    recoveryRun port freed (finishActive port { res := 4 } (raise kPmbBusHung port 0 s))

/-- PMB_RECOVERY_RETRY: a hung bus after 64 frames, or the recovery that a command runs (R435). -/
def execPmbRecoveryRetry (port : Nat) (freed : Bool) (s : State) : Out :=
  let x := s.pmbPort port
  whenDrives ((x.hung && decide (x.hungFrames ≥ 64)) || !x.recoverMbox.isEmpty) s (recoveryRun port freed)

/-- CMD_PMB_RECOVER: recovery runs from its acceptance boundary and the reply follows its end (R435, R440). -/
def cmdPmbRecover (h : CmdHeader) (port : Nat) (s : State) : CmdOut :=
  unlessRefused [(decide (port > 7), rsRange, 0)] s fun s =>
    later (setPmb port (fun y => { y with recoverMbox := y.recoverMbox ++ [h.mbox] }) s)

/-- CMD_PMB_TRANSACT: one host transaction joins its port's list (R440). -/
def cmdPmbTransact (h : CmdHeader) (port address kind code : Nat) (pec : Bool) (data : Nat) (s : State) : CmdOut :=
  let write := kind = 0 || kind = 2 || kind = 4
  unlessRefused
    [(decide (port > 7), rsRange, 0), (decide (address > 127), rsRange, 1), (decide (kind > 5), rsRange, 2),
     (write && (s.pmbPos port address).isSome, rsOwned, 1)] s fun s =>
    let x : HostXact := { port := port, addr := address, kind := kind, code := code, pec := pec, data := data
                          mbox := h.mbox, opcode := 0x1102 }
    later (setPmb port (fun y => { y with hostq := y.hostq ++ [x] }) s)

/-- A PMBus port starts anew from its idle bus; what commands wait for stays (Table 12.4). -/
def resetPmb (p : Nat) (s : State) : State :=
  setPmb p (fun y => { hostq := y.hostq, doneq := y.doneq, recoverMbox := y.recoverMbox, count := y.count, errors := y.errors }) s

end Sys2Proof.Machine
end

