-- ==== Sys2Proof/Machine/Lehr.lean ====
section
/-! DEFINITION. The lehr: derating, supply, load domains, allocation, grants, enforcement, the shed order and the background
schedule (chapter 07, R198). -/
namespace Sys2Proof.Machine

/-- Division rounded up. -/
def divUp (a b : Int) : Int := -((-a).fdiv b)

/-- A change of the lehr's work of the running frame. -/
def setLehr (f : LehrSt → LehrSt) (s : State) : State := { s with leh := { s.leh with nxt := f s.leh.nxt } }

/-- A change of a domain in the running frame's work. -/
def setDom (d : Nat) (f : Domain → Domain) (s : State) : State :=
  setLehr (fun l => { l with doms := l.doms.modify d f }) s

/-- A change of a domain in effect and in the running frame's work alike. -/
def setDomBoth (d : Nat) (f : Domain → Domain) (s : State) : State :=
  let g := fun l : LehrSt => { l with doms := l.doms.modify d f }
  { s with leh := { s.leh with cur := g s.leh.cur, nxt := g s.leh.nxt } }

/-- The domain d as the running frame's work has it. -/
def State.dom (s : State) (d : Nat) : Domain := s.leh.nxt.doms.get d

/-- A domain that the batch declares. -/
def State.domUsed (s : State) (d : Nat) : Bool := decide (d < 512) && (s.cfg.doms.get d).present

/-- Domains in use, in index order. -/
def State.domsUsed (s : State) : List Nat := (tabKeys s.cfg.doms).filter s.domUsed

/-- The domain of a node and its node-local number. -/
def State.domOf (s : State) (node number : Nat) : Option Nat :=
  s.domsUsed.find? fun d => (s.cfg.doms.get d).node = node && (s.cfg.doms.get d).number = number

/-- Domains of a slot. -/
def State.slotDoms (s : State) (c : Nat) : List Nat := s.domsUsed.filter fun d => (s.cfg.doms.get d).slot = c

/-- The batch's priority, ceiling and weight come into force with its tables. -/
def loadDomains (s : State) : State :=
  s.domsUsed.foldl (fun s d =>
    let g := s.cfg.doms.get d
    setDomBoth d (fun x => { x with prio := g.priority, ceiling := g.ceiling, weight := g.weight }) s) s

/-- A slot is on: its power-good as sampled at the boundary (R212). -/
def State.slotOn (s : State) (c : Nat) : Bool := (s.chan c).pgS

/-- Compliance deadline in force. -/
def State.deadline (s : State) : Nat :=
  if s.shr.hold.st = .holdup then s.cfg.lehr.holdupDeadline else s.cfg.lehr.compDeadline

/-- Tolerance of a grant or of a sum of grants (R219). -/
def State.tolOf (s : State) (g : Int) : Int := s.cfg.lehr.compTolMw + divRhe (g * s.cfg.lehr.compTolPpm) 1000000

/-- The increases that the start-up hold of R220 still withholds. -/
def State.holdRuns (s : State) : Bool := s.leh.nxt.startHold && decide (s.tim.frame < s.leh.nxt.holdUntil)

/-- The requests that the frame's DEMANDs have brought stand from the boundary that ends it (R211). -/
def takeRequests (s : State) : State :=
  (s.domsUsed.filter fun d => (s.dom d).reqNew.isSome).foldl (fun s d =>
    setDomBoth d (fun x => { x with request := x.reqNew.getD x.request, reqNew := none }) s) s

/-! ### Steps 1 and 2: derating and supply -/

/-- Derated rating of a rectifier (R207). -/
def State.derate (s : State) (r : Nat) : Int :=
  let g := s.cfg.rects.get r
  let l := s.cfg.lehr
  let x := s.rect r
  let tp := s.pnt.shadow.get (0x400 + 8 * r + 6)
  let t := if tp.sampled then some tp.value else none
  let ft := match t with
    | some t => if t > l.tKnee then 1000000 - (t - l.tKnee) * l.tSlope else 1000000
    | none => 1000000
  let fv := match x.vinMv with
    | some v => if v < l.vinKnee then 1000000 - (l.vinKnee - v).tdiv 1000 * l.vSlope else 1000000
    | none => 1000000
  let f := clampI 0 1000000 (if ft < fv then ft else fv)
  let stale := s.cfg.marver.staleFrames
  let missing := t.isNone || x.vinMv.isNone || decide (tp.age > stale) || decide (x.vinAge > stale)
  divRhe (g.rating * (if missing && decide (l.missing < f) then l.missing else f)) 1000000

/-- Step 1: the derated rating of every present rectifier, for the marver's next frame (R207). -/
def derateAll (s : State) : State := s.rectsUsed.foldl (fun s r => setRect r (fun x => { x with derated := some (s.derate r) }) s) s

/-- Battery term of R208. -/
def State.battTerm (s : State) : Int :=
  let l := s.batteryStages
  if s.shr.hold.st = .holdup then
    sumI ((l.filter fun st => (s.stage st).st = .running).map fun st =>
      let n := (s.cfg.stages.get st).string
      let lim := if s.strUsed n then s.disLimitAhead n else 0
      let cap := s.capability st
      if cap < lim then cap else lim)
  else
    let c := sumI ((l.filter fun st => (s.stage st).mode = .discharge).map s.capability)
    if c < s.cfg.lehr.battAllow then c else s.cfg.lehr.battAllow

/-- The lower non-zero value of the two heat caps (R208). -/
def heatCap (a b : Int) : Int := if a ≤ 0 then b else if b ≤ 0 then a else if a < b then a else b

/-- Step 2: the supply of the frame and its terms (R208, R209). -/
def supplyStep (s : State) : State :=
  let l := s.cfg.lehr
  let m := s.shr.nxt
  let hold := s.shr.hold.st
  let rect := match hold with
    | .normal => m.capC - m.reserve - m.headH
    | .handback => m.inGood - m.inGoodRes
    | .holdup => 0
  let batt := s.battTerm
  let tie := (s.tie.ports.get 0).imp + (s.tie.ports.get 1).imp
  let keepers := sumI ([48, 49, 50, 51].map fun c => s.pt (0x800 + 8 * c + 4))
  let loss := l.shelfLoss + keepers + divRhe (s.slotDraw * l.lossPpm) 1000000
  let cap := heatCap l.heatCap s.leh.nxt.hostCap
  let v := rect + batt + tie - loss
  let v1 := if cap > 0 && decide (cap < v) then cap else v
  setLehr (fun x => { x with supply := clampI 0 2147483647 v1, tRect := rect, tBatt := batt, tTie := tie, tLoss := loss
                             tCap := cap, tHold := hold }) s

/-! ### Step 3: domain states (R212, R220) -/

/-- An ACTIVE domain that DEMAND_SILENT has caught, or is about to: allocation counts it as HELD. -/
def State.silentDue (s : State) (x : Domain) : Bool :=
  x.st = .active && (decide (x.demandAge > s.cfg.lehr.demandTimeout) || x.nodeGone)

/-- One domain in step 3. A HELD domain of the start-up hold stands at its ceiling (R220). -/
def domState (d : Nat) (s : State) : State :=
  let g := s.cfg.doms.get d
  let x := s.dom d
  let got := x.demandCur
  let x0 := { x with demandNew := got, demandCur := false, demanded := x.demanded || got
                     demandAge := if got then 1 else min (x.demandAge + 1) 65535 }
  let on := s.slotOn g.slot
  let y :=
    if x.st ≠ .offline && !on then
      { x0 with st := .offline, grant := 0, target := 0, gHi := 0, hiUntil := 0, decFrom := none, overFrames := 0, overRaised := false }
    else match x.st with
      | .offline =>
        if on && s.holdRuns then { x0 with st := .held, grant := x.ceiling, waited := 0, shed := false }
        else if on && got then
          (if x.enabled then { x0 with st := .active, grant := g.floor, waited := 0, shed := false }
           else { x0 with st := .disabled, grant := g.floor })
        else x0
      | .held => if got then { x0 with st := .active, waited := 0 } else x0
      | _ => x0
  setDom d (fun _ => y) s

/-! ### Step 4: allocation (R213 to R215) -/

/-- A shed limit stands on a slot. -/
def State.slotShed (s : State) (c : Nat) : Bool := (s.chan c).shed.isSome

/-- ACTIVE or HELD. -/
def Domain.live (x : Domain) : Bool := x.st = .active || x.st = .held

/-- Base of a domain (R213). -/
def State.baseOf (s : State) (d : Nat) : Int :=
  let x := s.dom d
  let f := (s.cfg.doms.get d).floor
  match x.pin with
  | some p => clampI f x.ceiling p
  | none => f

/-- Request within floor and ceiling (R211). -/
def State.requestOf (s : State) (d : Nat) : Int :=
  let x := s.dom d
  clampI (s.cfg.doms.get d).floor x.ceiling x.request

/-- Commitment of a domain (R216). -/
def State.commitOf (s : State) (d : Nat) : Int :=
  let x := s.dom d
  if x.st = .offline then 0
  else if s.tim.frame ≤ x.hiUntil then (if x.gHi > x.grant then x.gHi else x.grant)
  else if x.st = .disabled && decide (x.issued + s.cfg.lehr.grantLease ≤ s.tim.frame) then (s.cfg.doms.get d).floor
  else x.grant

/-- Domains that take part in allocation. -/
def State.allocated (s : State) : List Nat :=
  s.domsUsed.filter fun d => (s.dom d).live && !s.slotShed (s.cfg.doms.get d).slot

/-- Order of shedding for floors: normal before essential, then priority ascending, then index descending (R214). -/
def State.shedBefore (s : State) (a b : Nat) : Bool :=
  let ea := b2n (s.cfg.doms.get a).essential
  let eb := b2n (s.cfg.doms.get b).essential
  let pa := (s.dom a).prio
  let pb := (s.dom b).prio
  decide (ea < eb) || (ea = eb && (decide (pa < pb) || (pa = pb && decide (a > b))))

/-- The restore pass over the shed domains, the last shed first. -/
def restorePass (sp : Int) : List Nat → State → Int → State × Int
  | [], s, fl => (s, fl)
  | d :: r, s, fl =>
    let b := s.baseOf d
    if fl + b + s.cfg.lehr.restoreMargin ≤ sp then
      restorePass sp r (raise kFloorRestore d 0 (setDom d (fun x => { x with shed := false }) s)) (fl + b)
    else restorePass sp r s fl

/-- The shed pass in shed order. -/
def shedPass (sp : Int) : List Nat → State → Int → State × Int
  | [], s, fl => (s, fl)
  | d :: r, s, fl =>
    if fl > sp then shedPass sp r (raise kFloorShed d 0 (setDom d (fun x => { x with shed := true }) s)) (fl - s.baseOf d)
    else (s, fl)

/-- The weighted water-fill of one priority: domains whose want fits their share are filled and drop out, round by round
(R215). -/
def waterFill (want : Nat → Int) (weight : Nat → Int) : Nat → List Nat → Int → Int → List (Nat × Int) → List (Nat × Int)
  | 0, _, _, _, acc => acc
  | n + 1, set, r, w, acc =>
    let drop := set.filter fun d => decide (want d * w ≤ r * weight d)
    let rest := set.filter fun d => !decide (want d * w ≤ r * weight d)
    let acc1 := acc ++ drop.map fun d => (d, want d)
    let r1 := r - sumI (drop.map want)
    let w1 := w - sumI (drop.map weight)
    if !drop.isEmpty && !rest.isEmpty then waterFill want weight n rest r1 w1 acc1
    else
      let shares := rest.map fun d => (d, (r1 * weight d).tdiv (if w1 = 0 then 1 else w1))
      let left := natOf (r1 - sumI (shares.map (·.2)))
      acc1 ++ (shares.take left).map (fun p => (p.1, p.2 + 1)) ++ shares.drop left

/-- The fill of every priority, the highest first. -/
def fillLevels (s : State) (want : Nat → Int) (l : List Nat) : List Nat → Int → List (Nat × Int) → List (Nat × Int)
  | [], _, acc => acc
  | p :: ps, r, acc =>
    if r ≤ 0 then acc
    else
      let set := l.filter fun d => (s.dom d).prio = p && decide (want d > 0)
      let need := sumI (set.map want)
      let weight := fun d => ((s.dom d).weight : Int)
      if need ≤ r then fillLevels s want l ps (r - need) (acc ++ set.map fun d => (d, want d))
      else acc ++ waterFill want weight (set.length + 1) set r (sumI (set.map weight)) []

/-- Step 4: floors, floor shedding and targets; the total demand of the frame (R189, R213 to R215). -/
def allocate (s : State) : State :=
  let ds := s.domsUsed
  let shedSlot := fun d => s.slotShed (s.cfg.doms.get d).slot
  let alloc := s.allocated
  let sp := s.leh.nxt.supply - sumI ((ds.filter fun d => (s.dom d).st = .disabled || shedSlot d).map s.commitOf)
  let counted := ds.filter fun d => decide ((s.dom d).st ≠ .offline)
  let demand := sumI (counted.map fun d => if (s.dom d).pin.isSome then s.baseOf d else s.requestOf d)
  let before := fun a b => s.shedBefore a b
  let fl0 := sumI ((alloc.filter fun d => !(s.dom d).shed).map s.baseOf)
  let (s1, fl1) := restorePass sp (sortBy before (alloc.filter fun d => (s.dom d).shed)).reverse s fl0
  let (s2, fl2) := shedPass sp (sortBy before (alloc.filter fun d => !(s1.dom d).shed)) s1 fl1
  let open' := alloc.filter fun d => !(s2.dom d).shed
  let want := fun d => if (s2.dom d).pin.isSome then 0
    else (let w := s2.requestOf d - s2.baseOf d; if w > 0 then w else 0)
  let fills := fillLevels s2 want open' (List.range 16).reverse (sp - fl2) []
  let target := fun d =>
    let x := s2.dom d
    if x.st = .offline then 0
    else if shedSlot d then (if (s.cfg.doms.get d).essential then (s.cfg.doms.get d).floor else 0)
    else if x.st = .disabled then x.grant
    else if x.shed then 0
    else s2.baseOf d + ((fills.find? fun p => p.1 = d).map (·.2)).getD 0
  let s3 := ds.foldl (fun s d => setDom d (fun x => { x with target := target d }) s) s2
  setLehr (fun x => { x with demand := demand }) s3

/-! ### Step 5: grants and commitments (R216, R217, R220) -/

/-- An open decrease is moved on by a frame for each frame, from the one that its GRANT opened with, that has ended without the
node's acknowledgement, so that its deadline counts from delivery (R216). -/
def moveDecrease (now : Nat) (x : Domain) : Domain :=
  if x.decFrom.any (fun n => decide (n + 1 < now)) && decide (now ≤ x.hiUntil + 1) then { x with hiUntil := x.hiUntil + 1 } else x

/-- A domain's decrease, or the early close of an open one (R216). -/
def grantDown (d : Nat) (s : State) : State :=
  let now := s.tim.frame
  let x := moveDecrease now (s.dom d)
  let held := x.st = .held || s.silentDue x
  let t := if held && decide (x.target > x.grant) then x.grant else x.target
  let y := { x with target := t }
  if y.live && decide (t < y.grant) then
    setDom d (fun _ => { y with grant := t, gHi := y.grant, hiUntil := now + s.deadline, decFrom := some now }) s
  else
    let p := (s.cfg.doms.get d).drawPt
    let close := y.st ≠ .offline && decide (now ≤ y.hiUntil) && decide (p ≠ 0) && decide (s.pt p ≤ y.grant + s.tolOf y.grant)
    setDom d (fun _ => if close then { y with hiUntil := now - 1, decFrom := none } else y) s

/-- One pending increase served from the headroom (R217). -/
def grantUp (open' : Bool) (p : State × Int) (d : Nat) : State × Int :=
  let (s, head) := p
  let x := s.dom d
  let inc := if open' && decide (head > 0) then (if x.target - x.grant < head then x.target - x.grant else head) else 0
  let g := x.grant + inc
  (setDom d (fun x => { x with grant := g, waited := if g < x.target then min (x.waited + 1) 65535 else 0 }) s, head - inc)

/-- Step 5. -/
def grantStep (s : State) : State :=
  let ds := s.domsUsed
  let s1 := ds.foldl (fun s d => grantDown d s) s
  let commit := sumI (ds.map s1.commitOf)
  let pend := ds.filter fun d => (s1.dom d).live && decide ((s1.dom d).target > (s1.dom d).grant)
  let order := sortBy (fun a b =>
    let x := s1.dom a
    let y := s1.dom b
    decide (x.prio > y.prio) || (x.prio = y.prio && (decide (x.waited > y.waited) || (x.waited = y.waited && decide (a < b))))) pend
  let (s2, head) := order.foldl (grantUp (!s.holdRuns)) (s1, s1.leh.nxt.supply - commit)
  let s3 := raiseIf (decide (head < 0) && !s2.leh.nxt.overRaised) kCommitOver 512 0 s2
  setLehr (fun x => { x with headroom := head, commit := commit, overRaised := decide (head < 0) }) s3

/-! ### Step 6: compliance and enforcement (R222, R223) -/

/-- Overdraw of a domain, judged against the grant in force. -/
def domOver (d : Nat) (s : State) : State :=
  let p := (s.cfg.doms.get d).drawPt
  let g := (s.leh.cur.doms.get d).grant
  if p = 0 || (s.dom d).st = .offline then s
  else if s.pt p > g + s.tolOf g then setDom d (fun x => { x with overFrames := min (x.overFrames + 1) 255 }) s
  else setDom d (fun x => { x with overFrames := 0, overRaised := false }) s

/-- The enforcement limit that the grants justify (R223): with no bus voltage the limit is a free value. -/
def grantLimit (c : Nat) (s : State) : Int × State :=
  let sum := sumI ((s.slotDoms c).map fun d => (s.dom d).grant)
  let bus := s.pt 0x380
  if bus > 0 then (divUp ((sum + s.tolOf sum) * 1000) bus, s) else takeFree s

/-- Overdraw of a slot and its enforcement limit, judged against the grants in force; a standing shed limit keeps enforcement
with it (R222, R223). -/
def slotOver (c : Nat) (s : State) : State :=
  let sum := sumI ((s.slotDoms c).map fun d => (s.leh.cur.doms.get d).grant)
  let exceeds := decide (s.pt (0x800 + 8 * c + 4) > sum + s.tolOf sum)
  let x := s.leh.nxt.enf.get c
  let shed := s.slotShed c
  let on := x.on || shed
  let y : Enforce := { x with on := on, overFrames := if exceeds then min (x.overFrames + 1) 255 else 0
                              clean := if !on || exceeds || shed then 0 else min (x.clean + 1) 65535 }
  let (lim, s1) := if on then grantLimit c s else (x.limMa, s)
  setLehr (fun l => { l with enf := l.enf.put c { y with limMa := lim } }) s1

/-- Slots that enforcement judges: the declared ones and those with a domain. -/
def State.slotsJudged (s : State) : List Nat :=
  (List.range 48).filter fun c => s.chanUsed c || !(s.slotDoms c).isEmpty

/-! ### Step 7: the shed order (R198) -/

/-- SHED bus threshold, or 36,000 mV without a SHED monitor. -/
def State.shedBusMv (s : State) : Int :=
  match monWith s.cfg .shed with
  | none => 36000
  | some m =>
    let g := s.cfg.mons.get m
    let v := divRhe (((s.msr.mons.get m).lower : Int) * 1200 * g.divNum) (1024 * (max 1 g.divDen : Nat))
    if v > 0 then v else 1

/-- The shed order of the frame. -/
def State.shedOrder (s : State) : List ShedEntry :=
  let on := (List.range 48).filter s.slotOn
  let ess := fun c => (s.slotDoms c).any fun d => (s.cfg.doms.get d).essential
  let pri := fun c => ((s.slotDoms c).map fun d => (s.dom d).prio).foldl max 0
  let keepOf := fun c =>
    let f := sumI (((s.slotDoms c).filter fun d => (s.cfg.doms.get d).essential).map fun d => (s.cfg.doms.get d).floor)
    natOf (divUp (f * 1000) s.shedBusMv)
  let before := fun a b =>
    let ea := b2n (ess a)
    let eb := b2n (ess b)
    decide (ea < eb) || (ea = eb && (decide (pri a < pri b) || (pri a = pri b && decide (a > b))))
  ((sortBy before on).take s.cfg.hold.shedEntries).map fun c => { slot := c, keep := keepOf c }

/-! ### Step 8: background work (R224 to R226) -/

/-- Operations of a pass and the interval of a pass, ns, of a job; none for the estimator tables, which run as queued. -/
def State.jobPace (s : State) (j : Nat) : Option (Nat × Nat) :=
  if j = 0 then some (1, s.frameNs)
  else if j = 1 then some (262144, 8000000000)
  else if j = 3 then some (131072, 86400000000000)
  else if j = 4 then some (91, 91 * s.cfg.bistInterval * s.frameNs)
  else if j = 5 then some (256, 256 * s.frameNs)
  else none

/-- The BIST target whose slice runs next: the first that a command has asked for, else the next in order (R358, R363). -/
def State.bistNext (s : State) : Nat := (s.mem.bistAsk.map (·.1)).headD s.mem.bistPos

/-- The die of a job's next operation is in throttle (R225); a BIST slice counts for the die of its target: the thermal converter
of the power die and the banks of the shed-order store stand there, every other target on the core die (R15, Table 12.6). -/
def State.jobPaused (s : State) (j : Nat) : Bool :=
  if j = 4 && decide (87 ≤ s.bistNext ∧ s.bistNext < 90) then s.msr.powerTherm.throttleEff else s.msr.coreTherm.throttleEff

/-- A frame opens with the operations that the frame before has scheduled for it; those that the frame before left unrun are
due again (R224). -/
def jobsOpen (s : State) : State :=
  { s with leh := { s.leh with jobs := s.leh.jobs.modifyN 6 fun _ x => { x with due := x.due + x.run, run := x.next, next := 0 } } }

/-- The schedule of one job for the next frame (R224); operations that a paused frame leaves are caught up with. -/
def jobStep (j : Nat) (s : State) : State :=
  let x := s.leh.jobs.get j
  let paused := s.jobPaused j
  match s.jobPace j with
  | none =>
    let due := s.bat.zq.length - x.run
    let catchup := (x.catchup || x.paused) && decide (due > 0)
    let n := min due (if catchup then 8 else 4)
    { s with leh := { s.leh with jobs := s.leh.jobs.put j { x with due := due - n, next := n, paused := paused, catchup := catchup } } }
  | some (total, interval) =>
    let iv := max 1 interval
    let acc := x.acc + total * s.frameNs
    let due := x.due + acc / iv
    let pace := (total * s.frameNs + iv - 1) / iv
    let catchup := (x.catchup || x.paused) && decide (x.due > 0)
    let n := min due (if catchup then 2 * pace else pace)
    let pass := x.passFrames + 1
    let late := decide (3 * iv < 2 * pass * s.frameNs)
    let y := { x with acc := acc % iv, due := due - n, next := n, paused := paused, catchup := catchup
                      passFrames := pass, late := x.late || late }
    raiseIf (late && !x.late) kBgLate 512 j { s with leh := { s.leh with jobs := s.leh.jobs.put j y } }

/-- One operation of a job is over. -/
def jobDone (j : Nat) (s : State) : State :=
  let x := s.leh.jobs.get j
  let total := ((s.jobPace j).map (·.1)).getD 1
  let pass := decide (x.pos + 1 ≥ total)
  let y := { x with run := x.run - 1, pos := if pass then 0 else x.pos + 1
                    passFrames := if pass then 0 else x.passFrames, late := x.late && !pass }
  { s with leh := { s.leh with jobs := s.leh.jobs.put j y } }

/-- An operation of a job may start: the schedule of the running frame holds one, its die is not in throttle, and PFI holds
nothing (R225, R226). -/
def State.jobDue (s : State) (j : Nat) : Bool := decide ((s.leh.jobs.get j).run > 0) && !s.jobPaused j && !s.leh.pfiHold

/-! ### The frame -/

/-- LEHR_FRAME: the lehr's work of the frame that opens (Table 7.1, R206). -/
def lehrFrame (s : State) : State :=
  let s0 := { s with leh := { s.leh with nxt := s.leh.cur, grantsDue := [] } }
  let s1 := s0.domsUsed.foldl (fun s d =>
    let x := s.leh.cur.doms.get d
    sample (0xB00 + d) (if x.st = .offline then 0 else x.grant) s) s0
  let s2 := supplyStep (derateAll s1)
  let s3 := s2.domsUsed.foldl (fun s d => domState d s) s2
  let s4 := grantStep (allocate s3)
  let s5 := s4.domsUsed.foldl (fun s d => domOver d s) s4
  let s6 := s5.slotsJudged.foldl (fun s c => slotOver c s) s5
  let s7 := setHold (fun h => { h with nextOrder := s6.shedOrder }) s6
  let s8 := (List.range 6).foldl (fun s j => jobStep j s) s7
  let changed := s8.domsUsed.filter fun d =>
    let old := if (s2.dom d).st = .offline && (s3.dom d).st = .held then (s3.dom d).grant else (s8.leh.cur.doms.get d).grant
    decide ((s8.dom d).grant ≠ old)
  { s8 with leh := { s8.leh with grantsDue := changed } }

/-- Code of a domain state, in the order of Table 7.4. -/
def domCode : DomState → Nat
  | .offline => 0
  | .active => 1
  | .held => 2
  | .disabled => 3

/-- The enforcement code of a slot that the lehr's results put in force: the shed limit while one stands (R223). -/
def enforceCode (s : State) (c : Nat) : Option Nat :=
  let x := s.leh.cur.enf.get c
  if !x.on then none
  else match (s.chan c).shed with
    | some k => some k
    | none => some (limCode x.limMa (s.cfg.chans.get c).rSense)

/-- The lehr's results take effect: enforcement limits, and the issue frames of the GRANTs that leave (R218, R223). The
boundary opens frame f. -/
def lehrApply (f : Nat) (s : State) : State :=
  let s1 := { s with leh := { s.leh with cur := s.leh.nxt } }
  let s2 := s1.slotsJudged.foldl (fun s c => setChan c (fun x => { x with enforce := enforceCode s1 c }) s) s1
  s2.leh.grantsDue.foldl (fun s d => setDomBoth d (fun x => { x with issued := f }) s) s2

/-- The shed order of the lehr's work is loaded into the power die (R198). -/
def loadShedOrder (s : State) : State := setHold (fun h => { h with order := h.nextOrder, bank := !h.bank }) s

/-! ### Rows -/

/-- DEMAND_SILENT (R212): the running frame's work finds no DEMAND for demand_timeout frames, the node lost or its port
disabled. -/
def execDemandSilent (dom : Nat) (s : State) : Out :=
  whenDrives (s.domUsed dom && s.silentDue (s.dom dom) && s.slotOn (s.cfg.doms.get dom).slot) s fun s =>
    raise kDemandSilent dom 0 (setDom dom (fun x => { x with st := .held }) s)

/-- GRANT_REFRESH: floor(grant_lease / 4) frames since the last GRANT (R218); the start-up hold sends none of its own (R220). -/
def execGrantRefresh (dom : Nat) (s : State) : Out :=
  let x := s.dom dom
  whenDrives (s.domUsed dom && x.live && !s.leh.grantsDue.contains dom && !(s.holdRuns && x.issued = 0) &&
      decide (x.issued + s.cfg.lehr.grantLease / 4 ≤ s.tim.frame + 1)) s fun s =>
    { s with leh := { s.leh with grantsDue := s.leh.grantsDue ++ [dom] } }

/-- STARTUP_GRANT_HOLD_END (R220). -/
def execStartupGrantHoldEnd (s : State) : Out :=
  whenDrives (s.leh.nxt.startHold && decide (s.leh.nxt.holdUntil ≤ s.tim.frame)) s fun s =>
    let f := fun l : LehrSt => { l with startHold := false }
    { s with leh := { s.leh with cur := f s.leh.cur, nxt := f s.leh.nxt } }

/-- GRANT_OVERDRAW: once per excursion at the compliance deadline (R222). -/
def execGrantOverdraw (dom : Nat) (s : State) : Out :=
  let x := s.dom dom
  whenDrives (s.domUsed dom && !x.overRaised && decide (s.deadline ≤ x.overFrames)) s fun s =>
    raise kGrantOverdraw dom 0 (setDom dom (fun x => { x with overRaised := true }) s)

/-- ENFORCE_START: enforcement from the boundary that ends the frame (R222, R223). -/
def execEnforceStart (slot : Nat) (s : State) : Out :=
  let x := s.leh.nxt.enf.get slot
  whenDrives (s.slotsJudged.contains slot && !x.on && decide (s.deadline ≤ x.overFrames)) s fun s =>
    let (lim, s1) := grantLimit slot s
    raise kEnforceStart 512 slot
      (setLehr (fun l => { l with enf := l.enf.put slot { x with on := true, clean := 0, limMa := lim } }) s1)

/-- ENFORCE_END: enforce_release frames without overdraw (R223). -/
def execEnforceEnd (slot : Nat) (s : State) : Out :=
  let x := s.leh.nxt.enf.get slot
  whenDrives (x.on && !s.slotShed slot && decide (s.cfg.lehr.enforceRelease ≤ x.clean)) s fun s =>
    raise kEnforceEnd 512 slot (setLehr (fun l => { l with enf := l.enf.put slot { x with on := false, clean := 0, overFrames := 0 } }) s)

/-- BG_RESUME: the first frame boundary after PFI was sampled deasserted at every tick boundary of a whole frame; paced
flushing resumes with it (R226, R324). -/
def execBgResume (s : State) : Out :=
  whenTime (s.leh.pfiHold && s.tim.frameDue && !s.pin.pfi && !s.pin.pfiAny) s fun s =>
    { s with leh := { s.leh with pfiHold := false }
             recd := { s.recd with paused := false } }

/-- RECORDER_HOUSEKEEPING: one maintenance step; it changes nothing that the spec gives the device but the job's place
(R224). -/
def execRecorderHousekeeping (s : State) : Out := whenTime (s.jobDue 0) s (jobDone 0)

/-- The points of long-departed nodes in 1,024 shadow entries are cleared (R224, R425). -/
def compact (pos : Nat) (s : State) : State :=
  let gone := fun id : Nat => decide (4096 ≤ id) && !(s.pnt.nodes.get (id / 4096)).joined &&
    decide ((s.pnt.nodes.get (id / 4096)).lostFor ≥ 4096)
  let ks := (tabKeys s.pnt.shadow).filter fun id => id / 1024 = pos && gone id
  { s with pnt := { s.pnt with shadow := ks.foldl (fun t k => t.put k {}) s.pnt.shadow } }

/-- POINT_COMPACTION (R224). -/
def execPointCompaction (s : State) : Out :=
  whenTime (s.jobDue 5) s fun s => jobDone 5 (compact (s.leh.jobs.get 5).pos s)

/-- ZTABLE_WRITE: the oldest queued write reaches MRAM (R247, R249). -/
def execZtableWrite (s : State) : Out :=
  whenTime (s.jobDue 2 && !s.bat.zq.isEmpty) s fun s =>
    match s.bat.zq with
    | [] => s
    | w :: rest => jobDone 2 (writeZ w { s with bat := { s.bat with zq := rest, zDropRaised := false } })

/-! ### Commands (Table 7.5) -/

/-- CMD_DOMAIN_ENABLE (R212). -/
def cmdDomainEnable (dom : Nat) (on : Bool) (s : State) : CmdOut :=
  unlessRefused [(!s.domUsed dom, rsAbsent, 0)] s fun s =>
    let recent := fun x : Domain => x.demandCur || (x.demanded && decide (x.demandAge < s.cfg.lehr.demandTimeout))
    let f := fun x : Domain =>
      let y := { x with enabled := on }
      if !on && x.live then { y with st := .disabled }
      else if on && x.st = .disabled then (if recent x then { y with st := .active, waited := 0 } else { y with st := .held })
      else y
    wrote (setDomBoth dom f s) [(0x09, dom, 0)]

/-- CMD_DOMAIN_SET (R221): a lowered ceiling clamps the pin. -/
def cmdDomainSet (dom : Nat) (mask : Byte) (prio ceiling weight : Nat) (s : State) : CmdOut :=
  let g := s.cfg.doms.get dom
  unlessRefused
    [(!s.domUsed dom, rsAbsent, 0), (bvGet mask 0 && decide (prio > 15), rsRange, 3),
     (bvGet mask 1 && decide ((ceiling : Int) < g.floor ∨ g.ceiling < ceiling), rsRange, 4),
     (bvGet mask 2 && decide (weight = 0), rsRange, 8)] s fun s =>
    let f := fun x : Domain => { x with
      prio := if bvGet mask 0 then prio else x.prio
      ceiling := if bvGet mask 1 then (ceiling : Int) else x.ceiling
      pin := if bvGet mask 1 then x.pin.map (fun p => if p > (ceiling : Int) then (ceiling : Int) else p) else x.pin
      weight := if bvGet mask 2 then weight else x.weight }
    wrote (setDomBoth dom f s) (([0, 1, 2].filter (bvGet mask)).map fun k => (0x09, dom, k + 1))

/-- CMD_GRANT_SET (R221). -/
def cmdGrantSet (dom : Nat) (pin : Bool) (value : Nat) (s : State) : CmdOut :=
  let g := s.cfg.doms.get dom
  unlessRefused
    [(!s.domUsed dom, rsAbsent, 0),
     (pin && decide ((value : Int) < g.floor ∨ (s.dom dom).ceiling < value), rsRange, 4)] s fun s =>
    wrote (setDomBoth dom (fun x => { x with pin := if pin then some (value : Int) else none }) s) [(0x09, dom, 4)]

/-- CMD_LEHR_CAP_SET (R208). -/
def cmdLehrCapSet (cap : Nat) (s : State) : CmdOut :=
  unlessRefused [(decide (cap > 2147483647), rsRange, 0)] s fun s =>
    let f := fun l : LehrSt => { l with hostCap := cap }
    wrote { s with leh := { s.leh with cur := f s.leh.cur, nxt := f s.leh.nxt } } [(0x09, 512, 0)]

/-- A domain's block reset: HELD with its grant kept; an unpowered domain stays OFFLINE (Table 12.4). -/
def resetDom (d : Nat) (s : State) : State :=
  setDomBoth d (fun x => if x.st = .offline then x else { x with st := .held }) s

end Sys2Proof.Machine
end

