-- ==== Sys2Proof/Machine/Sequencer.lean ====
section
/-! DEFINITION. The sequencer: rails, groups, EN outputs, SEQF_N, faults and their records (chapter 10). -/
namespace Sys2Proof.Machine

/-- A change of the sequencer. -/
def setSeq (f : Seq → Seq) (s : State) : State := { s with seq := f s.seq }

/-- A list of bytes with some of its bits inverted, each byte counted from its bit 0. -/
def flipList (bits : List Nat) (l : List Byte) : List Byte :=
  (l.zip (List.range l.length)).map fun p =>
    bits.foldl (fun x b => if b / 8 = p.2 then x ^^^ BitVec.ofNat 8 (2 ^ (b % 8)) else x) p.1

/-- A change of one rail. -/
def setRail (i : Nat) (f : Rail → Rail) (s : State) : State := setSeq (fun q => { q with rails := q.rails.modify i f }) s

/-- A change of a group in the running frame's work. -/
def setGroup (g : Nat) (f : Group → Group) (s : State) : State := setSeq (fun q => { q with nxt := q.nxt.modify g f }) s

/-- A change of a group in effect and in the running frame's work alike. -/
def setGroupBoth (g : Nat) (f : Group → Group) (s : State) : State :=
  setSeq (fun q => { q with cur := q.cur.modify g f, nxt := q.nxt.modify g f }) s

/-- The rail i. -/
def State.rail (s : State) (i : Nat) : Rail := s.seq.rails.get i

/-- The group g in effect. -/
def State.groupCur (s : State) (g : Nat) : Group := s.seq.cur.get g

/-- The group g as the running frame's work has it. -/
def State.group (s : State) (g : Nat) : Group := s.seq.nxt.get g

/-- A rail that the batch declares. -/
def State.railUsed (s : State) (i : Nat) : Bool := decide (i < 4096) && decide ((s.cfg.rails.get i).kind ≠ 0)

/-- Rails in use, in index order. -/
def State.railsUsed (s : State) : List Nat := (tabKeys s.cfg.rails).filter s.railUsed

/-- A group that the batch declares. -/
def State.groupUsed (s : State) (g : Nat) : Bool := decide (g < 64) && (s.cfg.groups.get g).present

/-- Groups in use, in index order. -/
def State.groupsUsed (s : State) : List Nat := (List.range 64).filter s.groupUsed

/-- Rails of a group. -/
def State.groupRails (s : State) (g : Nat) : List Nat := s.railsUsed.filter fun i => (s.cfg.rails.get i).group = g

/-- Rails of a group at one position. -/
def State.railsAt (s : State) (g pos : Nat) : List Nat := (s.groupRails g).filter fun i => (s.cfg.rails.get i).position = pos

/-- Positions of a group in ascending order. -/
def State.positions (s : State) (g : Nat) : List Nat :=
  (List.range 256).filter fun p => (s.groupRails g).any fun i => (s.cfg.rails.get i).position = p

/-- Number of the tick boundary that opened the running frame. -/
def State.frameBase (s : State) : Nat := s.absTick - (if s.tim.frameDue then s.frameTicks else s.tim.tick)

/-- Boundary B at which the decisions of the running frame take effect. -/
def State.boundB (s : State) : Nat := s.frameBase + s.frameTicks

/-- RISING or UP. -/
def Group.live (x : Group) : Bool := x.st = .rising || x.st = .up

/-- The running frame's work has decided that the group falls. -/
def State.groupFalls (s : State) (g : Nat) : Bool :=
  (s.groupCur g).live && ((s.group g).st = .falling || (s.group g).st = .resting)

/-- 100 us units in ticks (R284). -/
def State.railTicks (s : State) (v : Nat) : Nat := natOf (divUp ((v * 100000 : Nat) : Int) (max 1 s.tickNs : Nat))

/-- UV and OV of a rail's monitor as last sampled. -/
def State.railLevels (s : State) (i : Nat) : Bool × Bool :=
  match monWith s.cfg (.rail i) with
  | none => (false, false)
  | some m => (bvGet s.msr.uvS m, bvGet s.msr.ovS m)

/-- Monitor state of a rail (R92), or 0xF without a monitor (Table 10.6). -/
def State.railState (s : State) (i : Nat) : Nat :=
  match monWith s.cfg (.rail i) with
  | none => 15
  | some m => monState (s.monOn m) (bvGet s.msr.uvS m) (bvGet s.msr.ovS m) % 16

/-- Sample of a rail's voltage point in the tick that ends, of another point the last sample there is; 0 without a point
(R300). -/
def State.railV (s : State) (i : Nat) : Int :=
  let p := (s.cfg.rails.get i).vPt
  let a := s.pnt.acc.get p
  if p = 0 then 0
  else if 0x080 ≤ p ∧ p < 0x0E0 then s.tickValue p
  else if 0 < a.n then a.last else s.pt p

/-- One reading of Table 10.6. -/
def State.railReading (s : State) (i : Nat) : List Byte :=
  let x := s.rail i
  leBytes 2 (i % 4096 + 4096 * s.railState i) ++ leBytes 1 (b2n x.placed + 2 * b2n x.up + 4 * b2n x.off) ++ [0] ++
    leInt 4 (s.railV i)

/-- Readings of a group, kept for SNAPSHOT records only (R300). -/
def State.groupSnap (s : State) (g : Nat) : List (List Byte) :=
  if (s.cfg.groups.get g).snapshot then (s.groupRails g).map s.railReading else []

/-! ### Records (R300 to R302) -/

/-- A record's write into the ring begins: its header stands there with incomplete set until the write is complete at the boundary
that ends the running frame (R302; that instant is a DESIGN CHOICE, log entry 54). Records that it overwrites in any slot are
discarded whole (R301). -/
def ringPut (r : SeqRec) (q : Seq) : Seq :=
  let k := 1 + (r.readings.length + 7) / 8
  let start := if q.nextSlot + k ≤ 8192 then q.nextSlot else 0
  let kept := q.recs.filter fun x => decide (x.slotAt + x.slots ≤ start ∨ start + k ≤ x.slotAt)
  { q with recs := kept ++ [{ r with seq := q.nextSeq, slots := k, slotAt := start, incomplete := true, writing := true }]
           nextSeq := (q.nextSeq + 1) % 4294967296, nextSlot := (start + k) % 8192 }

/-- The writes of the frame are complete: incomplete is rewritten clear (R302). -/
def recordsDone (l : List SeqRec) : List SeqRec :=
  l.map fun r => if r.writing then { r with writing := false, incomplete := false } else r

/-- Writes that PFI or a reset cuts leave their records marked incomplete (R299, R302). -/
def recordsCut (l : List SeqRec) : List SeqRec := l.map fun r => { r with writing := false }

/-- The boot finds the records whose header shows incomplete or fails its CRC-32C; the latter are kept and read as incomplete
(R302). -/
def seqScan (s : State) : State :=
  let l := s.seq.recs.map fun r => { r with incomplete := r.incomplete || r.badCrc }
  setSeq (fun q => { q with recs := l, incomplete := min (l.filter SeqRec.incomplete).length 65535 }) s

/-- Readings of a record with some bits of one of its reading slots inverted. -/
def flipReadings (slot : Nat) (bits : List Nat) (l : List (List Byte)) : List (List Byte) :=
  (l.zip (List.range l.length)).map fun p =>
    if p.2 / 8 = slot then flipList ((bits.filter fun b => b / 64 = p.2 % 8).map (· % 64)) p.1 else p.1

/-- Wrong bits of a line of the sequencer's region: a header fails its CRC-32C, a reading slot reads otherwise (R302, R356). -/
def tearSeqLine (line : Nat) (bits : List Nat) (s : State) : State :=
  (List.range 4).foldl (fun s k =>
    let slot := 4 * (line - 0x16800) + k
    let mine := (bits.filter fun b => b / 512 = k).map (· % 512)
    let hit := fun r : SeqRec =>
      if mine.isEmpty || !decide (r.slotAt ≤ slot ∧ slot < r.slotAt + r.slots) then r
      else if slot = r.slotAt then { r with badCrc := true }
      else { r with readings := flipReadings (slot - r.slotAt - 1) mine r.readings }
    setSeq (fun q => { q with recs := q.recs.map hit }) s) s

/-- A fault record of a group, primary or secondary (R300, R302). -/
def seqRecord (g rail kind : Nat) (tag : SeqTag) (v : Int) (mon : Nat) (snap : List (List Byte)) (secondary : Bool)
    (s : State) : State :=
  let x := s.group g
  if secondary && decide (x.secondary ≥ 16) then setSeq (fun q => { q with dropped := min (q.dropped + 1) 65535 }) s
  else
    let shot := !secondary && (s.cfg.groups.get g).snapshot
    let r : SeqRec := { snapshot := shot, interrupted := x.interrupted, secondary := secondary, group := g, rail := rail
                        kind := kind, tick := tag.tick, frame := tag.frame, stamp := tag.stamp, vpt := v, mon := mon
                        readings := if shot then snap else [] }
    setSeq (ringPut r)
      (setGroup g (fun x => { x with secondary := if secondary then x.secondary + 1 else x.secondary, interrupted := false }) s)

/-- Bytes 0 to 59 of a header slot (Table 10.5). -/
def SeqRec.head60 (r : SeqRec) : List Byte :=
  padTo 60 (leBytes 4 r.seq ++ leBytes 2 r.slots ++
    leBytes 1 (b2n r.snapshot + 32 * b2n r.interrupted + 64 * b2n r.secondary + 128 * b2n r.incomplete) ++
    leBytes 1 r.group ++ leBytes 2 r.rail ++ leBytes 1 r.kind ++ leBytes 1 r.tick ++ leBytes 6 r.frame ++ leBytes 8 r.stamp ++
    leInt 4 r.vpt ++ leBytes 1 r.mon)

/-- Whole slots of a record. -/
def SeqRec.bytes (r : SeqRec) : List Byte :=
  r.head60 ++ leBytes 4 (if r.badCrc then crc32c r.head60 ^^^ 1 else crc32c r.head60) ++ padTo (64 * (r.slots - 1)) r.readings.flatten

/-- Newest sequence number; 0 before any record. -/
def Seq.newest (q : Seq) : Nat := if q.nextSeq = 0 then 0 else q.nextSeq - 1

/-! ### Edges and steps (R289, R290) -/

/-- A rail's edge of a rise or fall, at the earliest at boundary B; a REMOTE edge at a frame boundary (R290). An edge that stands
before B comes about first, and the new one waits behind it. -/
def placeAt (i : Nat) (up : Bool) (at0 : Nat) (s : State) : State :=
  let c := s.cfg.rails.get i
  let b := s.boundB
  let e0 := max at0 b
  let ft := max 1 s.frameTicks
  let e := if c.kind = 2 then b + (e0 - b + ft - 1) / ft * ft else e0
  let dl := e + s.railTicks (if up then c.riseTimeout else c.fallTimeout)
  setRail i (fun x =>
    if !up && x.edge.any (fun f => decide (f < b)) then { x with nextEdge := some e, nextDl := some dl, failed := false }
    else { x with edge := some e, edgeUp := up, deadline := some dl, winRun := 0, failed := false
                  placed := x.placed || (up && decide (c.kind ≠ 3)) }) s

/-- The edges of one step (R290). -/
def placeStep (g pos : Nat) (up : Bool) (tPrev : Nat) (s : State) : State :=
  (s.railsAt g pos).foldl (fun s i =>
    let c := s.cfg.rails.get i
    placeAt i up (tPrev + s.railTicks (if up then c.upDelay else c.downDelay)) s) s

/-- A rail has confirmed in its present direction at or before its deadline, as the running frame sees it. -/
def State.railDone (s : State) (x : Rail) : Bool :=
  x.edge.isNone && (if x.edgeUp then x.up else x.off) && decide (x.confAt ≤ s.frameBase) &&
    x.deadline.any (fun d => decide (x.confAt ≤ d))

/-- A rail's deadline has passed unconfirmed, as the running frame sees it: the failing tick, which the deadline boundary opens,
lies in a frame that has ended (R31, Table 10.7). -/
def State.railLate (s : State) (x : Rail) : Bool :=
  x.deadline.any (fun d => decide (d < s.frameBase) && !((if x.edgeUp then x.up else x.off) && decide (x.confAt ≤ d)))

/-- Whether a step is complete, and its completion boundary; in a fall a late rail counts as complete (R290, R292). -/
def State.stepDone (s : State) (g pos : Nat) (rising : Bool) : Option Nat :=
  let l := (s.railsAt g pos).map s.rail
  if l.all fun x => s.railDone x && !x.retrying || (!rising && s.railLate x) then
    some ((l.map fun x => if s.railDone x then x.confAt else x.deadline.getD 0).foldl max 0)
  else none

/-- Edges placed at or after B are cancelled; a rise edge that never happened leaves no edge placed. -/
def cancelRail (b : Nat) (x : Rail) : Rail :=
  let x := { x with nextEdge := none, nextDl := none }
  if x.edge.any fun e => decide (b ≤ e) then
    { x with edge := none, deadline := none, retrying := false, placed := if x.edgeUp && !x.retrying then false else x.placed }
  else { x with retrying := false }

/-- A group falls from boundary B, from its highest position with an edge (Table 10.3, R292); without one, FALLING has no step, and
its last is complete at once. -/
def fallGroup (g : Nat) (latching own : Bool) (s : State) : State :=
  let s1 := (s.groupRails g).foldl (fun s i => setRail i (cancelRail s.boundB) s) s
  let ps := ((s1.groupRails g).filter fun i => (s1.rail i).placed).map fun i => (s1.cfg.rails.get i).position
  let x := { s1.group g with latching := latching, ownFail := own }
  if ps.isEmpty then
    setGroup g (fun _ => { x with st := .falling, pos := none, tPrev := s.boundB }) s1
  else
    let p := ps.foldl max 0
    placeStep g p false s.boundB (setGroup g (fun _ => { x with st := .falling, pos := some p, tPrev := s.boundB }) s1)

/-- A group rises: RISING from boundary B with its first step placed; a group without rails has no step (Table 10.3). -/
def riseGroup (g : Nat) (s : State) : State :=
  let clean := fun x : Rail => { x with edge := none, deadline := none, nextEdge := none, nextDl := none, placed := false
                                        up := false, off := false, failed := false, retrying := false, pends := []
                                        winRun := 0, badRun := 0 }
  let s1 := (s.groupRails g).foldl (fun s i => setRail i clean s) s
  let s2 := setGroup g (fun x => { x with
    st := .rising, pos := (s.positions g).head?, tPrev := s.boundB, latching := false, ownFail := false, secondary := 0 }) s1
  match s.positions g with
  | [] => s2
  | p :: _ => placeStep g p true s.boundB s2

/-! ### Tick boundaries (R288, R289, R293, R298) -/

/-- What is kept of a happening until the sequencer takes it in: the failing tick, with the voltage sample, the monitor state and
the readings of that tick as s has them (R300). -/
def pendRail (i kind n : Nat) (tag : SeqTag) (before s : State) : State :=
  let c := s.cfg.rails.get i
  let h : Happening := { kind := kind, bound := n, tag := tag, v := before.railV i
                         mon := if c.kind = 2 then (before.rail i).code else before.railState i, snap := before.groupSnap c.group }
  setRail i (fun x => { x with pends := x.pends ++ [h], failed := true }) s

/-- The levels that make a running fault on a rail: UV or OV while it is up in a group that rises, is up or falls, OV alone
once its fall edge has passed (R292, R293). A rail that retries alone is supervised again once it has confirmed up; a WATCH rail,
which has no edge, falls from the boundary from which its step counts. -/
def supervised (kind : Nat) (st : GroupState) (x : Rail) (uv ov : Bool) : Bool :=
  match st with
  | .rising | .up => x.up && !(x.retrying && !x.edgeUp) && (uv || ov)
  | .falling =>
    if x.up then uv || ov
    else x.edge.isNone && !x.edgeUp && (x.placed || (decide (kind = 3) && x.deadline.isSome)) && ov
  | _ => false

/-- A rail's edge is over: the confirmations of the other direction go with it, and an edge that waits behind it is the next
(R289, R290). -/
def edgeOver (e : Nat) (x : Rail) : Rail :=
  let y := { x with edge := none, edgeAt := e, up := false, off := false, winRun := 0, badRun := 0 }
  match x.nextEdge with
  | none => y
  | some f => { y with edge := some f, edgeUp := false, deadline := x.nextDl, nextEdge := none, nextDl := none }

/-- A WATCH rail has no edge of its own: its step counts from the boundary at which one would stand. -/
def watchEdge (kind n : Nat) (x : Rail) : Rail :=
  match x.edge with
  | some e => if kind = 3 ∧ e ≤ n then edgeOver e x else x
  | none => x

/-- A rail has confirmed in its present direction at or before a boundary. -/
def Rail.confirmedBy (x : Rail) (d : Nat) : Bool :=
  x.edge.isNone && (if x.edgeUp then x.up else x.off) && decide (x.confAt ≤ d)

/-- A rail failed at its deadline boundary n, which opened the tick that has just ended (R290); the off phase of a retry has no
failure (Table 10.4). -/
def Rail.failsAt (n : Nat) (st : GroupState) (x : Rail) : Bool :=
  decide (x.deadline = some n) && !x.confirmedBy n && !(x.retrying && !x.edgeUp) && (st = .rising || st = .up || st = .falling)

/-- One rail at boundary n: a deadline that the ending tick opened with, confirmation, running fault; a REMOTE rail confirms
by its reports alone (RAIL_CONFIRM). -/
def railTick (n : Nat) (ended : SeqTag) (before : State) (i : Nat) (s : State) : State :=
  let c := s.cfg.rails.get i
  let (uv, ov) := s.railLevels i
  let x := s.rail i
  let gst := (s.groupCur c.group).st
  let s1 := if x.failsAt (n - 1) gst then pendRail i (if x.edgeUp then 1 else 2) (n - 1) ended before s else s
  let sought := x.edge.isNone && x.deadline.isSome && !(if x.edgeUp then x.up else x.off)
  let good := if x.edgeUp then !uv && !ov else uv
  let run := if sought && decide (n > x.edgeAt) && good then min (x.winRun + 1) 2 else 0
  let conf := sought && decide (run ≥ 2) && decide (c.kind ≠ 2)
  let up := if conf then x.edgeUp else x.up
  let off := if conf then !x.edgeUp else x.off
  let bad := supervised c.kind gst { x with up := up, off := off } uv ov && decide (c.kind ≠ 2)
  let badRun := if bad then min (x.badRun + 1) 256 else 0
  let s2 := setRail i (fun y => { watchEdge c.kind n { y with
    winRun := run, up := up, off := off, confAt := if conf then n else x.confAt, badRun := badRun } with
    winAll := x.winAll && !uv && !ov, state := s.railState i }) s1
  if decide (badRun = c.glitchTicks) && bad then pendRail i (if ov then 4 else 3) n ended before s2 else s2

/-- The input condition of a group at a tick boundary (R298). -/
def State.inputHolds (s : State) (g : Nat) : Bool :=
  let c := s.cfg.groups.get g
  if c.input = 0 then true
  else if c.input = 1 then s.shr.hold.st ≠ .holdup
  else !bvGet s.msr.uvS c.inputMon && !bvGet s.msr.ovS c.inputMon

/-- The sequencer's levels at tick boundary n (R288, R289, R293, R298). -/
def seqTick (n : Nat) (low : Bool) (s : State) : State :=
  let ended : SeqTag := { tag := n - 1, tick := s.tim.tick, frame := s.tim.frame, stamp := s.tim.stamp }
  let low' := low || s.seq.seqfDrive
  let run := if low' then min (s.seq.seqfRun + 1) 255 else 0
  let seen := decide (run ≥ s.cfg.seqfTicks)
  let q := { s.seq with seqfLow := low', seqfRun := run, seqfSeen := seen, lastTag := ended, enSampled := s.seq.en }
  let s1 := { s with seq := q }
  let s2 := if seen && q.seqfAt.isNone then
      setSeq (fun q => { q with
        seqfAt := some n
        seqfTag := ended
        seqfSnap := s1.groupsUsed.foldl (fun t g =>
          if (s1.cfg.groups.get g).cooperate then t.put g (s1.groupSnap g) else t) [] }) s1
    else s1
  let s3 := s2.groupsUsed.foldl (fun s g =>
    if s.inputHolds g then s else setSeq (fun q => { q with monFail := q.monFail.put g true }) s) s2
  s3.railsUsed.foldl (fun s i => railTick n ended s3 i s) s3

/-! ### Faults as the sequencer takes them in (R293 to R297) -/

/-- The oldest happening of a rail that the running frame's evaluation sees: its failing tick lies in a frame that has ended
(R31). -/
def State.railHead (s : State) (i : Nat) : Option Happening :=
  match (s.rail i).pends with
  | h :: _ => if h.tag.tag < s.frameBase then some h else none
  | [] => none

/-- A happening of a rail waits in the running frame's evaluation. -/
def State.railSeen (s : State) (i : Nat) : Bool := (s.railHead i).isSome

/-- No other happening of the group comes before this rail's: the earliest tick tag, then the lowest index (R295). -/
def State.railFirst (s : State) (i : Nat) : Bool :=
  (s.railHead i).any fun h => (s.groupRails (s.cfg.rails.get i).group).all fun j =>
    !((s.railHead j).any fun o => decide (o.tag.tag < h.tag.tag ∨ (o.tag.tag = h.tag.tag ∧ j < i)))

/-- SEQF_N was counted asserted before a happening of a cooperating group (R295). -/
def State.seqfBefore (s : State) (i : Nat) : Bool :=
  (s.cfg.groups.get (s.cfg.rails.get i).group).cooperate &&
    s.seq.seqfAt.any fun n => decide (n ≤ s.frameBase) && (s.railHead i).any fun h => decide (n < h.bound)

/-- Reaction that a happening of a rail calls for: a rise failure takes the group down, or counts as a further fault of a rail that
retries; spent retries act as GROUP_DOWN (R293, R294, Table 10.3). -/
def State.railReaction (s : State) (i : Nat) (h : Happening) : Nat :=
  let x := s.rail i
  let c := s.cfg.rails.get i
  let r := if h.kind = 1 then (if x.retrying then 1 else 2) else c.reaction
  if (r = 1 || r = 3) && decide (x.retries ≥ c.retries) then 2 else r

/-- A reaction that outranks a lone retry in a group is due in the running frame: SYSTEM_RESET of any group, GROUP_DOWN of this one,
or SEQF_N where it cooperates (R295). -/
def State.outranked (s : State) (g : Nat) : Bool :=
  let seen := fun (i : Nat) => (s.rail i).pends.filter fun h => decide (h.tag.tag < s.frameBase)
  s.seq.sysReset || ((s.cfg.groups.get g).cooperate && s.seq.seqfAt.any fun n => decide (n ≤ s.frameBase)) ||
    s.railsUsed.any fun i =>
      let own := (s.cfg.rails.get i).group
      (s.groupCur own).live && (seen i).any fun h =>
        let r := s.railReaction i h
        decide (r = 3) || (decide (r = 2) && decide (own = g))

/-- Cooperating groups in RISING or UP fall with a pull of SEQF_N by the device itself (R297); a group with a happening of its
own still to be taken in waits for it. -/
def pullGroups (tag : SeqTag) (s : State) : State :=
  if !s.seq.seqfDriveNxt || s.seq.seqfDrive then s
  else s.groupsUsed.foldl (fun s g =>
    if (s.cfg.groups.get g).cooperate && (s.groupCur g).live && !s.groupFalls g && !(s.groupRails g).any s.railSeen then
      let s1 := seqRecord g 0xFFF kSeqfSeen.2 tag 0 0 (s.groupSnap g) (s.group g).primTaken (raise kSeqfSeen 96 0 s)
      setGroup g (fun x => { x with bySeqf := true, reacted := true, primTaken := true }) (fallGroup g true false s1)
    else s) s

/-- A group falls latching by its own failure and, where it cooperates, pulls SEQF_N from B (R296). -/
def ownFall (g : Nat) (reacted : Bool) (tag : SeqTag) (s : State) : State :=
  let x := s.group g
  let lat := !(s.seq.sysReset && reacted)
  let own := lat && !(s.groupFalls g && x.bySeqf)
  let s1 := if s.groupFalls g then
      setGroup g (fun x => { x with latching := x.latching || lat, ownFail := x.ownFail || own, reacted := x.reacted || reacted }) s
    else setGroup g (fun x => { x with reacted := reacted }) (fallGroup g lat own s)
  let s2 := if own && (s.cfg.groups.get g).cooperate then setSeq (fun q => { q with seqfDriveNxt := true }) s1 else s1
  pullGroups tag s2

/-- RETRY_RAIL: the rail alone goes off and comes up again (Table 10.4). -/
def retryRail (g i : Nat) (s : State) : State :=
  let s1 := placeAt i false s.boundB (setRail i (fun x => { x with retries := min (x.retries + 1) 15 }) s)
  raise kRailRetry g i (setRail i (fun x => { x with retrying := true }) s1)

/-- SYSTEM_RESET: every group falls and none latches by a reaction (Table 10.4, R295). -/
def systemReset (g i : Nat) (s : State) : State :=
  let s0 := setSeq (fun q => { q with sysReset := true }) (setRail i (fun x => { x with retries := min (x.retries + 1) 15 }) s)
  let s1 := raise kSystemResetRun g i s0
  let one := fun (s : State) (h : Nat) =>
    if (s.groupCur h).st = .off && (s.group h).st = .rising then fallGroup h false false s
    else if !(s.groupCur h).live then s
    else if !s.groupFalls h then fallGroup h false false s
    else if (s.group h).reacted then setGroup h (fun x => { x with latching := false, ownFail := false }) s
    else s
  let s2 := s1.groupsUsed.foldl one s1
  let pull := s2.groupsUsed.any fun h =>
    (s2.cfg.groups.get h).cooperate && s2.groupFalls h && (s2.group h).ownFail && (s2.group h).latching
  setSeq (fun q => { q with seqfDriveNxt := pull }) s2

/-- Message of a happening. -/
def pendKind (p : Nat) : Nat × Nat :=
  if p = 1 then kRiseTimeout else if p = 2 then kFallTimeout else if p = 3 then kRailUv else if p = 4 then kRailOv else kRailFault

/-- One happening of a rail is taken in: its message, its record, and the reaction of a group in RISING or UP (R292 to R295). -/
def takeFault (i : Nat) (primary : Bool) (s : State) : State :=
  match s.railHead i with
  | none => s
  | some x =>
    let c := s.cfg.rails.get i
    let g := c.group
    let k := pendKind x.kind
    let s1 := setRail i (fun y => { y with pends := y.pends.tail }) (raise k g i s)
    let live := (s.groupCur g).live
    let s2 := seqRecord g i k.2 x.tag x.v x.mon x.snap (!live || !primary) s1
    if !live then s2
    else
      let y := s.rail i
      let s3 := if primary then setGroup g (fun z => { z with primTaken := true }) s2 else s2
      let react := s.railReaction i x
      let spent := decide (react = 2) && decide (y.retries ≥ c.retries) &&
        (if x.kind = 1 then y.retrying else decide (c.reaction = 1 ∨ c.reaction = 3))
      let s4 := raiseIf spent kRetryExhausted g i s3
      let latched := fun s : State => if s.groupFalls g && !s.seq.sysReset then setGroup g (fun z => { z with latching := true }) s else s
      let s5 :=
        if react = 2 then ownFall g (x.kind ≠ 1 || y.retrying) x.tag s4
        else if react = 3 then systemReset g i s4
        else if react = 1 && !s4.groupFalls g && !s4.outranked g then retryRail g i s4
        else latched s4
      pullGroups x.tag s5

/-! ### The frame (R291) -/

/-- REMOTE rails confirm at the boundary that ends the intake frame of their report (R289). -/
def remoteRail (i : Nat) (s : State) : State :=
  let c := s.cfg.rails.get i
  if c.kind ≠ 2 then s
  else match s.ptFresh c.statePt with
    | none => s
    | some v =>
      let x := s.rail i
      let code := natOf v % 8
      let n := s.frameBase
      let go := x.edge.isNone && x.deadline.isSome && decide (n > x.edgeAt)
      let up := go && x.edgeUp && !x.up && decide (v = 2)
      let off := go && !x.edgeUp && !x.off && decide (v = 0)
      setRail i (fun x => { x with code := code, up := x.up || up, off := x.off || off, confAt := if up || off then n else x.confAt
                                   faultDone := x.faultDone && decide (v = 3) }) s

/-- RAIL_FAULT: a REMOTE rail of a group in RISING or UP reads FAULT (R293). -/
def remoteFault (i : Nat) (s : State) : State :=
  let c := s.cfg.rails.get i
  let x := s.rail i
  if decide (c.kind = 2) && x.up && decide (x.code = 3) && !x.faultDone && (s.groupCur c.group).live && x.pends.isEmpty then
    let s1 := pendRail i 5 s.frameBase s.seq.lastTag s (setRail i (fun x => { x with faultDone := true }) s)
    takeFault i (!(s1.group c.group).primTaken && s1.railFirst i) s1
  else s

/-- The phases of a rail that retries alone (Table 10.4). -/
def retryPhase (i : Nat) (s : State) : State :=
  let x := s.rail i
  if !x.retrying || x.edge.isSome then s
  else if !x.edgeUp then
    (if s.railDone x || s.railLate x then
      let t := if s.railDone x then x.confAt else x.deadline.getD 0
      placeAt i true (t + s.railTicks (s.cfg.rails.get i).upDelay) s
    else s)
  else if s.railDone x then setRail i (fun x => { x with retrying := false }) s
  else s

/-- A group in RISING or UP: target, input condition, the step in progress, rails that retry. -/
def liveGroup (g : Nat) (s : State) : State :=
  let x := s.groupCur g
  let s0 := setGroup g (fun y => { y with secondary := 0 }) s
  if !x.target || !s.seq.condOk.get g then fallGroup g false false s0
  else
    let s1 := (s0.groupRails g).foldl (fun s i => retryPhase i s) s0
    if x.st = .up then s1
    else match x.pos with
      | none => setGroup g (fun y => { y with st := .up }) s1
      | some p =>
        match s1.stepDone g p true with
        | none => s1
        | some t =>
          match (s1.positions g).find? fun q => decide (q > p) with
          | some q => placeStep g q true t (setGroup g (fun y => { y with pos := some q, tPrev := t }) s1)
          | none => setGroup g (fun y => { y with st := .up, tPrev := t }) s1

/-- A group in FALLING: the next step, or RESTING (R292). -/
def fallingGroup (g : Nat) (s : State) : State :=
  let x := s.groupCur g
  let rest := setGroup g (fun y => { y with st := .resting, restUntil := s.tim.frame + (s.cfg.groups.get g).minOff }) s
  match x.pos with
  | none => rest
  | some p =>
    match s.stepDone g p false with
    | none => s
    | some t =>
      match (s.positions g).reverse.find? fun q => decide (q < p) with
      | some q => placeStep g q false t (setGroup g (fun y => { y with pos := some q, tPrev := t }) s)
      | none => rest

/-- A group of an adopted rack whose REMOTE rails have been heard for one frame: it stays UP or OFF where they agree with its other
rails, a group without others is what they are, and any other falls without latching (R303). -/
def groupAdopted (g : Nat) (s : State) : State :=
  let rs := (s.groupRails g).filter fun i => (s.cfg.rails.get i).kind = 2
  let only := decide (rs.length = (s.groupRails g).length)
  let s1 := rs.foldl (fun s i =>
    let v := s.pt (s.cfg.rails.get i).statePt
    setRail i (fun x => { x with up := decide (v = 2), off := decide (v = 0), placed := decide (v ≠ 0), edgeUp := decide (v ≠ 0)
                                 code := natOf v % 8 }) s)
    (setGroupBoth g (fun x => { x with adopted := false }) s)
  let st := (s1.groupCur g).st
  let up := rs.all fun i => (s1.rail i).up
  let off := rs.all fun i => (s1.rail i).off
  if st = .falling then fallGroup g false false s1
  else if if st = .up then up else off then s1
  else if only && off then setGroupBoth g (fun x => { x with st := .off }) s1
  else raise kAdoptPartial g 0 (fallGroup g false false s1)

/-- One group in the running frame's work. -/
def groupFrame (g : Nat) (s : State) : State :=
  let x := s.groupCur g
  if s.seq.frozen then s
  else if x.adopted then groupAdopted g s
  else match x.st with
    | .off =>
      if x.target && s.seq.condOk.get g && !((s.cfg.groups.get g).cooperate && s.seq.seqfSeen) then riseGroup g s else s
    | .rising | .up => liveGroup g s
    | .falling => fallingGroup g s
    | _ => s

/-- Code of a group state (Table 10.3). -/
def groupCode : GroupState → Nat
  | .off => 0 | .rising => 1 | .up => 2 | .falling => 3 | .resting => 4 | .latched => 5 | .frozen => 6

/-- The points of R306: each frame supplies a fresh sample, whatever the sequencer's work (R87). -/
def seqPoints (s : State) : State :=
  let gs := s.groupsUsed.map fun g => (0xA80 + g, ((groupCode (s.groupCur g).st : Nat) : Int))
  let es := (List.range 32).map fun k => (0xAC0 + k, ((b2n (bvGet s.seq.en k) : Nat) : Int))
  sampleAll (gs ++ es ++ [(0xAE0, ((b2n s.seq.seqfLow + 2 * b2n s.seq.seqfDrive : Nat) : Int)),
    (0xAE1, ((s.seq.newest : Nat) : Int))]) s

/-- Frames in window toward retry_clear (R294). -/
def inWindowFrame (i : Nat) (x : Rail) : Rail :=
  let _ := i
  { x with inWin := if x.up && !x.retrying && x.winAll then min (x.inWin + 1) 65535 else 0, winAll := true }

/-- SEQUENCER_FRAME at the opening of a frame: group states and edges from the frame that ended (R291). pfi tells that PFI was
sampled asserted at some tick boundary of that frame. -/
def sequencerFrame (pfi : Bool) (s : State) : State :=
  let q := s.seq
  let ok : Tab Bool := s.groupsUsed.foldl (fun t g => t.put g (!q.monFail.get g)) []
  let clear := fun (_ : Nat) (x : Group) => { x with primTaken := false, reacted := false, bySeqf := false }
  let s1 := { s with seq := { q with nxt := tabMap clear q.cur, condOk := ok, monFail := [], frozen := q.frozen && pfi
                                     sysReset := false, seqfDriveNxt := false, rails := tabMap inWindowFrame q.rails } }
  let s2 := s1.railsUsed.foldl (fun s i => remoteRail i s) s1
  let s3 := s2.groupsUsed.foldl (fun s g => groupFrame g s) s2
  s3.railsUsed.foldl (fun s i => remoteFault i s) s3

/-- The sequencer's results take effect (R291, R296). -/
def sequencerApply (s : State) : State :=
  setSeq (fun q => { q with cur := q.nxt, seqfDrive := q.seqfDrive || q.seqfDriveNxt, seqfDriveNxt := false }) s

/-- The edge of a LOCAL or REMOTE rail comes about (R290): an EN output changes, or a GROUP_ORDER for the rail's node is due. -/
def railEdge (i : Nat) (s : State) : State :=
  let c := s.cfg.rails.get i
  let x := s.rail i
  match x.edge with
  | none => s
  | some e =>
    let s1 := setRail i (edgeOver e) s
    if c.kind = 1 then setSeq (fun q => { q with en := bvPut q.en c.en x.edgeUp }) s1
    else
      let o := (c.node, 256 * c.group + c.position, x.edgeUp)
      setSeq (fun q => { q with orders := if q.orders.contains o then q.orders else q.orders ++ [o] }) s1

/-- GROUP_ORDER_SEND: the REMOTE edges of the boundary that opens a frame (R290). -/
def remoteEdges (s : State) : State :=
  (s.railsUsed.filter fun i => decide ((s.cfg.rails.get i).kind = 2) && (s.rail i).edge.any fun e => decide (e ≤ s.absTick)).foldl
    (fun s i => railEdge i s) s

/-! ### Rows -/

/-- RAIL_EDGE (R290). -/
def execRailEdge (rail : Nat) (s : State) : Out :=
  whenDrives (s.railUsed rail && decide ((s.cfg.rails.get rail).kind ≠ 3) && (s.rail rail).edge.any fun e => decide (e ≤ s.absTick))
    s (railEdge rail)

/-- A happening of a rail of one kind is the next that the running frame's evaluation takes in. -/
def State.takeDue (s : State) (i kind : Nat) : Bool :=
  s.railUsed i && (s.railHead i).any (fun h => decide (h.kind = kind)) && s.railFirst i && !s.seqfBefore i

/-- The happening is taken in; the first of its evaluation is primary (R295). -/
def takeNext (i : Nat) (s : State) : State := takeFault i (!(s.group (s.cfg.rails.get i).group).primTaken) s

/-- RISE_TIMEOUT (R291, R294). -/
def execRiseTimeout (rail : Nat) (s : State) : Out := whenDrives (s.takeDue rail 1) s (takeNext rail)

/-- FALL_TIMEOUT: a secondary failure (R292). -/
def execFallTimeout (rail : Nat) (s : State) : Out := whenDrives (s.takeDue rail 2) s (takeFault rail false)

/-- RAIL_UV (R292, R293). -/
def execRailUv (rail : Nat) (s : State) : Out := whenDrives (s.takeDue rail 3) s (takeNext rail)

/-- RAIL_OV (R292, R293). -/
def execRailOv (rail : Nat) (s : State) : Out := whenDrives (s.takeDue rail 4) s (takeNext rail)

/-- RETRY_CLEAR: in window for retry_clear frames (R294). -/
def execRetryClear (rail : Nat) (s : State) : Out :=
  let x := s.rail rail
  whenDrives (s.railUsed rail && decide (x.retries > 0) &&
      decide ((s.cfg.groups.get (s.cfg.rails.get rail).group).retryClear ≤ x.inWin)) s
    (setRail rail fun x => { x with retries := 0 })

/-- A cooperating group falls latching through SEQF_N (Table 10.3). -/
def seqfFall (g : Nat) (s : State) : State :=
  if !(s.cfg.groups.get g).cooperate || !(s.groupCur g).live then s
  else if s.groupFalls g then setGroup g (fun x => { x with latching := true }) s
  else
    let s1 := seqRecord g 0xFFF kSeqfSeen.2 s.seq.seqfTag 0 0 (s.seq.seqfSnap.get g) (s.group g).primTaken (raise kSeqfSeen 96 0 s)
    setGroup g (fun x => { x with bySeqf := true, primTaken := true }) (fallGroup g true false s1)

/-- SEQF_SEEN: SEQF_N counted asserted; happenings of cooperating groups at the same boundary or before it come first
(R288, R295). -/
def execSeqfSeen (s : State) : Out :=
  let due := match s.seq.seqfAt with
    | none => false
    | some n => decide (n ≤ s.frameBase) && s.groupsUsed.all fun g => !((s.cfg.groups.get g).cooperate && (s.groupCur g).live &&
        (s.groupRails g).any fun i => (s.railHead i).any fun h => decide (h.bound ≤ n))
  whenDrives due s fun s =>
    setSeq (fun q => { q with seqfAt := none, seqfSnap := [] }) (s.groupsUsed.foldl (fun s g => seqfFall g s) s)

/-- MIN_OFF_END: the rest ends with the running frame (R291). -/
def execMinOffEnd (group : Nat) (s : State) : Out :=
  let x := s.group group
  whenDrives (s.groupUsed group && (s.groupCur group).st = .resting && x.st = .resting && decide (x.restUntil ≤ s.tim.frame)) s fun s =>
    if x.latching then raise kGroupLatched group 0 (setGroup group (fun y => { y with st := .latched }) s)
    else setGroup group (fun y => { y with st := .off }) s

/-- GROUP_UNFREEZE: a whole frame with PFI deasserted; latching is kept if set, and a latching fall by an own failure that the freeze
stopped pulls SEQF_N when it begins (R291, R296). -/
def execGroupUnfreeze (group : Nat) (s : State) : Out :=
  let x := s.group group
  whenDrives (s.groupUsed group && !s.seq.frozen && (s.groupCur group).st = .frozen && x.st = .frozen) s fun s =>
      let drive := x.latching && x.ownFail && (s.cfg.groups.get group).cooperate
      setSeq (fun q => { q with seqfDriveNxt := q.seqfDriveNxt || drive }) (fallGroup group x.latching x.ownFail s)

/-- GROUP_FREEZE: PFI first sampled asserted freezes what moves, cancels what is placed and cuts the records' writes (R299). -/
def freezeGroups (s : State) : State :=
  let one := fun (s : State) (g : Nat) =>
    let st := (s.groupCur g).st
    if st = .rising || st = .up || st = .falling then
      setGroupBoth g (fun _ => { s.group g with st := .frozen, interrupted := decide (st ≠ .up) }) s
    else if st = .off then setGroup g (fun _ => s.groupCur g) s
    else s
  let s1 := s.groupsUsed.foldl one s
  let rails := tabMap (fun _ x => { cancelRail 0 x with deadline := none }) s1.seq.rails
  setSeq (fun q => { q with frozen := true, rails := rails, seqfDriveNxt := false, recs := recordsCut q.recs }) s1

/-- CMD_SEQ_GROUP_SET (Table 10.8). -/
def cmdSeqGroupSet (group target : Nat) (s : State) : CmdOut :=
  unlessRefused
    [(!s.groupUsed group, rsAbsent, 0), (decide (target > 1), rsRange, 1),
     (decide (target = 1) && (s.groupCur group).st = .latched, rsState, 1)] s fun s =>
    wrote (setGroupBoth group (fun x => { x with target := decide (target = 1) }) s) [(0x0C, group, 0)]

/-- CMD_SEQ_CLEAR: a LATCHED group returns to OFF; SEQF_N is released with the last own failure (R296, R297). -/
def cmdSeqClear (group : Nat) (s : State) : CmdOut :=
  let other := (s.cfg.groups.get group).cooperate && s.seq.seqfSeen && !s.seq.seqfDrive
  unlessRefused
    [(!s.groupUsed group || (s.groupCur group).st ≠ .latched, rsState, 0), (other, rsState, 0)] s fun s =>
    let s1 := setGroupBoth group (fun x => { x with st := .off, latching := false, ownFail := false }) s
    let s2 := (s1.groupRails group).foldl (fun s i => setRail i (fun x => { x with retries := 0 }) s) s1
    let holds := s2.groupsUsed.any fun g => (s2.cfg.groups.get g).cooperate && (s2.groupCur g).ownFail && (s2.groupCur g).latching
    done (if holds then s2 else setSeq (fun q => { q with seqfDrive := false }) s2)

/-- Records from a sequence number on, whole, within 15 slots. A record of more than 15 slots fits no reply, so it is passed over
(DESIGN CHOICE, log entry 54): the records taken, and the newest that was taken or passed over. -/
def takeRecs : Nat → Option SeqRec → List SeqRec → List SeqRec × Option SeqRec
  | _, last, [] => ([], last)
  | room, last, r :: rest =>
    if 15 < r.slots then takeRecs room (some r) rest
    else if r.slots ≤ room then
      let (l, m) := takeRecs (room - r.slots) (some r) rest
      (r :: l, m)
    else ([], last)

/-- CMD_SEQ_LOG_READ: a deferred query (R302, R480). -/
def cmdSeqLogRead (h : CmdHeader) (first : Nat) (s : State) : CmdOut :=
  let (l, last) := takeRecs 15 none (s.seq.recs.filter fun r => decide (first ≤ r.seq))
  let next := match last with
    | some r => (r.seq + 1) % 4294967296
    | none => first
  later { s with hst := { s.hst with defData := s.hst.defData.put h.mbox (leBytes 4 next ++ (l.map SeqRec.bytes).flatten) } }

/-- CMD_SEQ_LOG_CLEAR (R302). -/
def cmdSeqLogClear (s : State) : CmdOut := done (setSeq (fun q => { q with recs := [], nextSlot := 0 }) s)

/-! ### Start and adoption (R285, R303) -/

/-- Targets at activation and at the end of boot (Table 10.2). -/
def startGroups (s : State) : State :=
  s.groupsUsed.foldl (fun s g => setGroupBoth g (fun x => { x with target := (s.cfg.groups.get g).autoUp }) s) s

/-- UV and OV of a rail's monitor as they stand at adoption, when no tick of logical time has sampled them yet (R303). -/
def State.railNow (s : State) (i : Nat) : Bool × Bool :=
  match monWith s.cfg (.rail i) with
  | none => (false, false)
  | some m => (s.monOn m && bvGet s.msr.uv m, s.monOn m && bvGet s.msr.ov m)

/-- One group taken from the levels that its EN outputs hold and from its monitors (R303). A group with REMOTE rails holds what its
other rails say until their reports are in, one without other rails UP (DEDUCED, log entry 54), and places no edge. -/
def adoptGroup (g : Nat) (s : State) : State :=
  let locals := (s.groupRails g).filter fun i => (s.cfg.rails.get i).kind = 1
  let watch := (s.groupRails g).filter fun i => (s.cfg.rails.get i).kind = 3
  let remote := (s.groupRails g).any fun i => (s.cfg.rails.get i).kind = 2
  let released := fun i => bvGet s.seq.en (s.cfg.rails.get i).en
  let inWin := fun i => let l := s.railNow i; !l.1 && !l.2
  let allUp := locals.all (fun i => released i && inWin i) && watch.all inWin
  let allOff := locals.all fun i => !released i
  let s1 := locals.foldl (fun s i => setRail i (fun x => { x with placed := released i, edgeUp := released i
                                                                  up := released i && inWin i, off := !released i }) s) s
  let s2 := watch.foldl (fun s i => setRail i (fun x => { x with up := inWin i, edgeUp := true }) s) s1
  let put := fun st => setGroupBoth g (fun x => { x with st := st, adopted := remote, target := (s.cfg.groups.get g).autoUp }) s2
  if allUp && (!locals.isEmpty || !watch.isEmpty || remote) then put .up
  else if allOff then put .off
  else if remote then raise kAdoptPartial g 0 (put .falling)
  else
    let s3 := fallGroup g false false (put .rising)
    raise kAdoptPartial g 0 (setSeq (fun q => { q with cur := q.cur.put g (q.nxt.get g) }) s3)

/-- Every group at adoption (R303). -/
def adoptGroups (s : State) : State := s.groupsUsed.foldl (fun s g => adoptGroup g s) s

end Sys2Proof.Machine
end

