-- ==== Sys2Proof/Machine/Memory.lean ====
section
/-! DEFINITION. Memory integrity, self-test in operation and the test access port (chapter 12, R348 to R366). -/
namespace Sys2Proof.Machine

/-- A change of the memory controller's state. -/
def setMem (f : Mem → Mem) (s : State) : State := { s with mem := f s.mem }

/-- The stripe group of an SRAM macro: data macros 0 to 63, parity macros 64 to 71 (R34, R348). -/
def macroGroup (m : Nat) : Nat := if m < 64 then m / 8 else m - 64

/-- What a group's four bits read with a macro mapped out (Table 12.7). -/
def macroCode (m : Nat) : Nat := if m < 64 then m % 8 + 1 else 9

/-- The four bits of a group in a degraded-block set. -/
def groupField (d : BitVec 64) (g : Nat) : Nat := bitsOf d.toNat (4 * g + 3) (4 * g)

/-- The macro that a group's four bits name. -/
def groupMacro (g code : Nat) : Nat := if code = 9 then 64 + g else 8 * g + code - 1

/-- A group's four bits written into an intact group's place. -/
def putGroup (d : BitVec 64) (g code : Nat) : BitVec 64 := d ||| BitVec.ofNat 64 (code * 2 ^ (4 * g))

/-- A data or parity macro is marked for map-out, in effect from the next boundary; a second macro of a group raises
SRAM_GROUP_FAIL with the reactions that the memory controller adds (R351, R352). -/
def markOut (m : Nat) (s : State) : State :=
  let g := macroGroup m
  let cur := groupField s.mem.degNext g
  if cur = 0 then setMem (fun x => { x with degNext := putGroup x.degNext g (macroCode m) }) s
  else if cur = macroCode m then s
  else addReset kSramGroupFail m (raise kSramGroupFail m 0 s)

/-- The macro's reads are rebuilt from its stripe, so they report nothing of their own (R351). -/
def State.mappedOut (s : State) (m : Nat) : Bool := groupField s.mem.degraded (macroGroup m) = macroCode m

/-- One inner correction in a macro; SRAM_CE once the count of the pass reaches the threshold (R350). -/
def countCorrection (m : Nat) (s : State) : State :=
  let x := s.mem.macros.get m
  let hit := decide (s.cfg.ceThreshold ≤ x.ce + 1) && !x.ceRaised
  let y := { x with ce := min (x.ce + 1) 65535, ceRaised := x.ceRaised || hit }
  raiseIf hit kSramCe m 0 (setMem (fun q => { q with macros := q.macros.put m y }) s)

/-- One rebuilt word of a data macro: reported once per macro and frame, and a macro rebuilt in enough rows of a pass is
mapped out (R350, R351). -/
def countRebuilt (stripe m : Nat) (s : State) : State :=
  let x := s.mem.macros.get m
  let row := stripeRow stripe
  let rows := if x.rebuilt.contains row then x.rebuilt else row :: x.rebuilt
  let first := decide (x.rebFrame ≠ some s.tim.frame)
  let y := { x with rebuilt := rows, rebFrame := some s.tim.frame }
  let s1 := raiseIf first kSramRebuilt m (64 * stripe + 8 * (m % 8))
    (setMem (fun q => { q with macros := q.macros.put m y }) s)
  if decide (s.cfg.rebuildMapout ≤ rows.length) then markOut m s1 else s1

/-- An uncorrectable word: SRAM_UE with SEAL and CHIP_RESET added, but for a word of host scratch, which only reads as an
error (R352). -/
def uncorrectable (stripe offset : Nat) (s : State) : State :=
  let m := stripeMacro stripe (stripeWord offset)
  let s1 := raise kSramUe m 0 s
  if isScratch offset then
    let w := (offset - scratchBase) / 8
    setMem (fun x => { x with scratchBad := if x.scratchBad.contains w then x.scratchBad else w :: x.scratchBad }) s1
  else addReset kSramUe m s1

/-- The counts of a scrub pass restart at its end (R350). -/
def restartCounts (m : Mem) : Mem :=
  { m with macros := tabMap (fun _ x => { x with ce := 0, ceRaised := false, rebuilt := [] }) m.macros }

/-- Word of a group's stripes that lies in a mapped-out macro: 8 for the parity macro. -/
def State.outWord (s : State) (g : Nat) : Option Nat :=
  let c := groupField s.mem.degraded g
  if c = 0 then none else if c = 9 then some 8 else some (c - 1)

/-- One stripe is read, corrected, rebuilt and checked; a parity word that differs from its data is written anew (R349 to R353). -/
def scrubStripe (u : StripeUpsets) (s : State) : State :=
  let stripe := (s.leh.jobs.get 1).pos
  let g := stripeGroup stripe
  let r := stripeRead s.mem stripe (s.outWord g) u
  let s0 := setMem (stripeSettle stripe u) s
  let s1 := r.fixed.foldl (fun s w => countCorrection (stripeMacro stripe w) s) s0
  let s2 := r.rebuilt.foldl (fun s w => countRebuilt stripe (stripeMacro stripe w) s) s1
  let s3 := if r.mismatch then raise kStripeMismatch (64 + g) 0 (setMem (rewriteParity stripe) s2) else s2
  let s4 := r.lost.foldl (fun s w => uncorrectable stripe (64 * stripe + 8 * w) s) s3
  if stripe = 262143 then setMem restartCounts s4 else s4

/-- SRAM_SCRUB_STRIPE (R353). -/
def execSramScrubStripe (upsets : StripeUpsets) (s : State) : Out :=
  whenTime (s.jobDue 1) s fun s => jobDone 1 (scrubStripe upsets s)

/-! ### MRAM (R354 to R356) -/

/-- The records of a log that lie in a line which holds wrong data fail their CRC-32C (R356). -/
def tearLine (base line : Nat) (l : LogSt) : LogSt :=
  { l with slots := (List.range 4).foldl (fun t k =>
      let slot := 4 * (line - base) + k
      if (t.get slot).typ = 0 then t else t.modify slot (fun x => { x with torn := true })) l.slots }

/-- Bytes of a table from an offset on, with the bits of a line inverted that were read wrong. -/
def flipBits (at0 : Nat) (bits : List Nat) (t : Tab Byte) : Tab Byte :=
  bits.foldl (fun t b => t.modify (at0 + b / 8) (fun x => x ^^^ BitVec.ofNat 8 (2 ^ (b % 8)))) t

/-- The impedance cells of a line of battery memory whose bits stand wrong: each holds a free value from now on, because the
spec lays out no bits of a cell (log entry 53). -/
def losePair (line : Nat) (bits : List Nat) (s : State) : State :=
  let m := (line - 0x16000) / 2
  let first := 64 * ((line - 0x16000) % 2)
  ((List.range 64).filter fun k => bits.any fun b => b / 32 = k).foldl (fun s k =>
    let (z, s1) := takeFree s
    let (n, s2) := takeFree s1
    let c : ZCell := { z := z, n := natOf n % 256 }
    let ix := 128 * m + first + k
    { s2 with bat := { s2.bat with ztab := s2.bat.ztab.put ix c, zlive := s2.bat.zlive.put ix c } }) s

/-- A pointer copy of a log fails its CRC-32C (R317, R356). -/
def losePointer (log copy : Nat) (s : State) : State :=
  let l := s.recd.log log
  { s with recd := s.recd.setLog log { l with copies := l.copies.modify copy (fun c => { c with bad := true }) } }

/-- Data bits that stand wrong in a line after it was read. What they are worth is for the owner's own check to say: a byte of
a batch slot or of the host area reads otherwise, a log's or the sequencer's record, a cycle record and a pointer copy fail their
CRC-32C (R356). The tables and the cycle records stand where R249 puts them; the places of a record's two copies and of the pointer
copies are the model's (DESIGN CHOICE, log entry 53); the rest of the journal and counters area is held as values that have no place,
so nothing of it changes. -/
def lineWrong (line : Nat) (bits : List Nat) (s : State) : State :=
  if bits.isEmpty then s
  else if line < 0x4000 then { s with bch := { s.bch with slotA := flipBits (256 * line) bits s.bch.slotA } }
  else if line < 0x8000 then { s with bch := { s.bch with slotB := flipBits (256 * (line - 0x4000)) bits s.bch.slotB } }
  else if line < 0x10000 then
    { s with recd := { s.recd with sealedLog := tearLine 0x8000 line s.recd.sealedLog } }
  else if line < 0x14000 then
    { s with recd := { s.recd with openLog := tearLine 0x10000 line s.recd.openLog } }
  else if 0x16000 ≤ line ∧ line < 0x16080 then losePair line bits s
  else if 0x16080 ≤ line ∧ line < 0x16082 then
    (List.range 6).foldl (fun s k =>
      let mine := (bits.filter fun b => b / 256 = k).map (· % 256)
      let ix := 2 * k + (line - 0x16080)
      { s with bat := { s.bat with crecs := s.bat.crecs.modify ix (flipList mine) } }) s
  else if 0x16400 ≤ line ∧ line < 0x16404 then losePointer ((line - 0x16400) / 2) (line % 2) s
  else if 0x16800 ≤ line ∧ line < 0x17000 then tearSeqLine line bits s
  else if 0x17000 ≤ line ∧ line < 0x1F000 then
    setMem (fun x => { x with nv := flipBits (256 * (line - 0x17000)) bits x.nv }) s
  else s

/-- The words of the host non-volatile area in a line that cannot be decoded read as errors (R551). -/
def lineLost (line : Nat) (s : State) : State :=
  if 0x17000 ≤ line ∧ line < 0x1F000 then
    let ws := (List.range 32).map (fun k => 32 * (line - 0x17000) + k)
    setMem (fun x => { x with nvBad := ws.filter (fun w => !x.nvBad.contains w) ++ x.nvBad }) s
  else s

/-- The outer parity of a line of the host area is written anew from its data (R355). -/
def rewriteOuter (line : Nat) (s : State) : State :=
  if 0x17000 ≤ line ∧ line < 0x1F000 then
    setMem (fun x => { x with outer := x.outer.put (line - 0x17000) (x.parityFor (line - 0x17000)) }) s
  else s

/-- The stored outer parity of a line differs from what its data call for; the state holds that parity for the host area. -/
def State.outerStale (s : State) (line : Nat) : Bool :=
  decide (0x17000 ≤ line ∧ line < 0x1F000) && s.mem.outerStale (line - 0x17000)

/-- One MRAM line is decoded (R354 to R356). -/
def scrubLine (u : LineUpsets) (s : State) : State :=
  let line := (s.leh.jobs.get 3).pos
  let addr := 256 * line
  let r := lineRead (s.outerStale line) u
  let count := add32 s.mem.mce r.corrected
  let ceHit := decide (s.cfg.ceThreshold ≤ count) && !s.mem.mceRaised
  let s1 := raiseIf ceHit kMramCe 72 0 (setMem (fun x => { x with mce := count, mceRaised := x.mceRaised || ceHit }) s)
  let rsHit := r.outer && !r.bad && decide (s.mem.rsFrame ≠ some s.tim.frame)
  let s2 := if rsHit then raise kMramRsCorrected 72 0 (setMem (fun x => { x with rsFrame := some s.tim.frame }) s1) else s1
  let s3 := lineWrong line r.left (if r.bad then lineLost line (raise kMramUe 72 addr s2) else s2)
  let s4 := if r.torn then raise kMramTornLine 72 addr (rewriteOuter line s3) else s3
  if line = 131071 then setMem (fun x => { x with mce := 0, mceRaised := false }) s4 else s4

/-- MRAM_SCRUB_LINE (R356). -/
def execMramScrubLine (upsets : LineUpsets) (s : State) : Out :=
  whenTime (s.jobDue 3) s fun s => jobDone 3 (scrubLine upsets s)

/-! ### Self-test (R358 to R361) -/

/-- Bit of the degraded-block set that a target other than an SRAM macro or the ROM sets (Table 12.7). -/
def targetBit (t : Nat) : Nat := t - 72 + 32

/-- A target failed twice: an SRAM macro is mapped out, another block is marked unusable, the ROM only raises ROM_FAIL
(Table 12.6, R361). -/
def targetFailed (t : Nat) (s : State) : State :=
  if t = 90 then raise kRomFail 74 0 (setMem (fun x => { x with degNext := bvPut x.degNext 50 true }) s)
  else
    let s1 := raise kBistFail 73 t s
    if t < 72 then markOut t s1 else setMem (fun x => { x with degNext := bvPut x.degNext (targetBit t) true }) s1

/-- Schedule of slices after a failed ROM signature: none but those that commands name (R358, Table 17.6). -/
def State.romFailed (s : State) : Bool := bvGet s.mem.degNext 50

/-- BIST_SLICE: the next commanded target, else the next of the schedule, runs its patterns; first and second say whether
the signature matched and, where it did not, whether the repeat did (R358, R361, Table 17.3). -/
def execBistSlice (first second : Bool) (s : State) : Out :=
  whenTime (!s.leh.pfiHold && !s.jobPaused 4 && (!s.mem.bistAsk.isEmpty || (s.jobDue 4 && !s.romFailed))) s fun s =>
    let failed := !first && !second
    match s.mem.bistAsk with
    | (t, mbox) :: rest =>
      let s1 := setMem (fun x => { x with bistAsk := rest }) s
      let s2 := if failed then targetFailed t s1 else s1
      finishDeferred mbox 0x1301 0 [if failed then 1 else 0, if first then 0 else 1] s2
    | [] =>
      let t := s.mem.bistPos
      let s1 := setMem (fun x => { x with bistPos := if t ≥ 90 then 0 else t + 1 }) (jobDone 4 s)
      if failed then targetFailed t s1 else s1

/-- The faults of the blocks that a change of the degraded-block set takes out: mapped-out macros, lanes, converters (R108, R140,
R351). -/
def degradedMessages (old : BitVec 64) (s1 : State) : State :=
  let s2 := (List.range 8).foldl (fun s g =>
    let c := groupField s.mem.degraded g
    raiseIf (decide (groupField old g = 0 ∧ c ≠ 0)) kMacroMappedOut (groupMacro g c) 0 s) s1
  let fresh := fun i : Nat => !bvGet old i && bvGet s2.mem.degraded i
  let s3 := (List.range 4).foldl (fun s i => raiseIf (fresh (32 + i)) kLaneFail (8 + i) 0 s) s2
  (List.range 10).foldl (fun s i => raiseIf (fresh (36 + i)) kAdcConvFail (260 + i) 0 s) s3

/-- The degraded-block set that earlier steps prepared comes into effect at a frame boundary (R351, R361, R362). -/
def degradedStep (s : State) : State := degradedMessages s.mem.degraded (setMem (fun x => { x with degraded := x.degNext }) s)

/-! ### Commands (Table 12.8) -/

/-- CMD_MEM_BIST_SLICE: the named target's slice runs next (R363). -/
def cmdMemBistSlice (h : CmdHeader) (target : Nat) (s : State) : CmdOut :=
  unlessRefused [(decide (target > 90), rsRange, 0), (decide (target = 90) && s.romFailed, rsState, 0)] s fun s =>
    later (setMem (fun x => { x with bistAsk := x.bistAsk ++ [(target, h.mbox)] }) s)

/-- A stage that is not OFF, or a channel that starts or is on (R364). -/
def State.anyLive (s : State) : Bool :=
  (List.range 6).any (fun st => s.stageUsed st && (s.stage st).st ≠ .off) ||
    s.chansUsed.any (fun c => (s.chan c).st = .starting || (s.chan c).st = .on)

/-- A command reset is due at the boundary that ends the acceptance frame, behind a flush that runs (R314, Table 17.4). -/
def askReset (s : State) : State :=
  let s1 := { s with sys := { s.sys with resetPending := some 4, resetAt := s.tim.frame } }
  if s1.recd.flushing then { s1 with recd := { s1.recd with flushFree := true } } else s1

/-- CMD_MEM_BIST_FULL: every target runs at the reset that follows (R363, R364). -/
def cmdMemBistFull (s : State) : CmdOut :=
  unlessRefused
    [(!decide (s.otp.lifecycle = .blank ∨ s.otp.lifecycle = .returned), rsLifecycle, noField),
     (s.anyLive, rsLive, noField)] s fun s =>
    done (askReset (setMem (fun x => { x with bistFull := true }) s))

/-! ### The test access port (R365, R366) -/

/-- An instruction becomes the current one: under EXTEST, CLAMP and HIGHZ the core die's logic pins leave its control. -/
def tapTo (i : TapInstr) (s : State) : State :=
  { s with tap := { s.tap with instr := i, pinsHeld := i = .extest || i = .clamp, highz := i = .highz } }

/-- BYPASS. -/
def execBypass (s : State) : Out := always s fun s => { tapTo .bypass s with tap := { (tapTo .bypass s).tap with dr := 0 } }

/-- SAMPLE/PRELOAD: the boundary register takes the preloaded levels. -/
def execSamplePreload (preload : List Bool) (s : State) : Out :=
  always s fun s => let t := tapTo .sample s; { t with tap := { t.tap with boundary := preload } }

/-- EXTEST. -/
def execExtest (s : State) : Out := always s (tapTo .extest)

/-- The value that IDCODE returns: revision letter 0xB, 0x9400, the manufacturer of CHIP_ID and 1 (R365). -/
def idcodeValue : Nat := 0xB * 268435456 + 0x9400 * 4096 + 0x3A * 2 + 1

/-- IDCODE. -/
def execIdcode (s : State) : Out :=
  always s fun s => let t := tapTo .idcode s; { t with tap := { t.tap with dr := idcodeValue } }

/-- CLAMP. -/
def execClamp (s : State) : Out := always s (tapTo .clamp)

/-- HIGHZ. -/
def execHighz (s : State) : Out := always s (tapTo .highz)

/-- The states in which the internal test instructions act (Table 12.9). -/
def State.testAllowed (s : State) : Bool := s.otp.lifecycle = .blank || s.otp.lifecycle = .returned

/-- An internal instruction where it is denied acts as BYPASS and is reported at the next frame boundary; where it is
permitted the spec gives it no effect (R365). -/
def internalTest (i : TapInstr) (s : State) : Out :=
  if s.testAllowed then .refused .internalTest
  else always s fun s =>
    let t := tapTo i s
    { t with tap := { t.tap with pinsHeld := false, highz := false, dr := 0 }, mem := { t.mem with testDenied := true } }

/-- INT_SCAN. -/
def execIntScan (s : State) : Out := internalTest .intScan s

/-- INT_MBIST. -/
def execIntMbist (s : State) : Out := internalTest .intMbist s

/-- INT_MEMACC. -/
def execIntMemacc (s : State) : Out := internalTest .intMemacc s

end Sys2Proof.Machine
end

