-- ==== Sys2Proof/Machine/Cane.lean ====
section
/-! DEFINITION. Cane links and nodes: intake, acknowledgement, discovery, loss and the transmit queues (chapter 15, R417 to
R431). -/
namespace Sys2Proof.Machine

/-- A change of one cane port. -/
def setCane (p : Nat) (f : CanePort → CanePort) (s : State) : State :=
  { s with pnt := { s.pnt with ports := s.pnt.ports.modify p f } }

/-- A change of one cane node. -/
def setNode (n : Nat) (f : CaneNode → CaneNode) (s : State) : State :=
  { s with pnt := { s.pnt with nodes := s.pnt.nodes.modify n f } }

/-- A cane port. -/
def State.cane (s : State) (p : Nat) : CanePort := s.pnt.ports.get p

/-- A cane node. -/
def State.node (s : State) (n : Nat) : CaneNode := s.pnt.nodes.get n

/-- The node is declared by the batch (R424). -/
def State.nodeUsed (s : State) (n : Nat) : Bool := decide (1 ≤ n ∧ n < 64) && (s.cfg.nodes.get n).present

/-- The declared nodes of a port. -/
def State.portNodes (s : State) (p : Nat) : List Nat :=
  (tabKeys s.cfg.nodes).filter fun n => s.nodeUsed n && decide ((s.cfg.nodes.get n).port = p)

/-- The port takes frames in: enabled, its link UP, not in crucible (R418, R431, Table 18.7). -/
def State.caneIn (s : State) (p : Nat) : Bool :=
  decide (p < 16) && (s.cane p).enabled && (s.cane p).up && !s.sys.crucible

/-- Instance of a node in PNT_ messages (Table 1.5). -/
def nodeInst (n : Nat) : Nat := 64 + n

/-- The sequence number after another: 65,535 wraps to 1 (R420). -/
def nextSeqNo (q : Nat) : Nat := if q ≥ 65535 then 1 else q + 1

/-! ### Transmission (R420, R422, R430) -/

/-- Frame types that carry no sequence (R420). -/
def unsequenced (typ : Nat) : Bool := typ = 0 || typ = 6 || typ = 7

/-- One queued frame leaves: unsequenced ones at once, sequenced ones while fewer than 8 of the node's are unacknowledged
(R422); the result says whether it left. -/
def sendFrame (p : Nat) (f : CaneFrame) (s : State) : Bool × State :=
  let out := fun g : CaneFrame => setCane p (fun x => { x with sent := x.sent ++ [g] })
  if unsequenced f.typ then (true, out { f with seq := 0, sends := 1 } s)
  else
    let x := s.node f.node
    if x.unacked.length ≥ 8 then (false, s)
    else
      let g := { f with seq := x.txNext, sends := 1 }
      (true, out g (setNode f.node (fun x => { x with txNext := nextSeqNo x.txNext, unacked := x.unacked ++ [g] }) s))

/-- Every queued frame that may leave does so in queue order; a frame whose node's window is full waits (R422). -/
def drainQueue (p : Nat) : List CaneFrame → State → State
  | [], s => s
  | f :: r, s =>
    let (left, s1) := sendFrame p f s
    if left then drainQueue p r s1 else drainQueue p r (setCane p (fun x => { x with txq := x.txq ++ [f] }) s1)

/-- The queue of a port is worked off. -/
def drainPort (p : Nat) (s : State) : State := drainQueue p (s.cane p).txq (setCane p (fun x => { x with txq := [] }) s)

/-- A frame enters the port's queue, or is discarded and counted where 128 wait (R430). -/
def pushFrame (p : Nat) (f : CaneFrame) (s : State) : State :=
  let x := s.cane p
  if x.txq.length < 128 then setCane p (fun x => { x with txq := x.txq ++ [f] }) s
  else
    let s1 := raiseIf (!x.discardRaised) kCaneQueueDiscard p 0
      (setCane p (fun x => { x with discardRaised := true, discardNow := true }) s)
    { s1 with pnt := { s1.pnt with queueDiscard := inc32 s1.pnt.queueDiscard } }

/-- FRAME_MARK (Table 15.5). -/
def frameMark (s : State) : CaneFrame :=
  let hold := match s.shr.hold.st with
    | .normal => 0
    | .holdup => 1
    | .handback => 2
  { typ := 6
    payload := leBytes 6 s.tim.frame ++ leBytes 1 s.cfg.tickPeriods ++ leBytes 1 (s.cfg.frameTicks - 1) ++
      leBytes 8 s.tim.stamp ++ leBytes 4 s.cfg.nominalNs ++ leBytes 1 hold ++ leBytes 1 (b2n s.tim.unreferenced) ++
      leBytes 2 0 }

/-- GROUP_ORDER (Table 15.5). -/
def groupOrder (frame node code : Nat) (up : Bool) : CaneFrame :=
  { typ := 4, node := node
    payload := leBytes 1 (code / 256) ++ leBytes 1 (code % 256) ++ leBytes 1 (b2n up) ++ leBytes 1 0 ++ leBytes 6 frame }

/-- GRANT for up to 16 domains of a node (Table 15.5, R218). -/
def grantFrame (s : State) (node : Nat) (ds : List Nat) : CaneFrame :=
  { typ := 3, node := node
    payload := leBytes 1 ds.length ++ leBytes 1 0 ++ leBytes 6 s.tim.frame ++ ds.flatMap (fun d =>
      leBytes 1 (s.cfg.doms.get d).number ++ leBytes 1 0 ++ leBytes 2 s.cfg.lehr.grantLease ++
        leInt 4 (s.leh.cur.doms.get d).grant) }

/-- NODE_INFO of a kind (Table 15.5). -/
def nodeInfo (kind hop node : Nat) (rest : List Byte) : CaneFrame :=
  { typ := 7, node := if kind = 0 then 0 else node
    payload := leBytes 1 kind ++ leBytes 1 hop ++ leBytes 1 node ++ leBytes 1 1 ++ rest }

/-- The GROUP_ORDERs of one boundary for the joined nodes of a port, in group order (R290, R430). -/
def queueOrders (p : Nat) (s : State) : State :=
  let mine := s.seq.orders.filter fun o => decide ((s.cfg.nodes.get o.1).port = p) && (s.node o.1).joined
  let sorted := sortBy (fun a b => decide (a.2.1 < b.2.1)) mine
  sorted.foldl (fun s o => pushFrame p (groupOrder s.tim.frame o.1 o.2.1 o.2.2) s) s

/-- The GRANTs of one boundary for the joined nodes of a port, packed 16 to a frame, in domain index order (R430). -/
def queueGrants (p : Nat) (s : State) : State :=
  let ds := sortBy (fun a b => decide (a < b)) s.leh.grantsDue
  (s.portNodes p).foldl (fun s n =>
    if !(s.node n).joined then s
    else (chunksOf 16 40 (ds.filter fun d => (s.cfg.doms.get d).node = n)).foldl
      (fun s c => if c.isEmpty then s else pushFrame p (grantFrame s n c) s) s) s

/-- CANE_TRANSMIT_QUEUE for one port: FRAME_MARK, GROUP_ORDERs, GRANTs, NODE_INFO (R430); during a service pause
FRAME_MARK alone with NODE_INFO (Table 18.5). Accepts of nodes that join at the boundary come with it. -/
def queuePort (accepts : List Nat) (p : Nat) (s : State) : State :=
  let s0 := setCane p (fun x => { x with sent := [], discardNow := false }) s
  if !s.drives || s.sys.crucible || !(s.cane p).enabled then s0
  else
    let s1 := pushFrame p (frameMark s0) s0
    let s2 := if s1.bch.inPause then s1 else queueGrants p (queueOrders p s1)
    let s3 := if (s2.cane p).queryDue then pushFrame p (nodeInfo 0 0 0 []) s2 else s2
    let s4 := (accepts.filter fun n => (s3.cfg.nodes.get n).port = p).foldl (fun s n =>
      pushFrame p (nodeInfo 2 (s.cfg.nodes.get n).position n (leBytes 6 s.tim.frame)) s) s3
    let s5 := (s4.cane p).rejectDue.foldl (fun s r => pushFrame p (nodeInfo 3 0 r.1 (leBytes 1 r.2)) s) s4
    let f := fun x : CanePort => { x with queryDue := false, rejectDue := [], discardRaised := x.discardNow }
    drainPort p (setCane p f s5)

/-- CANE_ACK: a node acknowledges every frame below a sequence; the GRANTs among them count as delivered (R216, R421). -/
def grantAcks (f : CaneFrame) (s : State) : State :=
  if f.typ ≠ 3 then s
  else
    let issue := field f.payload 2 6
    (List.range (field f.payload 0 1)).foldl (fun s k =>
      match s.domOf f.node (field f.payload (8 + 8 * k) 1) with
      | none => s
      | some d => setDomBoth d (fun x => if x.decFrom.any (fun n => decide (n < issue)) then { x with decFrom := none } else x) s) s

/-- The frames that an ACK takes off, and those that stay: none go where the sequence is neither that of a waiting frame
nor the next to be given. -/
def ackedFrames (next seq : Nat) (l : List CaneFrame) : List CaneFrame × List CaneFrame :=
  if seq = next then (l, [])
  else if l.any (fun f => f.seq = seq) then (l.takeWhile (fun f => f.seq ≠ seq), l.dropWhile (fun f => f.seq ≠ seq))
  else ([], l)

/-- A valid frame from a node of the port. -/
def hear (n : Nat) (s : State) : State :=
  endOnce kCaneCrc (s.cfg.nodes.get n).port (setNode n (fun x => { x with heard := true }) s)

/-- CANE_ACK (R421). A standby takes the node's count of the holder's frames from it (R383). -/
def execCaneAck (node seq : Nat) (s : State) : Out :=
  whenTime (s.nodeUsed node && s.caneIn (s.cfg.nodes.get node).port) s fun s =>
    let s1 := hear node s
    if !s.drives then setNode node (fun x => { x with txNext := seq }) s1
    else if !(s.node node).joined then s1
    else
      let x := s1.node node
      let (gone, rest) := ackedFrames x.txNext seq x.unacked
      let s2 := gone.foldl (fun s f => grantAcks f s) (setNode node (fun x => { x with unacked := rest }) s1)
      drainPort (s.cfg.nodes.get node).port s2

/-- CANE_RETRANSMIT: every unacknowledged frame is sent again, oldest first; a frame sent four times loses the node (R422). -/
def execCaneRetransmit (node : Nat) (s : State) : Out :=
  let x := s.node node
  whenTime (s.drives && s.nodeUsed node && x.joined && !x.unacked.isEmpty && !x.lostDue && !s.sys.crucible) s fun s =>
    if x.unacked.any (fun f => f.sends ≥ 4) then
      raise kCaneRetryExhausted (nodeInst node) 0 (setNode node (fun x => { x with lostDue := true }) s)
    else
      let again := x.unacked.map (fun f => { f with sends := f.sends + 1 })
      let s1 := setNode node (fun x => { x with unacked := again, retries := add32 x.retries again.length }) s
      setCane (s.cfg.nodes.get node).port (fun x => { x with sent := x.sent ++ again }) s1

/-! ### Intake (R414, R419, R421, R426, R427, R429) -/

/-- What becomes of a sequenced frame. -/
def takes (s : State) (node seq : Nat) : Bool :=
  let x := s.node node
  if s.drives then x.joined && decide (seq = x.rxNext)
  else !x.joined || decide (nextSeqNo seq ≠ x.rxNext)

/-- The device in control answers with an ACK that holds the next expected sequence (R421). -/
def sendAck (node : Nat) (s : State) : State :=
  if !s.drives then s
  else setCane (s.cfg.nodes.get node).port (fun x => { x with
    sent := x.sent ++ [{ typ := 0, node := node, seq := (s.node node).rxNext, sends := 1 }] }) s

/-- The frame counts as taken and acknowledged, and the next one is expected; a standby that only listens follows the node's own
count (R383, R421). -/
def taken (node seq : Nat) (s : State) : State :=
  sendAck node (setNode node (fun x => { x with rxNext := nextSeqNo seq, joined := true }) s)

/-- A frame below the expected one, modulo 2^16: a repeat (R421). -/
def repeated (s : State) (node seq : Nat) : Bool :=
  let d := ((s.node node).rxNext + 65536 - seq % 65536) % 65536
  (s.node node).joined && decide (0 < d ∧ d < 32768)

/-- A sequenced frame arrives: it is taken, or it is a repeat, which is acknowledged again, or ahead of the next expected one;
a frame that is not taken changes nothing but the node's liveness (R421). -/
def intakeFrame (node seq : Nat) (s : State) (f : State → State) : Out :=
  whenTime (s.nodeUsed node && s.caneIn (s.cfg.nodes.get node).port) s fun s =>
    let s1 := hear node s
    if takes s node seq then f s1 else if repeated s node seq then sendAck node s1 else s1

/-- A frame that is acknowledged, discarded and counted (R426). -/
def discardFrame (s : State) : State :=
  { s with pnt := { s.pnt with frmDiscard := inc32 s.pnt.frmDiscard } }

/-- One entry of a POINT_UPDATE: a sample, or discarded and counted (R414, R427). -/
def pointEntry (node : Nat) (e : Nat × Byte × Int) (s : State) : State :=
  let i := e.1 % 4096
  let id := 4096 * node + i
  if i ≥ 0xFF1 || ptType s.cfg id = 0 then { s with pnt := { s.pnt with updDiscard := inc32 s.pnt.updDiscard } }
  else sampleFl id e.2.2 (bvGet e.2.1 0) (bvGet e.2.1 1) (bvGet e.2.1 2) s

/-- CANE_POINT_UPDATE: past the budget it is neither acknowledged nor taken (R414, R429). -/
def execCanePointUpdate (node seq : Nat) (entries : List (Nat × Byte × Int)) (s : State) : Out :=
  intakeFrame node seq s fun s =>
    let x := s.node node
    if entries.length = 0 ∨ 42 < entries.length then discardFrame (taken node seq s)
    else if (s.cfg.nodes.get node).budget < x.taken + entries.length then
      raiseIf (!x.overRaised) kIntakeOverflow (nodeInst node) 0
        (setNode node (fun x => { x with overRaised := true, overNow := true }) s)
    else
      let s1 := setNode node (fun x => { x with taken := x.taken + entries.length }) (taken node seq s)
      entries.foldl (fun s e => pointEntry node e s) s1

/-- CANE_DEMAND: the requests of the named domains, part of the next frame's input set (R211). -/
def execCaneDemand (node seq : Nat) (entries : List (Nat × Nat)) (s : State) : Out :=
  intakeFrame node seq s fun s =>
    let s1 := taken node seq s
    if entries.length = 0 ∨ 16 < entries.length then discardFrame s1
    else entries.foldl (fun s e =>
      match s.domOf node (e.1 % 16) with
      | none => s
      | some d => setDomBoth d (fun x => { x with reqNew := some (e.2 : Int), demandCur := true, nodeGone := false }) s) s1

/-- CANE_FAULT_NOTE: code, context and running count become samples of the node's points (R427). -/
def execCaneFaultNote (node seq code : Nat) (context : Int) (s : State) : Out :=
  intakeFrame node seq s fun s =>
    let s1 := setNode node (fun x => { x with notes := inc32 x.notes }) (taken node seq s)
    let base := 4096 * node
    sampleAll [(base + 0xFF1, (code : Int)), (base + 0xFF2, context), (base + 0xFF3, ((s1.node node).notes : Int))] s1

/-- CANE_CRC: a faulty frame is discarded without an ACK and reported once per excursion, which the port's next valid frame
ends (R419). -/
def execCaneCrc (port : Nat) (s : State) : Out := whenTime (s.caneIn port) s (raiseOnce kCaneCrc port 0)

/-! ### Discovery and loss (R418, R425) -/

/-- CANE_LINK_UP: a query goes out at the coming boundary (R418, R425). -/
def execCaneLinkUp (port : Nat) (s : State) : Out :=
  whenTime (decide (port < 16) && (s.cane port).enabled && !(s.cane port).up && !s.sys.crucible) s fun s =>
    raise kCaneLinkUp port 0 (setCane port (fun x => { x with up := true, queryDue := true, queryAge := 0 }) s)

/-- CANE_LINK_DOWN: every joined node of the port is lost at the coming boundary (R418, R425). -/
def execCaneLinkDown (port : Nat) (s : State) : Out :=
  whenTime (decide (port < 16) && (s.cane port).up) s fun s =>
    let s1 := setCane port (fun x => { x with up := false, joinDue := [], joinNew := [] }) s
    raise kCaneLinkDown port 0 ((s.portNodes port).foldl (fun s n =>
      setNode n (fun x => { x with lostDue := x.joined }) s) s1)

/-- A node is lost: its points carry node_lost, its domains hear of it (R212, R425). -/
def loseNode (n : Nat) (s : State) : State :=
  let s1 := setNode n (fun x => { x with joined := false, lostDue := false, unacked := [], lostFor := 0, silent := 0
                                         rxNext := 1, txNext := 1 }) s
  let s2 := setCane (s.cfg.nodes.get n).port (fun x => { x with txq := x.txq.filter (fun f => f.node ≠ n) }) s1
  let s3 := (s.domsUsed.filter fun d => (s.cfg.doms.get d).node = n).foldl
    (fun s d => setDomBoth d (fun x => { x with nodeGone := true }) s) s2
  raise kNodeLost (nodeInst n) 0 s3

/-- NODE_LOST: silence for node_timeout frames, the running one included, or a loss that is due; it takes effect at the
boundary that ends the running frame (R425). -/
def execNodeLost (node : Nat) (s : State) : Out :=
  let x := s.node node
  let quiet := !x.heard && decide ((s.cfg.nodes.get node).timeout ≤ x.silent + 1)
  whenTime (s.tim.frameDue && s.nodeUsed node && x.joined && (x.lostDue || quiet)) s fun s =>
    let t := loseNode node { s with tim := { s.tim with frame := s.tim.frame + 1 } }
    { t with tim := { t.tim with frame := s.tim.frame } }

/-- Joined nodes of a port. -/
def State.joinedCount (s : State) (p : Nat) : Nat := ((s.portNodes p).filter fun n => (s.node n).joined).length

/-- NODE_QUERY: every 64 frames while the port has fewer joined nodes than the batch declares (R425). -/
def execNodeQuery (port : Nat) (s : State) : Out :=
  let x := s.cane port
  whenTime (s.tim.frameDue && s.drives && s.caneIn port && decide (64 ≤ x.queryAge) &&
      decide (s.joinedCount port < (s.portNodes port).length)) s
    (setCane port fun x => { x with queryDue := true, queryAge := 0 })

/-- A report that is rejected: 1 unknown, 2 duplicate, 3 wrong port or hop (Table 15.5). -/
def rejectReason (s : State) (node : Nat) : Nat :=
  if !s.nodeUsed node then 1 else if (s.node node).joined then 2 else 3

/-- CANE_NODE_INFO: a report joins its node, marks a restart of a joined one, or is rejected (R425). -/
def execCaneNodeInfo (port hop node : Nat) (ident : List Byte) (domains _highest : Nat) (s : State) : Out :=
  whenTime (s.caneIn port && s.drives) s fun s =>
    let s0 := endOnce kCaneCrc port s
    let c := s.cfg.nodes.get node
    if s.nodeUsed node && decide (c.port = port ∧ c.position = hop) then
      let s1 := setNode node (fun x => { x with heard := true, ident := ident, domains := domains }) s0
      if (s.node node).joined then setNode node (fun x => { x with lostDue := true }) s1
      else
        setCane port (fun x => { x with joinNew := if x.joinNew.contains node then x.joinNew else x.joinNew ++ [node] }) s1
    else if (s.cane port).rejected.contains node then s0
    else
      raise kNodeConflict (nodeInst node) (4 * port + hop) (setCane port (fun x =>
        { x with rejected := node :: x.rejected, rejectDue := x.rejectDue ++ [(node, rejectReason s node)] }) s0)

/-- NODE_JOINED: both counters restart at 1 (R425). -/
def joinNode (n : Nat) (s : State) : State :=
  if (s.node n).joined then s
  else
    raise kNodeJoined (nodeInst n) 0 (setNode n (fun x =>
      { x with joined := true, rxNext := 1, txNext := 1, unacked := [], silent := 0, lostFor := 0, lostDue := false }) s)

/-- The counts of a node at a frame boundary (R425, R429). -/
def nodeFrame (x : CaneNode) : CaneNode :=
  { x with silent := if x.heard then 0 else min (x.silent + 1) 65535, heard := false, taken := 0
           overRaised := x.overNow, overNow := false
           lostFor := if x.joined then 0 else min (x.lostFor + 1) 65535 }

/-- The nodes at a frame boundary: losses that are due, joins that are due, counts; the answer names the nodes that joined
(R425). -/
def nodesFrame (s : State) : List Nat × State :=
  let due := (List.range 16).flatMap fun p => (s.cane p).joinDue
  let s1 := ((tabKeys s.pnt.nodes).filter fun n => (s.node n).lostDue && (s.node n).joined).foldl (fun s n => loseNode n s) s
  let s2 := due.foldl (fun s n => joinNode n s) s1
  let nodes := tabMap (fun _ x => nodeFrame x) s2.pnt.nodes
  let ports := (List.range 16).foldl (fun t p => t.modify p (fun x =>
    { x with joinDue := x.joinNew, joinNew := [], queryAge := min (x.queryAge + 1) 127 })) s2.pnt.ports
  (due, { s2 with pnt := { s2.pnt with nodes := nodes, ports := ports } })

/-- CANE_TRANSMIT_QUEUE for every port; the orders and grants of the boundary are spent (R430). -/
def caneQueues (accepts : List Nat) (s : State) : State :=
  let s1 := (List.range 16).foldl (fun s p => queuePort accepts p s) s
  if s1.bch.inPause then s1 else { s1 with seq := { s1.seq with orders := [] }, leh := { s1.leh with grantsDue := [] } }

/-! ### Commands and block reset -/

/-- CMD_CANE_PORT_SET: a disable discards and counts the queue and loses the port's nodes (R431). -/
def cmdCanePortSet (port : Nat) (on : Bool) (s : State) : CmdOut :=
  unlessRefused [(decide (port ≥ 16), rsRange, 0)] s fun s =>
    if on then wrote (setCane port (fun x => { x with enabled := true }) s) [(0x10, port, 0)]
    else
      let n := (s.cane port).txq.length
      let hit := decide (n > 0) && !(s.cane port).discardRaised
      let s1 := raiseIf hit kCaneQueueDiscard port 0
        { s with pnt := { s.pnt with queueDiscard := add32 s.pnt.queueDiscard n } }
      let s2 := setCane port (fun x => { x with enabled := false, txq := [], joinDue := [], joinNew := [], queryDue := false
                                                rejectDue := [], discardRaised := x.discardRaised || hit }) s1
      wrote (((s.portNodes port).filter fun n => (s.node n).joined).foldl (fun s n => loseNode n s) s2) [(0x10, port, 0)]

/-- CMD_CANE_NODE_RETRY: a standing rejection ends (R425). -/
def cmdCaneNodeRetry (port node : Nat) (s : State) : CmdOut :=
  unlessRefused [(decide (port ≥ 16), rsRange, 0), (!(s.cane port).rejected.contains node, rsState, 1)] s fun s =>
    done (setCane port (fun x => { x with rejected := x.rejected.filter (· ≠ node) }) s)

/-- Block reset of PNT_: a port or a node restarts from its link-down state (Table 12.4). -/
def resetPnt (inst : Nat) (s : State) : State :=
  if inst < 16 then
    let s1 := setCane inst (fun x => { enabled := x.enabled }) s
    ((s.portNodes inst).filter fun n => (s.node n).joined).foldl (fun s n => loseNode n s) s1
  else if inst > 64 ∧ (s.node (inst - 64)).joined then loseNode (inst - 64) s
  else s

end Sys2Proof.Machine
end

