-- ==== Sys2Proof/Machine/Redundancy.lean ====
section
/-! DEFINITION. Redundant pairs: PEER, HOLD_N, the punty, the claim handshake, the guard and the mirror (chapter 13). What a
device that takes control restarts stands in the control module. -/
namespace Sys2Proof.Machine

/-- A change of the redundancy state. -/
def setRed (f : Red → Red) (s : State) : State := { s with red := f s.red }

/-! ### PEER (R374) -/

/-- A message is called for: it leaves once every earlier one has been acknowledged. -/
def peerSend (m : PeerMsg) (s : State) : State := setRed (fun r => { r with sent := r.sent ++ [m] }) s

/-- The oldest message goes out with the next sequence number where none is in flight. -/
def peerPump (s : State) : State :=
  if s.red.unacked.isSome || s.red.sent.isEmpty then s
  else setRed (fun r => { r with unacked := some r.txSeq, txSeq := (r.txSeq + 1) % 256, retries := 0 }) s

/-- The first 16 bytes of the live batch's digest, zeros where none is live (Table 13.2). -/
def State.ownDigest (s : State) : List Byte := padTo 16 s.bch.digest

/-- HELLO as this device sends it. -/
def helloOf (s : State) : PeerMsg := .hello s.sys.pairOrd s.ownDigest s.tim.frame s.red.epoch s.red.st

/-- The link restarts from HELLO (R374). -/
def peerRestart (s : State) : State :=
  peerPump (setRed (fun r => { r with
    sent := [helloOf s], unacked := none, retries := 0, peerUp := false, mirComplete := false, mirTrack := false }) s)

/-- A valid message comes in and is acknowledged; a repeat of the frame last taken in is not taken again (R374, R375). -/
def peerTake (p : PeerHdr) (s : State) (f : State → State) : Out :=
  whenTime true s fun s =>
    let s1 := setRed (fun r => { r with peerMsg := true, ackTx := some p.seq }) s
    if s.red.lastRx = some p.seq then s1 else f (setRed (fun r => { r with lastRx := some p.seq }) s1)

/-- The epoch that a holder's message carries. -/
def noteEpoch (e : Nat) (s : State) : State := setRed (fun r => { r with mirEpoch := e }) s

/-- PEER_ACK: the acknowledged frame is done with and the next goes out (R374). -/
def execPeerAck (seq : Nat) (s : State) : Out :=
  whenTime (s.red.unacked = some seq) s fun s =>
    peerPump (setRed (fun r => { r with unacked := none, retries := 0, sent := r.sent.drop 1 }) s)

/-- PEER_RETRANSMIT: a repeat, or after three the link error and the restart (R374). -/
def execPeerRetransmit (s : State) : Out :=
  whenTime s.red.unacked.isSome s fun s =>
    if s.red.retries < 3 then
      setRed (fun r => { r with retries := r.retries + 1, linkRetries := inc32 r.linkRetries }) s
    else peerRestart (raise kPeerLinkError 0 0 (setRed (fun r => { r with linkErrors := inc32 r.linkErrors }) s))

/-- PEER_CRC_DISCARD: no ACK, nothing taken in (R374). -/
def execPeerCrcDiscard (s : State) : Out := whenTime true s id

/-- What a HELLO changes: the link is live, digests and straps are compared, the mirror starts over (R376, R382). -/
def takeHello (epoch : Nat) (pairOrd : Bool) (digest : List Byte) (frame : Nat) (role : Punty) (s : State) : State :=
  let bad := decide (padTo 16 digest ≠ s.ownDigest) || pairOrd = s.sys.pairOrd
  let ahead := s.red.st = .holder && role ≠ .holder && decide (s.tim.frame < frame)
  let s1 := if s.red.peerUp then peerSend (helloOf s) s else s
  let s2 := setRed (fun r => { r with
    peerUp := true, mismatch := bad, mirComplete := false, mirPass := [], mirStage := [], mirTrack := r.st = .holder
    mirFrame := 0, refresh := 0, mirSent := [], renewAge := 65535
    mirEpoch := if role = .holder then epoch else r.mirEpoch
    alignPend := if ahead then some (frame + 1) else r.alignPend, grantsAll := r.grantsAll || ahead }) s1
  peerPump (raiseIf bad kPeerMismatch 0 0 s2)

/-- PEER_HELLO (R374, R376): a HELLO is taken whatever sequence the restarted link gives it. -/
def execPeerHello (p : PeerHdr) (pairOrd : Bool) (digest : List Byte) (frame : Nat) (role : Punty) (s : State) : Out :=
  whenTime true s fun s =>
    takeHello p.epoch pairOrd digest frame role (setRed (fun r => { r with peerMsg := true, ackTx := some p.seq, lastRx := some p.seq }) s)

/-- The EN outputs are released (Table 13.1). -/
def releaseEn (s : State) : State :=
  { s with seq := { s.seq with en := BitVec.allOnes 32, seqfDrive := false, seqfDriveNxt := false }
           red := { s.red with enFollow := false } }

/-- SEEKING ends: another device holds the punty (Table 13.3, R372). -/
def standBy (s : State) : State :=
  if s.red.st = .seeking then releaseEn (setRed (fun r => { r with st := .standby }) s) else s

/-- The first RENEW aligns frame number and tick index; a frame number never moves backward (R46, R376). -/
def alignTo (frame : Nat) (s : State) : State :=
  if s.red.aligned || s.tim.frame > frame then s
  else setTim (fun t => { t with frame := frame, tick := 0, frameDue := false })
    (setRed (fun r => { r with aligned := true }) s)

/-- PEER_RENEW (R376, Table 13.3). -/
def execPeerRenew (p : PeerHdr) (frame _lease : Nat) (s : State) : Out :=
  peerTake p s fun s =>
    match s.red.st with
    | .holder => setRed (fun r => { r with yieldDue := r.yieldDue || decide (r.epoch < p.epoch) }) s
    | .claiming => s
    | _ => alignTo frame (standBy (noteEpoch p.epoch s))

/-- PEER_YIELD: the standby claims at the coming boundary (Table 13.3). -/
def execPeerYield (p : PeerHdr) (_reason : Nat) (s : State) : Out :=
  peerTake p s fun s =>
    if s.red.st = .standby then setRed (fun r => { r with yieldIn := true }) (noteEpoch p.epoch s) else s

/-- RENEW_SEND: at least every lease/4 frames, at the boundary that ends the running frame, with the frame that it opens (R374). -/
def execRenewSend (s : State) : Out :=
  whenTime (s.tim.frameDue && s.red.st = .holder && s.red.peerUp && decide (s.cfg.puntyLease / 4 ≤ s.red.renewAge + 1)) s fun s =>
    peerPump (peerSend (.renew s.red.epoch (s.tim.frame + 1) s.cfg.puntyLease) (setRed (fun r => { r with renewAge := 0 }) s))

/-! ### HOLD_N (R372, R373, R375) -/

/-- EN outputs of a device that follows peer_live: released while it is set, low while it is clear (R372). -/
def followPeerLive (s : State) : State :=
  if s.red.enFollow then { s with seq := { s.seq with en := if s.wrm.peerLive then BitVec.allOnes 32 else 0 } } else s

/-- HOLD_N_PULSE: the warmer sets peer_live; the core die counts the pulse where its boundaries sampled it, and a seeking
device stands by (R372, R373, Table 13.3). -/
def execHoldNPulse (s : State) : Out :=
  always s fun s =>
    let s1 := followPeerLive { s with wrm := { s.wrm with peerLive := true } }
    if s1.timeRuns && s1.red.pulseDue then
      standBy (setRed (fun r => { r with pulse := true, pulseDue := false }) s1)
    else s1

/-- PEER_LIVE_TIMEOUT: 64 ms without a pulse (R372). -/
def execPeerLiveTimeout (s : State) : Out :=
  whenDue s.wrm.peerLive s fun s => followPeerLive { s with wrm := { s.wrm with peerLive := false } }

/-- HOLD_N as sampled at a tick boundary (R373, Table 13.3). -/
def holdTick (low : Bool) (s : State) : State :=
  setRed (fun r => { r with
    pulseDue := if low then false else decide (1 ≤ r.holdLow ∧ r.holdLow ≤ 3)
    holdLow := if low then min (r.holdLow + 1) 65535 else 0
    holdHigh := !low, lowAll := r.lowAll && low }) s

/-- Frames silent on HOLD_N with the running frame. -/
def Red.holdNow (r : Red) : Nat := if r.pulse then 0 else r.holdSilent + 1
/-- Frames silent on PEER with the running frame. -/
def Red.peerNow (r : Red) : Nat := if r.peerMsg then 0 else r.peerSilent + 1
/-- The silence count with the running frame. -/
def Red.silenceNow (r : Red) : Nat := if r.pulse || r.peerMsg then 0 else r.silence + 1
/-- Frames with HOLD_N low at every boundary, with the running frame. -/
def Red.lowNow (r : Red) : Nat := if r.lowAll then r.lowFrames + 1 else 0

/-- HOLD_SILENT, once per excursion, at the boundary that ends the running frame (R375). -/
def execHoldSilent (s : State) : Out :=
  whenTime (s.tim.frameDue && s.red.peerUp && decide (s.cfg.puntyLease ≤ s.red.holdNow ∧ s.red.peerNow < s.cfg.puntyLease)) s
    (raiseOnce kHoldSilent 1 0)

/-- PEER_SILENT, once per excursion, on a link that was live (R375). -/
def execPeerSilent (s : State) : Out :=
  whenTime (s.tim.frameDue && s.red.peerUp && decide (s.cfg.puntyLease ≤ s.red.peerNow ∧ s.red.holdNow < s.cfg.puntyLease)) s
    (raiseOnce kPeerSilent 0 0)

/-- The silence counts at a frame boundary; a path that is heard ends its excursion (R375). -/
def silenceFrame (s : State) : State :=
  let s1 := if s.red.pulse then endOnce kHoldSilent 1 s else s
  let s2 := if s.red.peerMsg then endOnce kPeerSilent 0 s1 else s1
  setRed (fun r => { r with
    holdSilent := min r.holdNow 4294967295, peerSilent := min r.peerNow 4294967295, silence := min r.silenceNow 4294967295
    lowFrames := min r.lowNow 4294967295, lowAll := true, pulse := false, peerMsg := false, yieldIn := false
    renewAge := min (r.renewAge + 1) 65535 }) s2

/-! ### The claim (R377 to R380) -/

/-- Frames of silence at which a seeking device claims (Table 13.3). -/
def State.seekLimit (s : State) : Nat := s.cfg.puntyLease + 2 + 8 * b2n s.sys.pairOrd

/-- A seeking device claims at the boundary that ends the running frame: HOLD_N is high there, or has been low for a further
lease (Table 13.3). -/
def State.seekClaims (s : State) : Bool :=
  s.red.st = .seeking && decide (s.seekLimit ≤ s.red.silenceNow) &&
    (s.red.holdHigh || decide (s.seekLimit + s.cfg.puntyLease ≤ s.red.silenceNow ∧ s.cfg.puntyLease ≤ s.red.lowNow))

/-- A standby claims at the boundary that ends the running frame (Table 13.3). -/
def State.standbyClaims (s : State) : Bool :=
  s.red.st = .standby && !s.red.inhibit && (s.red.yieldIn || decide (s.cfg.puntyLease + 2 ≤ s.red.silenceNow))

/-- PUNTY_CLAIM: the boundary that ends the running frame opens the claim frame; the gates sampled on and the EN nets
sampled high are its operands (steps 1 and 2 of Table 13.4). -/
def execPuntyClaim (gates : BitVec 64) (ens : BitVec 32) (s : State) : Out :=
  whenTime (s.tim.frameDue && (s.seekClaims || s.standbyClaims)) s fun s =>
    let e := if s.red.st = .seeking then s.red.epoch else s.red.mirEpoch
    let s1 := setRed (fun r => { r with
      st := .claiming, epoch := (e + 1) % 4294967296, holdPull := true, claimFrame := s.tim.frame + 1
      claimGates := gates, claimEn := ens, yieldIn := false, enFollow := false }) s
    { s1 with seq := { s1.seq with en := ens } }

/-- A gate at the claimant's start of driving: its charge pump under lim_run where it was sampled on, its pull-down where it
was sampled off (step 4 of Table 13.4). -/
def claimGate (on : Bool) (x : Channel) : Channel :=
  { x with gate := on, runCode := on, gateUp := on, limit := false, limitTick := false, pullDue := false, pgRun := 0
           timer8 := 0, riseNs := 0, latched := none, shutLatch := false, tripSeen := false, held := none, heldCode := none, pulledDue := false
           limNs := 0, shed := none, enforce := none, guard := x.guard }

/-- The claimant begins to drive (step 4 of Table 13.4). -/
def claimDrive (s : State) : State :=
  let s1 := { setRed (fun r => { r with drive := true }) s with
    sys := { s.sys with driveHeld := true, displaced := false } }
  settlePhases (((List.range 54).filter s1.pdUsed).foldl (fun s c => setChan c (claimGate (bvGet s.red.claimGates c && !(s.chan c).guard)) s) s1)

/-- CLAIM_DRIVE: at the boundary that opens tick 8 of the claim frame (R378). -/
def execClaimDrive (s : State) : Out :=
  whenTime (s.red.st = .claiming && !s.red.drive && s.tim.frame = s.red.claimFrame && decide (8 ≤ s.tim.tick)) s claimDrive

/-- Pins to the standby column (Table 13.1). -/
def standbyPins (s : State) : State :=
  let s1 := releaseEn { setRed (fun r => { r with drive := false, holdPull := false }) s with
    sys := { s.sys with driveHeld := false } }
  settlePhases ((List.range 54).foldl (fun s c => setChan c gateOff s) s1)

/-- DISPLACED: HOLD_N low for three ticks while this device does not pull it (R379). It comes about in every core-die
state. -/
def execDisplaced (s : State) : Out :=
  whenDue (s.red.drive && !s.red.holdPull) s fun s =>
    let s1 := standbyPins s
    { s1 with sys := { s1.sys with displaced := true } }

/-- A holder gives the punty up (Table 13.3). -/
def loseControl (s : State) : State :=
  raise kPuntyYielded 1 0 (setRed (fun r => { r with st := .standby, yieldDue := false, aligned := false }) s)

/-- The transitions of a holder at a frame boundary; the current frame is the one it opens (Table 13.3). -/
def holderFrame (s : State) : State :=
  if s.red.st ≠ .holder then setRed (fun r => { r with yieldDue := false }) s
  else if s.sys.displaced then peerSend (.yieldMsg 1) (loseControl s)
  else if s.red.yieldDue then standbyPins (loseControl s)
  else s

/-! ### The guard (R381) -/

/-- GUARD_TRIP: the guard breaker of a standby begins its pull-down. -/
def execGuardTrip (chan : Nat) (s : State) : Out :=
  whenDue (!s.red.drive && decide (s.red.st = .standby ∨ s.red.st = .claiming) && s.pdUsed chan && !(s.chan chan).guard) s fun s =>
    let s1 := setChan chan (fun x => { x with guard := true, guardRel := false }) s
    if s1.timeRuns then peerPump (peerSend (.guardMsg chan) (raise kBreakerTrip chan 0 s1)) else s1

/-- PEER_GUARD: the holder latches the channel at its next frame boundary and answers. -/
def execPeerGuard (p : PeerHdr) (chan : Nat) (s : State) : Out :=
  peerTake p s fun s =>
    if s.red.st = .holder && s.chanUsed chan then
      peerPump (peerSend (.guardAck chan) (setChan chan (fun x => { x with guardTrip := true }) s))
    else s

/-- PEER_GUARD_ACK: the pull-down is released at the coming frame boundary. -/
def execPeerGuardAck (p : PeerHdr) (chan : Nat) (s : State) : Out :=
  peerTake p s fun s =>
    if (s.chan chan).guard then setChan chan (fun x => { x with guardRel := true }) s else s

/-- Guards at a frame boundary: channels that the standby has guarded latch as TRIPPED, acknowledged guards are released. -/
def guardsFrame (s : State) : State :=
  s.chansUsed.foldl (fun s c =>
    let x := s.chan c
    let s1 := if x.guardTrip && s.red.drive then
      tripSampled c (setChan c (fun x => { gateOff x with latched := some .breaker }) s) else s
    setChan c (fun x => { x with guardTrip := false, guard := x.guard && !x.guardRel, guardRel := false }) s1) s

/-! ### The mirror (R382 to R384) -/

/-- How many items the mirror holds (Table 13.5). -/
def mirItems : Nat := 4686

/-- Bytes of an item: domains, groups, rails, stages, strings, command counters, punty. -/
def itemSize (n : Nat) : Nat :=
  if n < 512 then 32 else if n < 576 then 16 else if n < 4672 then 4 else if n < 4678 then 32
  else if n < 4684 then 64 else if n = 4684 then 16 else 8

/-- Phases of a stage that are masked, as a number. -/
def State.maskBits (s : State) (st : Nat) : Nat :=
  ((List.range 24).map fun i => if s.stageOf i = st && (s.phase i).masked then 2 ^ i else 0).sum

/-- A domain's mirrored fields. -/
def domItem (x : Domain) : List Int :=
  [x.prio, x.ceiling, x.weight, x.request, b2n x.pin.isSome, x.pin.getD 0, domCode x.st, x.target, x.grant, x.gHi, x.hiUntil,
   x.waited, b2n x.shed, b2n x.enabled]

/-- A group's mirrored fields. -/
def groupItem (s : State) (x : Group) : List Int :=
  [groupCode x.st, b2n x.target, b2n x.latching, (x.restUntil : Int) - s.tim.frame, b2n s.seq.seqfDrive]

/-- A rail's mirrored fields. -/
def railItem (x : Rail) : List Int := [b2n x.up, b2n x.off, b2n x.placed, b2n x.edgeUp, x.retries, x.inWin]

/-- A stage's mirrored fields. -/
def stageItem (s : State) (st : Nat) : List Int :=
  let x := s.stage st
  [b2n x.enabled, (match x.cmdMode with | none => -1 | some m => modeCode m), x.vTarget, x.iTarget, s.maskBits st, b2n x.ovLatch]

/-- A string's mirrored fields. -/
def stringItem (x : BatString) : List Int :=
  [x.qRem, x.k, x.fccMah, b2n x.init, b2n x.discordant, b2n x.ended, b2n x.relearn, b2n x.fast, b2n x.senseLost,
   chargeCode x.charge, x.termRun, x.cvFrames, x.inhibRun, x.disAcc]

/-- The content of item n (Table 13.5). -/
def mirItem (s : State) (n : Nat) : List Int :=
  if n < 512 then domItem (s.leh.cur.doms.get n)
  else if n < 576 then groupItem s (s.seq.cur.get (n - 512))
  else if n < 4672 then railItem (s.seq.rails.get (n - 576))
  else if n < 4678 then stageItem s (n - 4672)
  else if n < 4684 then stringItem (s.bat.cur.strings.get (n - 4678))
  else if n = 4684 then (List.range 4).map fun k => ((s.hst.accCtr.get k : Nat) : Int)
  else [(s.red.epoch : Int), (s.cfg.puntyLease : Int)]

/-- Items of the rolling refresh from a position: at least 1 KiB of them, up to the end of the pass (R382). -/
def refreshItems : Nat → Nat → Nat → List Nat
  | 0, _, _ => []
  | fuel + 1, pos, bytes =>
    if pos ≥ mirItems || bytes ≥ 1024 then [] else pos :: refreshItems fuel (pos + 1) (bytes + itemSize pos)

/-- The holder's mirror of one boundary: what has changed since it was last sent, and the refresh, closed by MIRROR_END; a
pass that began after HELLO completes the mirror (R382). -/
def mirrorFrame (s : State) : State :=
  if s.red.st ≠ .holder || !s.red.peerUp || s.red.mismatch then s
  else
    let changed := (List.range mirItems).filter fun n => s.red.mirSent.get n ≠ mirItem s n
    let fresh := refreshItems 1024 s.red.refresh 0
    let all := changed ++ fresh.filter fun n => !changed.contains n
    let data := all.map fun n => (n, padTo (itemSize n) (Config.mirrorBytes n (mirItem s n)))
    let crc := crc32c (data.flatMap (·.2))
    let next := s.red.refresh + fresh.length
    let s1 := data.foldl (fun s d => peerSend (.mirror d.1 d.2) s) s
    let s2 := setRed (fun r => { r with
      mirSent := all.foldl (fun t n => t.put n (mirItem s n)) r.mirSent
      refresh := if next ≥ mirItems then 0 else next
      mirComplete := r.mirComplete || (r.mirTrack && decide (next ≥ mirItems)) }) s1
    peerPump (peerSend (.mirrorEnd s.tim.frame all.length crc) s2)

/-- The standby takes mirror data: no mismatch stands (R376). -/
def State.takesMirror (s : State) : Bool := s.red.st = .standby && !s.red.mismatch

/-- PEER_MIRROR: one slice enters the staging copy (R382). -/
def execPeerMirror (p : PeerHdr) (slice : Nat) (data : List Byte) (s : State) : Out :=
  peerTake p s fun s =>
    if s.takesMirror then setRed (fun r => { r with mirStage := r.mirStage ++ [(slice, data)] }) (noteEpoch p.epoch s) else s

/-- The frame's slices reach the active copy; a pass that has covered every item completes the mirror. -/
def applyStage (frame : Nat) (s : State) : State :=
  setRed (fun r =>
    let seen := r.mirStage.foldl (fun l d => if l.contains d.1 then l else d.1 :: l) r.mirPass
    let full := decide (seen.length ≥ mirItems)
    { r with
      mirror := { slices := r.mirStage.foldl (fun t d => t.put d.1 d.2) r.mirror.slices }
      mirStage := [], mirFrame := frame, mirPass := if full then [] else seen
      mirCtr := (match r.mirStage.find? (fun d => d.1 = 4684) with
        | none => r.mirCtr
        | some d => (List.range 4).foldl (fun t k => t.put k (natOf (nth (Config.mirrorValues 4684 d.2) k))) r.mirCtr)
      mirComplete := r.mirComplete || full }) s

/-- A frame of the mirror is missing (R382). -/
def mirrorGap (s : State) : State :=
  raise kMirrorGap 0 0 (setRed (fun r => { r with
    mirGaps := inc32 r.mirGaps, mirComplete := false, mirPass := [], mirStage := [] }) s)

/-- PEER_MIRROR_END: a frame's slices are applied where count and CRC verify; a frame left out raises MIRROR_GAP (R382). -/
def execPeerMirrorEnd (p : PeerHdr) (frame count crc : Nat) (s : State) : Out :=
  peerTake p s fun s =>
    if !s.takesMirror then s
    else
      let s1 := noteEpoch p.epoch s
      let ok := decide (s1.red.mirStage.length = count ∧ crc32c (s1.red.mirStage.flatMap (·.2)) = crc)
      let gap := decide (s1.red.mirFrame ≠ 0 ∧ s1.red.mirFrame + 1 < frame)
      if ok then (if gap then applyStage frame (let st := s1.red.mirStage
                                                setRed (fun r => { r with mirStage := st }) (mirrorGap s1))
                  else applyStage frame s1)
      else setRed (fun r => { r with mirFrame := frame }) (mirrorGap s1)

/-- PEER_COUNTER: the standby takes the counter and answers (R384). -/
def execPeerCounter (p : PeerHdr) (slot counter : Nat) (s : State) : Out :=
  peerTake p s fun s =>
    if s.red.st = .standby then
      peerPump (peerSend (.counterAck slot counter)
        (setRed (fun r => { r with mirCtr := r.mirCtr.put slot counter }) (noteEpoch p.epoch s)))
    else s

/-- PEER_COUNTER_ACK (R384). -/
def execPeerCounterAck (p : PeerHdr) (slot counter : Nat) (s : State) : Out :=
  peerTake p s (setRed fun r => { r with ctrAcked := r.ctrAcked.put slot counter })

/-- A command with a MAC may be accepted as far as the mirror goes (R384). -/
def State.mirrored (s : State) (h : CmdHeader) : Bool :=
  match h.key with
  | none => true
  | some k => !(s.red.st = .holder && s.red.mirComplete) || decide (h.counter ≤ s.red.ctrAcked.get k)

/-! ### Forwarding (R387) -/

/-- PEER_FORWARD: the holder takes the block for verification as a PEER-port command. -/
def execPeerForward (p : PeerHdr) (mbox : Nat) (block : List Byte) (s : State) : Out :=
  peerTake p s fun s =>
    if s.red.st = .holder then
      { s with hst := { s.hst with forwarded := s.hst.forwarded ++ [(mbox, s.hst.ring, block)], ring := s.hst.ring + 1 } }
    else s

/-- PEER_FORWARD_REPLY: the reply enters the window of the port that received the command. -/
def execPeerForwardReply (p : PeerHdr) (mbox : Nat) (reply : List Byte) (s : State) : Out :=
  peerTake p s fun s =>
    match s.red.fwd.find? (fun w => w.2 = mbox) with
    | none => s
    | some w => writeReply .mgt mbox reply (setRed (fun r => { r with fwd := r.fwd.erase w }) s)

/-! ### Commands (Table 17.6) -/

/-- CMD_RED_HANDOVER: YIELD goes out at the acceptance boundary; the device drives on until it is displaced (R386). -/
def cmdRedHandover (s : State) : CmdOut :=
  unlessRefused
    [(decide (s.red.st ≠ .holder), rsState, noField), (!s.red.mirComplete || s.red.mismatch, rsMirror, noField),
     (decide (s.shr.hold.st ≠ .normal), rsHoldup, noField)] s fun s =>
    done (peerPump (peerSend (.yieldMsg 0) (setRed (fun r => { r with st := .standby, aligned := false }) s)))

/-- CMD_RED_INHIBIT (R388). -/
def cmdRedInhibit (on : Bool) (s : State) : CmdOut := done (setRed (fun r => { r with inhibit := on }) s)

end Sys2Proof.Machine
end

