-- ==== Sys2Proof/Machine/Tie.lean ====
section
/-! DEFINITION. The rack tie: the Irler link, the marker, the policy machine, matching, release and resumption (chapter 14). -/
namespace Sys2Proof.Machine

/-- A change of one tie port. -/
def setTie (p : Nat) (f : TiePort → TiePort) (s : State) : State :=
  { s with tie := { s.tie with ports := s.tie.ports.modify p f } }

/-- A tie port. -/
def State.tiePort (s : State) (p : Nat) : TiePort := s.tie.ports.get p

/-- The channel of a tie port. -/
def tieChan (p : Nat) : Nat := 52 + p

/-- The state of the port's channel. -/
def State.tieCh (s : State) (p : Nat) : Channel := s.chan (tieChan p)

/-- Own bus of a tie port, mV: its SNSP sample (R265). -/
def State.tieBus (s : State) (p : Nat) : Int := codeMv (s.tieCh p).snsp

/-- The tie is closed: its channel is, under an agreement or an adoption. -/
def State.tieShut (s : State) (p : Nat) : Bool :=
  (s.tieCh p).st = .on && ((s.tiePort p).st = .closed || (s.tiePort p).st = .silent)

/-- Role in a header: 0 IDLE, 1 SUPPLY, 2 DRAW (R400). -/
def TiePort.role (x : TiePort) : Nat :=
  match x.st with
  | .offering | .precharge => 1
  | .requesting | .matching => 2
  | .closed => if x.offered then 1 else 2
  | _ => 0

/-! ### The Irler link (R392 to R397) -/

/-- A message is called for: it takes the port's next ID and waits its turn (R395). -/
def irlerSend (p typ : Nat) (payload : List Byte) (s : State) : State :=
  setTie p (fun x => { x with
    txq := x.txq ++ [{ typ := typ, ident := x.nextId, role := x.role, marker := typ = 0x1E, payload := payload }]
    nextId := (x.nextId + 1) % 256 }) s

/-- HELLO (Table 14.2). -/
def sendHello (resume : Bool) (p : Nat) (s : State) : State :=
  let x := s.tiePort p
  let flags := b2n resume + 2 * b2n x.supplyEn + 4 * b2n (decide ((s.tieCh p).st = .on))
  irlerSend p 0x01 (leBytes 2 s.cfg.rackOrdinal ++ leBytes 1 flags ++ leBytes 1 x.role ++ leInt 4 x.agreed ++
    leBytes 2 (s.cfg.ties.get p).lease ++ leBytes 2 0) s

/-- MARKER_READ; the read interval starts over (R398). -/
def sendMarkerRead (p : Nat) (s : State) : State := irlerSend p 0x1E [] (setTie p (fun x => { x with markerAge := 0 }) s)

/-- REFUSE (Table 14.2), with its fault where Table 14.4 raises it. -/
def sendRefuse (p reason : Nat) (s : State) : State := irlerSend p 0x05 (leBytes 1 reason ++ leBytes 3 0) s

/-- RELEASE (Table 14.2). -/
def sendRelease (p reason : Nat) (s : State) : State := irlerSend p 0x0A (leBytes 1 reason ++ leBytes 3 0) s

/-- The port takes messages in: it is in use, its cable is present and the device is in control. -/
def State.irlerIn (s : State) (p : Nat) : Bool :=
  decide (p < 2) && s.drives && !s.sys.crucible && (s.tiePort p).portEn && (s.tiePort p).st ≠ .detached

/-- A valid message from the far end: it is heard, the CRC excursion ends, and an ACK carries its ID; a repeat of the last one is
acknowledged again and not taken in a second time (R393 to R395, R397). -/
def irlerTake (p typ ident : Nat) (payload : List Byte) (s : State) : Out :=
  whenTime (s.irlerIn p) s fun s =>
    let s1 := endOnce kIrlerCrc p (setTie p (fun x => { x with heard := 0, quiet := false, ackTx := some ident }) s)
    if (s.tiePort p).lastIn = some (typ, ident) then s1
    else setTie p (fun x => { x with
      lastIn := some (typ, ident), intake := x.intake ++ [{ typ := typ, ident := ident, payload := payload }] }) s1

/-- IRLER_ACK: the message in flight is done with (R394, R395). -/
def execIrlerAck (port ident : Nat) (s : State) : Out :=
  whenTime (s.irlerIn port) s fun s =>
    let s1 := endOnce kIrlerCrc port (setTie port (fun x => { x with heard := 0, quiet := false }) s)
    match (s.tiePort port).txq with
    | m :: rest =>
      if (s.tiePort port).sending && m.ident = ident && m.typ ≠ 0x1E then
        setTie port (fun x => { x with txq := rest, sending := false, repeats := 0 }) s1
      else s1
    | [] => s1

/-- IRLER_HELLO (Table 14.2). -/
def execIrlerHello (port ident ordinal : Nat) (flags : Byte) (role agreed lease : Nat) (s : State) : Out :=
  irlerTake port 0x01 ident (leBytes 2 ordinal ++ [flags] ++ leBytes 1 role ++ leBytes 4 agreed ++ leBytes 2 lease ++ leBytes 2 0) s

/-- IRLER_REQUEST (Table 14.2). -/
def execIrlerRequest (port ident : Nat) (swap : Bool) (power bus : Nat) (s : State) : Out :=
  irlerTake port 0x02 ident (leBytes 1 (b2n swap) ++ leBytes 3 0 ++ leBytes 4 power ++ leBytes 4 bus) s

/-- IRLER_OFFER (Table 14.2). -/
def execIrlerOffer (port ident power lease bus : Nat) (s : State) : Out :=
  irlerTake port 0x03 ident (leBytes 4 power ++ leBytes 2 lease ++ leBytes 2 0 ++ leBytes 4 bus) s

/-- IRLER_ACCEPT (Table 14.2). -/
def execIrlerAccept (port ident power bus : Nat) (s : State) : Out :=
  irlerTake port 0x04 ident (leBytes 4 power ++ leBytes 4 bus) s

/-- IRLER_REFUSE (Table 14.2). -/
def execIrlerRefuse (port ident reason : Nat) (s : State) : Out :=
  irlerTake port 0x05 ident (leBytes 1 reason ++ leBytes 3 0) s

/-- IRLER_COLLISION (Table 14.2). -/
def execIrlerCollision (port ident winner : Nat) (s : State) : Out :=
  irlerTake port 0x06 ident (leBytes 2 winner ++ leBytes 2 0) s

/-- IRLER_MATCH (Table 14.2). -/
def execIrlerMatch (port ident bus : Nat) (s : State) : Out := irlerTake port 0x07 ident (leBytes 4 bus) s

/-- IRLER_CLOSED (Table 14.2). -/
def execIrlerClosed (port ident power : Nat) (s : State) : Out := irlerTake port 0x08 ident (leBytes 4 power) s

/-- IRLER_RENEW (Table 14.2). -/
def execIrlerRenew (port ident power lease : Nat) (s : State) : Out :=
  irlerTake port 0x09 ident (leBytes 4 power ++ leBytes 2 lease ++ leBytes 2 0) s

/-- IRLER_RELEASE (Table 14.2). -/
def execIrlerRelease (port ident reason : Nat) (s : State) : Out :=
  irlerTake port 0x0A ident (leBytes 1 reason ++ leBytes 3 0) s

/-- IRLER_MARKER_DATA: the marker answers a MARKER_READ with its ID; for a silent far end it is the fallback (R394, R398,
R399). -/
def execIrlerMarkerData (port ident rated length : Nat) (temp : Int) (identity : Nat) (s : State) : Out :=
  whenTime (s.irlerIn port) s fun s =>
    let x := s.tiePort port
    let mine := x.sending && (match x.txq with | m :: _ => m.typ = 0x1E && m.ident = ident | [] => false)
    if !mine then s
    else
      let s1 := endOnce kIrlerCrc port (setTie port (fun x => { x with
        txq := x.txq.drop 1, sending := false, repeats := 0, markerWait := false, markerMa := some rated, markerT := temp
        markerData := leBytes 4 rated ++ leBytes 2 length ++ leInt 2 temp ++ leBytes 4 identity }) s)
      if x.markerWait then raise kMarkerFallback port 0 (setTie port (fun x => { x with st := .silent }) s1) else s1

/-- IRLER_CRC: discarded without an ACK, raised once per excursion (R393). -/
def execIrlerCrc (port : Nat) (s : State) : Out :=
  whenTime (s.irlerIn port) s fun s => raiseOnce kIrlerCrc port 0 (setTie port (fun x => { x with nCrc := inc32 x.nCrc }) s)

/-- IRLER_SEND_START: after the idle wait the oldest message starts (R395). -/
def execIrlerSendStart (port : Nat) (s : State) : Out :=
  let x := s.tiePort port
  whenTime (s.irlerIn port && !x.txq.isEmpty && !x.sending && !x.backoff) s
    (setTie port fun x => { x with sending := true })

/-- IRLER_RETRANSMIT: no ACK in time; after three repeats the message is abandoned, and a marker that stays silent leaves the
port in LINKING (R395, R399). -/
def execIrlerRetransmit (port : Nat) (s : State) : Out :=
  let x := s.tiePort port
  whenTime (s.irlerIn port && x.sending) s fun s =>
    if x.repeats < 3 then setTie port (fun x => { x with repeats := x.repeats + 1, nRepeat := inc32 x.nRepeat }) s
    else
      let lost := x.markerWait && (match x.txq with | m :: _ => m.typ = 0x1E | [] => false)
      raise kIrlerNoAck port 0 (setTie port (fun x => { x with
        txq := x.txq.drop 1, sending := false, repeats := 0, markerWait := x.markerWait && !lost
        st := if lost then .linking else x.st }) s)

/-- IRLER_LINE_COLLISION: the transmitter stops at once; no repeat is counted (R396). -/
def execIrlerLineCollision (port : Nat) (s : State) : Out :=
  whenTime (s.irlerIn port && (s.tiePort port).sending && !(s.tiePort port).backoff) s
    (setTie port fun x => { x with sending := false, backoff := true, nColl := inc32 x.nColl })

/-- IRLER_BACKOFF_END: the message is sent again (R396). -/
def execIrlerBackoffEnd (port : Nat) (s : State) : Out :=
  whenTime (s.irlerIn port && (s.tiePort port).backoff) s
    (setTie port fun x => { x with backoff := false, sending := !x.txq.isEmpty })

/-! ### Tests and moves of the policy (R398, R401 to R404) -/

/-- The marker allows closing: its rating covers lim_run and it is below cable_t_max; a marker not read allows nothing
(R398). -/
def State.markerOk (s : State) (p : Nat) : Bool :=
  let x := s.tiePort p
  x.markerMa.any (fun ma => decide ((s.cfg.chans.get (tieChan p)).limRun ≤ ma)) && decide (x.markerT < (s.cfg.ties.get p).cableTMax)

/-- The marker is too hot for a closed tie (R398). -/
def State.markerHot (s : State) (p : Nat) : Bool :=
  (s.tiePort p).markerMa.isSome && decide ((s.cfg.ties.get p).cableTMax ≤ (s.tiePort p).markerT)

/-- The offer of R401. -/
def State.offerMw (s : State) (p : Nat) (request : Int) : Int :=
  let cap := divRhe ((((s.tiePort p).markerMa.getD 0 : Nat) : Int) * s.tieBus p) 1000
  min (min request (s.cfg.ties.get p).supplyMax) (min (max 0 s.leh.cur.headroom) cap)

/-- The first condition of R401 that fails, as a refuse reason; behind a trip every REQUEST is refused with reason 5 (Table 14.6); a SWAP is tested
on a tie whose channel is closed (R405). -/
def State.offerFails (s : State) (p : Nat) (swap : Bool) (request bus : Int) : Option Nat :=
  let g := s.cfg.ties.get p
  if (s.tieCh p).st = .tripped || (s.tieCh p).st = .failed then some 5
  else if !(s.tiePort p).supplyEn then some 2
  else if s.shr.hold.st ≠ .normal then some 7
  else if !(s.chanUsed (tieChan p)) || (s.tieCh p).st ≠ (if swap then .on else .empty) then some 5
  else if !s.markerOk p then some 4
  else if bus < g.busMin || s.tieBus p < bus then some 3
  else if s.offerMw p request < g.offerMin then some 1
  else none

/-- OFFERING takes effect: the offer leaves and the export is reserved (R402). -/
def startOffer (p : Nat) (request : Int) (s : State) : State :=
  let offer := s.offerMw p request
  irlerSend p 0x03 (leInt 4 offer ++ leBytes 2 (s.cfg.ties.get p).lease ++ leBytes 2 0 ++ leInt 4 (s.tieBus p))
    (setTie p (fun x => { x with st := .offering, offered := true, agreed := offer, imp := -offer, timer := 0 }) s)

/-- The tie channel is opened in an orderly way (R269). -/
def openTie (p : Nat) (s : State) : State :=
  let x := s.tieCh p
  let s1 := setChan (tieChan p) (fun x => { x with follower := false }) s
  if x.st = .on || x.st = .starting then turnOff (tieChan p) .empty s1 else s1

/-- The port leaves what it was doing for a state without an agreement. -/
def tieTo (st : TieState) (p : Nat) (s : State) : State :=
  setTie p (fun x => { x with
    st := st, offered := false, agreed := 0, imp := 0, want := 0, timer := 0, closing := false, importDue := false
    matched := false, releaseAt := none, relDue := none, resume := none }) s

/-- A REQUEST in a state that handles requests (Tables 14.3 and 14.4). -/
def answerRequest (p : Nat) (power bus : Int) (s : State) : State :=
  match s.offerFails p false power bus with
  | some why => raise kTieOfferRefused p why (sendRefuse p why (tieTo .idle p s))
  | none => startOffer p power s

/-- The initiating end's release, in the order of its role (Table 14.6). -/
def releaseTie (p reason : Nat) (s : State) : State :=
  let x := s.tiePort p
  let f := s.tim.frame
  if x.releaseAt.isSome then s
  else if x.role = 2 && reason ≠ 10 then
    setTie p (fun x => { x with imp := 0, importDue := false, releaseAt := some (f + s.deadline), releaseWhy := reason }) s
  else sendRelease p reason (tieTo .idle p (openTie p s))

/-- A SWAP whose test passed: after the release the far end is answered with OFFER from IDLE (R405). -/
def swapOffer (p : Nat) (s : State) : State :=
  let x := s.tiePort p
  if x.swap && x.st = .idle && (s.tieCh p).st = .empty then
    startOffer p x.carrySwap (setTie p (fun x => { x with swap := false }) s)
  else s

/-- A REQUEST taken in (Table 14.4, R405). -/
def onRequest (p : Nat) (swap : Bool) (power bus : Int) (s : State) : State :=
  let x := s.tiePort p
  if x.clash && decide (x.st = .linking) then sendRefuse p 6 s
  else match x.st with
    | .idle => answerRequest p power bus s
    | .requesting =>
      if s.cfg.rackOrdinal < x.farOrdinal then irlerSend p 0x06 (leBytes 2 s.cfg.rackOrdinal ++ leBytes 2 0) s
      else answerRequest p power bus (tieTo .idle p s)
    | .closed =>
      if !swap then s
      else match s.offerFails p true power bus with
        | some why => sendRefuse p why s
        | none =>
          let (v, s1) := takeFree s
          releaseTie p (toBits 8 v) (setTie p (fun x => { x with swap := true, carrySwap := power }) s1)
    | _ => s

/-- Both ends answer a resumption: the far end has the opposite role and its own channel closed (R408). -/
def resumes (role : Nat) (flags : Nat) : Bool := decide (role = 1 ∨ role = 2) && bitAt flags 2

/-- A HELLO taken in (Table 14.4, R408). -/
def onHello (p ordinal flags role : Nat) (agreed : Int) (s : State) : State :=
  let s1 := setTie p (fun x => { x with farOrdinal := ordinal, farRole := role, farClosed := bitAt flags 2 }) s
  let x := s1.tiePort p
  if x.resume.isSome then
    if resumes role flags then
      setTie p (fun x => { x with st := .closed, resume := none, offered := role = 2, agreed := agreed
                                  imp := if role = 2 then -agreed else agreed, clash := false, renewAge := 0 }) s1
    else s1
  else match x.st with
    | .linking =>
      if ordinal = s.cfg.rackOrdinal then
        raise kTieOrdinalClash p ordinal (setTie p (fun x => { x with clash := true }) s1)
      else setTie p (fun x => { x with st := .idle, clash := false }) s1
    | .silent => if ordinal = s.cfg.rackOrdinal then s1 else setTie p (fun x => { x with st := .idle, clash := false }) s1
    | _ => s1

/-- An ACCEPT taken in: precharge with the follower on the drawer's bus (R403). -/
def onAccept (p : Nat) (power bus : Int) (s : State) : State :=
  if (s.tiePort p).st = .offering && s.markerOk p && (s.tieCh p).st = .empty then
    setChan (tieChan p) (fun x => { x with follower := true, target := bus })
      (startChan (tieChan p) (setTie p (fun x => { x with st := .precharge, agreed := power, timer := 0 }) s))
  else s

/-- An OFFER taken in (Table 14.4). -/
def onOffer (p : Nat) (power : Int) (s : State) : State :=
  if (s.tiePort p).st = .requesting && decide ((s.cfg.ties.get p).offerMin ≤ power) then
    irlerSend p 0x04 (leInt 4 power ++ leInt 4 (s.tieBus p)) (setTie p (fun x => { x with
      st := .matching, agreed := power, lastBus := s.tieBus p, matchAge := 0, timer := 0, closing := false, matched := false
      matchAll := false }) s)
  else s

/-- The far end has released (Table 14.6). -/
def onRelease (p : Nat) (s : State) : State :=
  let x := s.tiePort p
  match x.st with
  | .closed | .matching | .precharge | .offering => tieTo .idle p (openTie p s)
  | .silent => setTie p (fun x => { x with imp := 0, agreed := 0, releaseAt := none }) (openTie p s)
  | _ => s

/-- One message of the frame before (Table 14.4). -/
def onIrler (p : Nat) (m : IrlerMsg) (s : State) : State :=
  let b := m.payload
  let x := s.tiePort p
  match m.typ with
  | 0x01 => onHello p (field b 0 2) (field b 2 1) (field b 3 1) (ofBits 32 (field b 4 4)) s
  | 0x02 => onRequest p (field b 0 1 ≠ 0) (field b 4 4) (field b 8 4) s
  | 0x03 => onOffer p (field b 0 4) s
  | 0x04 => onAccept p (field b 0 4) (field b 4 4) s
  | 0x05 => if x.st = .requesting then tieTo .idle p s else s
  | 0x06 => raise kTieCollision p (field b 0 2) (if x.st = .requesting then tieTo .idle p s else s)
  | 0x07 => if x.st = .precharge then setChan (tieChan p) (fun c => { c with target := (field b 0 4 : Nat) }) s else s
  | 0x08 =>
    if x.st = .precharge then
      setChan (tieChan p) (fun c => { c with follower := false, riseNs := 0 })
        (setTie p (fun x => { x with st := .closed, renewAge := 0 }) s)
    else s
  | 0x0A => onRelease p s
  | _ => s

/-- A request of this end (Table 14.4). -/
def ownRequest (p : Nat) (s : State) : State :=
  let x := s.tiePort p
  let g := s.cfg.ties.get p
  let auto := g.drawAuto && s.shr.hold.st = .holdup && s.tie.holdPrev ≠ .holdup
  let power := match x.wantReq with
    | some w => some w
    | none => if auto then some g.wantMw else none
  let s1 := setTie p (fun x => { x with wantReq := none }) s
  match power with
  | some w =>
    if x.st = .idle && s.chanUsed (tieChan p) && (s.tieCh p).st = .empty then
      irlerSend p 0x02 (leBytes 1 0 ++ leBytes 3 0 ++ leInt 4 w ++ leInt 4 (s.tieBus p))
        (setTie p (fun x => { x with st := .requesting, want := w, timer := 0 }) s1)
    else s1
  | none => s1

/-- The matching end at the end of a frame (R402, R404). -/
def matchStep (p : Nat) (s : State) : State :=
  let x := s.tiePort p
  if x.st ≠ .matching then s
  else
    let on := decide ((s.tieCh p).st = .on)
    if on && x.importDue then
      irlerSend p 0x08 (leInt 4 x.agreed) (setTie p (fun x => { x with st := .closed, closing := false, renewAge := 0 }) s)
    else if on then setTie p (fun x => { x with imp := x.agreed, importDue := true }) s
    else if x.matched && !x.closing && s.markerOk p && (s.tieCh p).st = .empty then
      startChan (tieChan p) (setTie p (fun x => { x with closing := true }) s)
    else
      let bus := s.tieBus p
      if decide (100 < (bus - x.lastBus).natAbs) && decide (8 ≤ x.matchAge) then
        irlerSend p 0x07 (leInt 4 bus) (setTie p (fun x => { x with lastBus := bus, matchAge := 0 }) s)
      else s

/-- What makes an end release its tie, with its reason (R398, R406). -/
def State.releaseCause (s : State) (p : Nat) : Option (Option Nat) :=
  let x := s.tiePort p
  let live := decide (x.st = .closed ∨ x.st = .matching ∨ x.st = .precharge)
  let ch := (s.tieCh p).st
  if (live || x.st = .silent) && decide (ch = .tripped ∨ ch = .failed) && decide (x.imp ≠ 0 ∨ live) then some (some 10)
  else if x.relDue.isSome then some x.relDue
  else if x.st ≠ .closed then none
  else if s.markerHot p then some (some 4)
  else if x.offered && s.shr.hold.st ≠ .normal then some (some 7)
  else if !x.offered && (s.cfg.ties.get p).drawAuto && s.shr.hold.st = .normal && s.tie.holdPrev ≠ .normal then some none
  else none

/-- A release that is decided in the frame takes effect at its end; a reason for which Table 14.3 has no code is a free
value. -/
def releaseStep (p : Nat) (s : State) : State :=
  match s.releaseCause p with
  | none => s
  | some why =>
    let s1 := setTie p (fun x => { x with relDue := none }) s
    match why with
    | some r =>
      if (s.tiePort p).st = .requesting then tieTo .idle p s1
      else if r = 10 && (s.tiePort p).st = .silent then sendRelease p 10 (setTie p (fun x => { x with imp := 0, agreed := 0 }) s1)
      else releaseTie p r s1
    | none =>
      let (v, s2) := takeFree s1
      releaseTie p (toBits 8 v) s2

/-- A cable that was present for a whole frame starts the link (Table 14.4). -/
def linkStart (p : Nat) (s : State) : State :=
  let x := s.tiePort p
  if x.st = .detached && x.portEn && x.cableSeen && x.cable then
    sendMarkerRead p (sendHello false p (setTie p (fun x => { x with
      st := .linking, heard := 0, quiet := false, clash := false, lastIn := none, timer := 0 }) s))
  else s

/-- A port whose disable waits falls silent once its channel is OPEN (R410). -/
def disableStep (p : Nat) (s : State) : State :=
  let x := s.tiePort p
  if x.disable && decide ((s.tieCh p).st ≠ .on ∧ (s.tieCh p).st ≠ .starting) && x.st ≠ .closed then
    setTie p (fun x => { x with portEn := false, disable := false, txq := [], sending := false, backoff := false, st := .detached }) s
  else s

/-- The counts of a port over one frame. -/
def tieCounts (x : TiePort) : TiePort :=
  { x with timer := min (x.timer + 1) 65535, heard := min (x.heard + 1) 65535, renewAge := min (x.renewAge + 1) 65535
           matchAge := min (x.matchAge + 1) 65535, markerAge := min (x.markerAge + 1) 65535
           matched := x.matchAll, matchAll := true, cableSeen := x.cableAll, cableAll := true
           prev := x.intake, intake := [] }

/-- POLICY_FRAME for one port: what the running frame decides from the messages of the frame before, in effect at the
boundary that ends the running frame (R397, R400). -/
def tiePolicy (p : Nat) (s : State) : State :=
  let s1 := (s.tiePort p).prev.foldl (fun s m => onIrler p m s) s
  let s2 := releaseStep p (matchStep p (ownRequest p s1))
  disableStep p (linkStart p (swapOffer p s2))

/-- Both ports at the boundary that ends a frame; late engine work waits for the next boundary (R75). -/
def tieFrame (inTime : Bool) (s : State) : State :=
  let s1 := if inTime then tiePolicy 1 (tiePolicy 0 s) else s
  let f := fun x : TiePort => if inTime then tieCounts x else { tieCounts x with prev := x.prev ++ x.intake }
  { s1 with tie := { ports := (s1.tie.ports.modify 0 f).modify 1 f, holdPrev := if inTime then s1.shr.hold.st else s1.tie.holdPrev } }

/-! ### A tick boundary -/

/-- The cable is no longer present: whatever the port was doing is abandoned (R407). -/
def detach (p : Nat) (s : State) : State :=
  setTie p (fun x => { x with
    txq := [], sending := false, backoff := false, repeats := 0, intake := [], prev := [], markerWait := false
    markerMa := none, swap := false, clash := false, quiet := false, lastIn := none, wantReq := none })
    (tieTo .detached p (setChan (tieChan p) (fun x => { x with follower := false }) s))

/-- Presence and match of one port as sampled at a tick boundary (R390, R404, R407). -/
def tieTick (p : Nat) (s : State) : State :=
  let present := (monWith s.cfg (.tiePresence p)).any fun m => !bvGet s.msr.ovS m
  let c := s.tieCh p
  let near := decide ((codeMv c.outv - codeMv c.snsp).natAbs ≤ 500)
  let s1 := setTie p (fun x => { x with cable := present, cableAll := x.cableAll && present
                                        matchAll := x.matchAll && near && x.st = .matching }) s
  if !present && (s.tiePort p).st ≠ .detached then detach p s1 else s1

/-! ### Rows of the policy; each stands at the boundary that ends the running frame -/

/-- A message of one of the types is taken in, and not yet decided on. -/
def TiePort.has (x : TiePort) (types : List Nat) : Bool := (x.prev ++ x.intake).any fun m => types.contains m.typ

/-- The answer that the port waits for is there: OFFER or REFUSE to a REQUEST, ACCEPT to an OFFER (Table 14.4). -/
def TiePort.answered (x : TiePort) : Bool := if x.st = .offering then x.has [0x04] else x.has [0x03, 0x05]

/-- CLOSED is there, sent or taken in (Table 14.4). -/
def State.tieClosing (s : State) (p : Nat) : Bool :=
  let x := s.tiePort p
  if x.st = .precharge then x.has [0x08] else decide ((s.tieCh p).st = .on)

/-- OFFER_TIMEOUT: offer_frames without an answer, or without ACCEPT (Table 14.4). -/
def execOfferTimeout (port : Nat) (s : State) : Out :=
  let x := s.tiePort port
  whenTime (s.tim.frameDue && s.irlerIn port && decide (x.st = .requesting ∨ x.st = .offering) && !x.answered &&
      decide ((s.cfg.ties.get port).offerFrames ≤ x.timer + 1)) s (tieTo .idle port)

/-- TIE_MATCH_FAIL: match_frames without CLOSED (Table 14.4). -/
def execTieMatchFail (port : Nat) (s : State) : Out :=
  let x := s.tiePort port
  whenTime (s.tim.frameDue && s.irlerIn port && decide (x.st = .matching ∨ x.st = .precharge) && !s.tieClosing port &&
      decide ((s.cfg.ties.get port).matchFrames ≤ x.timer + 1)) s fun s =>
    raise kTieMatchFail port 0 (sendRelease port 3 (tieTo .idle port (openTie port s)))

/-- FAR_END_SILENT: nothing taken in for silence_frames; the port reads the marker and waits; a channel that was still closing
is opened, a closed tie stays closed (R399, Table 14.4). -/
def execFarEndSilent (port : Nat) (s : State) : Out :=
  let x := s.tiePort port
  whenTime (s.tim.frameDue && s.irlerIn port && !x.quiet && x.st ≠ .silent &&
      decide ((s.cfg.ties.get port).silenceFrames ≤ x.heard + 1)) s fun s =>
    let s1 := if (s.tieCh port).st = .starting then openTie port s else s
    let imp := if (s1.tieCh port).st = .on && !x.offered then x.imp else 0
    sendMarkerRead port (setTie port (fun x => { x with
      st := .silent, quiet := true, markerWait := true, imp := imp, closing := false, importDue := false, timer := 0 }) s1)

/-- TIE_LEASE_EXPIRY: tie_lease frames without the far end; reason 9 (R406). -/
def execTieLeaseExpiry (port : Nat) (s : State) : Out :=
  let x := s.tiePort port
  whenTime (s.tim.frameDue && s.irlerIn port && s.tieShut port && x.resume.isNone && x.releaseAt.isNone &&
      decide ((s.cfg.ties.get port).lease ≤ x.heard + 1)) s fun s =>
    if x.st = .closed then releaseTie port 9 s
    else if x.offered then sendRelease port 9 (setTie port (fun x => { x with imp := 0, agreed := 0 }) (openTie port s))
    else setTie port (fun x => { x with imp := 0, importDue := false, releaseAt := some (s.tim.frame + s.deadline), releaseWhy := 9 }) s

/-- TIE_RENEW_SEND: every tie_lease / 4 frames of a closed tie (R406). -/
def execTieRenewSend (port : Nat) (s : State) : Out :=
  let x := s.tiePort port
  whenTime (s.tim.frameDue && s.irlerIn port && s.tieShut port && decide ((s.cfg.ties.get port).lease / 4 ≤ x.renewAge + 1)) s fun s =>
    irlerSend port 0x09 (leInt 4 x.agreed ++ leBytes 2 (s.cfg.ties.get port).lease ++ leBytes 2 0)
      (setTie port (fun x => { x with renewAge := 0 }) s)

/-- RELEASE_DEADLINE: after the compliance deadline the requesting end opens and sends RELEASE (Table 14.6). -/
def execReleaseDeadline (port : Nat) (s : State) : Out :=
  let x := s.tiePort port
  whenTime (s.tim.frameDue && s.irlerIn port && x.releaseAt.any (fun e => decide (e ≤ s.tim.frame))) s fun s =>
    let st := if x.st = .silent then .silent else .idle
    sendRelease port x.releaseWhy (tieTo st port (openTie port s))

/-- MARKER_READ_INTERVAL: every marker_frames while the cable is present (R398). -/
def execMarkerReadInterval (port : Nat) (s : State) : Out :=
  whenTime (s.tim.frameDue && s.irlerIn port && (s.tiePort port).cable &&
      decide ((s.cfg.ties.get port).markerFrames ≤ (s.tiePort port).markerAge + 1)) s
    (sendMarkerRead port)

/-- RESUME_WINDOW_EXPIRY: the adopted tie is opened and the port goes to IDLE (R408). -/
def execResumeWindowExpiry (port : Nat) (s : State) : Out :=
  whenTime (s.tim.frameDue && s.irlerIn port && (s.tiePort port).resume.any (fun e => decide (e ≤ s.tim.frame))) s fun s =>
    tieTo .idle port (openTie port s)

/-! ### Start, block reset and commands -/

/-- A port at the start of control: its settings, and the session of a channel that was adopted closed resumes or ends; a port
that is not in use opens it at once (R408; DEDUCED, log entry 43). -/
def startTie (p : Nat) (s : State) : State :=
  let g := s.cfg.ties.get p
  let adopted := decide ((s.tieCh p).st = .on)
  let s1 := setTie p (fun x => { portEn := g.portEn, supplyEn := g.supplyEn, cable := x.cable, nRepeat := x.nRepeat, nCrc := x.nCrc
                                 nColl := x.nColl, nextId := x.nextId }) s
  if adopted && g.portEn then
    sendMarkerRead p (sendHello true p (setTie p (fun x => { x with
      st := .linking, resume := some (s.tim.frame + g.resumeFrames) }) s1))
  else if adopted then openTie p s1
  else s1

/-- Block reset of TIE_: the port restarts from its link-down state, a closed channel as after an adoption (Table 12.4). -/
def resetTie (p : Nat) (s : State) : State :=
  let x := s.tiePort p
  let s1 := if (s.tieCh p).st = .starting then openTie p s else s
  setTie p (fun y => { y with portEn := x.portEn, supplyEn := x.supplyEn }) (startTie p s1)

/-- CMD_TIE_REQUEST (R410). -/
def cmdTieRequest (port power : Nat) (s : State) : CmdOut :=
  unlessRefused
    [(decide (port ≥ 2), rsRange, 0), (decide ((s.tiePort port).st ≠ .idle), rsState, 0)] s fun s =>
    done (setTie port (fun x => { x with wantReq := some (power : Int) }) s)

/-- CMD_TIE_RELEASE (R406, R410). -/
def cmdTieRelease (port : Nat) (s : State) : CmdOut :=
  let st := (s.tiePort port).st
  unlessRefused
    [(decide (port ≥ 2), rsRange, 0),
     (decide (st = .detached ∨ st = .linking ∨ st = .silent ∨ st = .idle), rsState, 0)] s fun s =>
    done (setTie port (fun x => { x with relDue := some 8 }) s)

/-- CMD_TIE_PORT_SET: a port disabled with its tie CLOSED first releases it (R410). -/
def cmdTiePortSet (port : Nat) (mask values : Byte) (s : State) : CmdOut :=
  unlessRefused [(decide (port ≥ 2), rsRange, 0)] s fun s =>
    let x := s.tiePort port
    let s1 := if bvGet mask 1 then setTie port (fun x => { x with supplyEn := bvGet values 1 }) s else s
    let s2 :=
      if !bvGet mask 0 then s1
      else if bvGet values 0 then setTie port (fun x => { x with portEn := true, disable := false }) s1
      else if x.st = .closed || s.tieShut port then setTie port (fun x => { x with disable := true, relDue := some 8 }) s1
      else setTie port (fun x => { x with portEn := false }) (detach port (openTie port s1))
    wrote s2 (([0, 1].filter (bvGet mask)).map fun k => (0x0F, port, k))

end Sys2Proof.Machine
end

