-- ==== Sys2Proof/Machine/BatchCheck.lean ====
section
/-! DEFINITION. What batch verification refuses in the tables of an image (check 8 of Table 18.3), section by section, each test
under the rule that states it. -/
namespace Sys2Proof.Machine

/-- No two elements of a list agree. -/
def distinct {α : Type} [BEq α] : List α → Bool
  | [] => true
  | x :: r => !r.contains x && distinct r

/-- R472: port_order is a permutation. -/
def okBindings (b : Batch) : Bool :=
  b.portOrder.length = 3 && b.portOrder.contains .fhp && b.portOrder.contains .mgt && b.portOrder.contains .peer

/-! ### Region records (R119) -/

/-- Signed words of a record from an offset. -/
def wordsAt (r : List Byte) (off n : Nat) : List Int := (List.range n).map fun k => (BitVec.ofNat 32 (field r (off + 4 * k) 4)).toInt

/-- A region record of 3,072 bytes (Table 4.3). -/
def regionOfBytes (r : List Byte) : Region :=
  let h := field r 0 4
  { n := bitsOf h 3 0, m := bitsOf h 7 4, p := bitsOf h 10 8, mode := bitsOf h 13 12, rset := bitsOf h 16 14, tag := field r 4 4
    a := wordsAt r 0x008 144, b := wordsAt r 0x248 48, c := wordsAt r 0x308 96, k := wordsAt r 0x488 48, l := wordsAt r 0x548 96
    nn := wordsAt r 0x6C8 4, mb := wordsAt r 0x6D8 144, mi := wordsAt r 0x918 144, uMin := wordsAt r 0xB58 4
    uMax := wordsAt r 0xB68 4, slew := wordsAt r 0xB78 4, thr := wordsAt r 0xB88 8
    pers := (List.range 8).map fun k => field r (0xBA8 + k) 1 }

/-- The tables of an image: its region records by their bytes, the others as the image spells them (R119). -/
def imageTables (image : List Byte) : Batch :=
  let rs := (Config.regionRecords image).map regionOfBytes
  { Config.batchOfImage image with regions := (List.range rs.length).map fun k => (k, nth rs k) }

/-! ### Measurement (R78, R83, R93, R104, R567) -/

/-- Positions of the conversions of a converter in a period, in order. -/
def slotPositions (b : Batch) (conv period : Nat) : List Int :=
  let es := (List.range 16).filter fun e =>
    let x := b.slots.get (16 * conv + e)
    x.enable && bvGet x.periodMask period
  sortBy (fun a c => decide (a < c)) (es.map fun e => (b.slots.get (16 * conv + e)).position)

/-- 1/256 steps of a period at 0.875 of its length that amount to 200 ns. -/
def spaced (b : Batch) (d : Int) : Bool := decide (200 * 2048 ≤ d * 7 * b.nominalNs)

/-- Consecutive positions stand far enough apart. -/
def spacedRun (b : Batch) : List Int → Bool
  | x :: y :: r => spaced b (y - x) && spacedRun b (y :: r)
  | _ => true

/-- R78 for one converter: within each period, and from a period into the next. -/
def okSlots (b : Batch) (conv : Nat) : Bool :=
  (List.range b.tickPeriods).all fun p =>
    let here := slotPositions b conv p
    let next := slotPositions b conv ((p + 1) % b.tickPeriods)
    spacedRun b here && (match here.getLast?, next.head? with
      | some x, some y => spaced b (256 + y - x)
      | _, _ => true)

/-- R93: every role of Table 3.3 stands at most once; R567: a disabled monitor has neither role nor routing. -/
def okMons (b : Batch) : Bool :=
  let all := (List.range 128).map b.mons.get
  distinct ((all.map (·.role)).filter (· ≠ .none)) &&
    all.all fun m => m.enable || (m.role = .none && m.uvRoute = {} && m.ovRoute = {})

/-- The Measurement section. -/
def okMeasurement (b : Batch) : Bool :=
  (List.range 8).all (okSlots b) && decide (b.slowPerTick * 4000 ≤ b.tickPeriods * b.nominalNs) && okMons b &&
    decide (b.warnRise < b.throttleRise)

/-! ### Loops (R109, R112, R115, R119, R120, R132, R566) -/

/-- A source that may stand in a loop: no LOOP_OUT of itself or a later loop (R112), no point of type NONE (R566). -/
def okSource (b : Batch) (l : Nat) (e : SrcEntry) : Bool :=
  match e.src with
  | .fast c => ptType b (0x080 + c) ≠ 0
  | .slow c => ptType b (0x0A0 + c) ≠ 0
  | .point p => ptType b p ≠ 0
  | .loopOut m _ => decide (loopOrder.idxOf m < loopOrder.idxOf l)
  | _ => true

/-- The elements of a matrix outside its used corner are 0 (R119). -/
def zeroBeyond (mat : List Int) (stride rows cols : Nat) : Bool :=
  (List.range mat.length).all fun k => decide (k / stride < rows ∧ k % stride < cols) || nth mat k = 0

/-- One region record of a loop (R109, R119, R120). -/
def okRegion (c : LoopCfg) (g : Region) : Bool :=
  g.n = c.n && g.m = c.m && g.p = c.p && zeroBeyond g.a 12 c.n c.n && zeroBeyond g.b 4 c.n c.p && zeroBeyond g.c 12 c.m c.n &&
    zeroBeyond g.k 12 c.p c.n && zeroBeyond g.l 8 c.n c.m && zeroBeyond g.mb 12 c.n c.n && zeroBeyond g.mi 12 c.n c.n &&
    (List.range c.p).all fun k => decide (nth g.uMin k ≤ nth g.uMax k)

/-- Sets that some set-table entry of the loop uses (R132). -/
def tableSets (c : LoopCfg) : List Nat :=
  (List.range 5).filter fun k => (List.range 4).any fun m => (c.sets.get (5 * m + k)).any (· ≠ 0xFFFF)

/-- A set in use: a degraded one leaves the inputs that it excludes out of every region; and the degraded sets that its map
entries name, of every input below m, exclude all that it does (R132). -/
def okDegraded (b : Batch) (c : LoopCfg) (set : Nat) : Bool :=
  let regs := (List.range 4).flatMap fun m => (c.sets.get (5 * m + set)).filter (· ≠ 0xFFFF)
  let clean := regs.all fun r =>
    let g := b.regions.get r
    (List.range c.m).all fun i => !bvGet (c.excludes.get set) i ||
      ((List.range c.n).all fun k => decide (nth g.c (12 * i + k) = 0 ∧ nth g.l (8 * k + i) = 0))
  let covers := (List.range c.m).all fun i =>
    match c.degrade.get (8 * set + i) with
    | .degraded k => decide (c.excludes.get set &&& c.excludes.get k = c.excludes.get set)
    | _ => true
  (set = 0 || clean) && covers

/-- A loop that runs under the image: L6 and L7 where the image holds them, a stage loop where its stage has phases. -/
def loopHeld (b : Batch) (l : Nat) : Bool := (b.loops.get l).present || (decide (l < 6) && !(phasesOf b l).isEmpty)

/-- One loop. -/
def okLoop (b : Batch) (l : Nat) : Bool :=
  let c := b.loops.get l
  if !loopHeld b l then true
  else
    let used := ((c.sets.flatMap (·.2)).filter (· ≠ 0xFFFF)).eraseDups
    let dests := ((List.range c.p).map fun k => (nth c.outs k).dest)
    let sources := c.inputs ++ c.refs ++ (c.grids.flatMap fun g => [g.2.sa, g.2.sb])
    decide (1 ≤ c.n ∧ c.n ≤ 12 ∧ 1 ≤ c.m ∧ c.m ≤ 8 ∧ 1 ≤ c.p ∧ c.p ≤ 4) && distinct dests && sources.all (okSource b l) &&
      used.all (fun r => decide (r < 512) && okRegion c (b.regions.get r)) && (tableSets c).all (okDegraded b c) &&
      (reachedCells b l).all (· ≠ 0xFFFF)

/-- The Loops section; the region pool holds 512 records (R119). -/
def okLoops (b : Batch) : Bool := (List.range 8).all (okLoop b) && (tabKeys b.regions).all fun r => decide (r < 512)

/-! ### Stages (R151, R566) -/

/-- A point of a fast or a slow channel. -/
def measuredPoint (p : Nat) : Bool := decide (0x080 ≤ p ∧ p ≤ 0x0DF)

/-- A slew step of R159 at activation. -/
def slewStepOf (b : Batch) (slew : Int) : Int := divRhe (slew * b.tickPeriods * b.nominalNs) 1000

/-- One stage in use; its modes, the default one among them, are such as Table 5.5 permits its topology (R156). -/
def okStage (b : Batch) (st : Nat) : Bool :=
  let c := b.stages.get st
  let ph := phasesOf b st
  if ph.isEmpty then true
  else
    let volt := bvGet c.modesAllowed 3
    let cur := bvGet c.modesAllowed 0 || bvGet c.modesAllowed 2
    (List.range 4).all (fun m => !bvGet c.modesAllowed m || StageCfgPermits c m) && StageCfgPermits c (modeCode c.defaultMode) &&
      decide (c.shedLevel < c.addLevel ∧ c.minPhases ≤ ph.length ∧ divRhe (c.peakMax * c.rSense) 100000 ≤ 1023) &&
      measuredPoint c.vSrc && measuredPoint c.iSrc &&
      (!volt || slewStepOf b c.vSlew ≠ 0) && (!cur || slewStepOf b c.iSlew ≠ 0) &&
      decide (c.vMin ≤ c.vInit ∧ c.vInit ≤ c.vMax ∧ 0 ≤ c.iInit ∧ c.iInit ≤ max c.iChgMax c.iDisMax) &&
      [c.vSrc, c.iSrc, c.tSrc].all (fun p => ptType b p ≠ 0) &&
      ph.all fun i => decide (32 ≤ (b.phases.get i).phaseChan) || ptType b (0x080 + (b.phases.get i).phaseChan) ≠ 0

/-- The Stages section. -/
def okStages (b : Batch) : Bool := (List.range 6).all (okStage b)

/-! ### Sharing and hold-up (R178, R179, R192, R196) -/

/-- Bus value in mV of a threshold at a monitor's pin, as an exact fraction over 1024 x divDen. -/
def busOver (m : MonCfg) (pin1024 : Int) : Int := pin1024 * m.divNum

/-- Rectifiers of an image. -/
def rectsOf (b : Batch) : List RectCfg := ((List.range 36).map b.rects.get).filter (·.present)

/-- Time of one READ_IOUT in us (R179). -/
def readUs (khz : Nat) : Nat := if khz ≥ 1000 then 60 else if khz ≥ 400 then 150 else 600

/-- R179 for one port. -/
def okPolls (b : Batch) (p : Nat) : Bool :=
  let n := ((rectsOf b).filter (·.port = p)).length
  decide (n * b.marver.pollHz * readUs (b.pmbKhz.get p) ≤ 600000)

/-- Thresholds of a monitor on the bus, in 1/1024 mV: where its UV asserts and where it is released (R89). -/
def uvAssert (m : MonCfg) : Int := busOver m ((m.lower : Int) * 1200)
/-- Release threshold. -/
def uvRelease (m : MonCfg) : Int := busOver m ((m.lower : Int) * 1200 + (m.hyst : Int) * 1024)

/-- R192 and R196. -/
def okHold (b : Batch) : Bool :=
  let trip := (monWith b .holdTrip).map b.mons.get
  let shed := (monWith b .shed).map b.mons.get
  let battery := (List.range 6).any fun st => (b.stages.get st).battery && !(phasesOf b st).isEmpty
  let apart := match trip, shed with
    | some t, some h =>
      decide ((uvAssert h * t.divDen) + 1000 * 1024 * h.divDen * t.divDen ≤ uvAssert t * h.divDen)
    | _, _ => true
  let above := match trip with
    | some t => decide (uvRelease t < b.hold.setpoint * 1024 * t.divDen)
    | none => true
  (!battery || (trip.isSome && shed.isSome)) && apart && above

/-- The Sharing and hold-up section. -/
def okSharing (b : Batch) : Bool :=
  let rs := rectsOf b
  distinct (rs.map fun r => (r.port, r.address)) && rs.all (fun r => decide (r.trimMin < 0 ∧ 0 < r.trimMax ∧ 20 ≤ r.unparkMs ∧ r.unparkMs ≤ 200)) &&
    (List.range 8).all (okPolls b) && okHold b

/-! ### Lehr, battery, channels (R210, R228, R257, R566) -/

/-- shed_bus_mv of an image, over 1024 x divisor. -/
def shedBusOf (b : Batch) : Int × Int :=
  match monWith b .shed with
  | none => (36000, 1)
  | some m => (uvAssert (b.mons.get m), 1024 * (b.mons.get m).divDen)

/-- Domains of an image. -/
def domsOf (b : Batch) : List DomCfg := ((List.range 512).map b.doms.get).filter (·.present)

/-- The Lehr section. -/
def okLehr (b : Batch) : Bool :=
  let ds := domsOf b
  let bus := shedBusOf b
  ds.all (fun d => decide (d.slot < 48 ∧ d.floor ≤ d.ceiling ∧ 0 < d.weight)) &&
    distinct (ds.map fun d => (d.node, d.number)) &&
    (List.range 48).all fun c =>
      let floors := sumI ((ds.filter fun d => d.essential && d.slot = c).map (·.floor))
      floors = 0 || decide (floors * 1000 * bus.2 ≤ (b.chans.get c).limRun * bus.1)

/-- A strictly increasing list. -/
def rising : List Int → Bool
  | x :: y :: r => decide (x < y) && rising (y :: r)
  | _ => true

/-- The Battery section. -/
def okBattery (b : Batch) : Bool :=
  let ms := ((List.range 64).map b.modules.get).filter (·.present)
  let stages := (List.range 6).filter fun st => (b.stages.get st).battery && !(phasesOf b st).isEmpty
  distinct (stages.map fun st => (b.stages.get st).string) &&
    distinct (ms.map fun m => (m.port, m.address)) &&
    ms.all (fun m => !(rectsOf b).any fun r => r.port = m.port && r.address = m.address) &&
    (List.range 6).all fun n =>
      let g := b.strings.get n
      let mine := ms.filter (·.string = n)
      !g.present || ((mine.isEmpty || g.cells = (mine.map (·.cells)).sum) && rising g.ocv &&
        ptType b g.iPt ≠ 0 && ptType b g.vPt ≠ 0)

/-- The Channels section (R257). -/
def okChannels (b : Batch) : Bool :=
  (List.range 54).all fun c =>
    let g := b.chans.get c
    let fits := fun ma : Int => decide (10 ≤ limRaw ma g.rSense ∧ limRaw ma g.rSense ≤ 200)
    !g.present || (fits g.limStart && fits g.limRun && decide (g.limStart ≤ g.limRun))

/-! ### Sequencer, faults, nodes (R286, R340, R424, R567) -/

/-- Rails of an image with their index. -/
def railsOf (b : Batch) : List (Nat × RailCfg) := b.rails.filter fun r => decide (r.1 < 4096 ∧ r.2.kind ≠ 0)

/-- The Sequencer section. -/
def okSequencer (b : Batch) : Bool :=
  let rs := railsOf b
  rs.all (fun r =>
    let g := r.2
    (g.kind = 2 || (monWith b (.rail r.1)).isSome) && !(g.kind = 2 && g.reaction = 1) && (b.groups.get g.group).present &&
      rs.all (fun q => !(g.kind = 1 && q.2.kind = 1 && g.en = q.2.en) || (g.group = q.2.group && g.position = q.2.position)) &&
      (g.kind ≠ 3 || rs.any fun q => q.2.group = g.group && decide (q.2.position < g.position ∨
        (q.2.position = g.position ∧ q.2.kind ≠ 3)))) &&
    (List.range 64).all fun k =>
      let g := b.groups.get k
      !g.present || g.input ≠ 2 || (b.mons.get g.inputMon).enable

/-- The Faults section (R340). -/
def okFaults (b : Batch) : Bool :=
  (List.range 32).all fun blk => resettable blk || (List.range 32).all fun k => !bvGet (b.react.get (32 * blk + k)) 2

/-- The Points and downstream section (R424). -/
def okNodes (b : Batch) : Bool :=
  let ns := ((List.range 63).map fun n => b.nodes.get (n + 1)).filter (·.present)
  ns.all (fun n => decide (n.position < 4)) && distinct (ns.map fun n => (n.port, n.position))

/-- The type of the first section, in type order, that breaks a rule (check 8 of Table 18.3). -/
def batchRefused (b : Batch) : Option Nat :=
  let tests : List (Nat × Bool) :=
    [(0x02, okBindings b), (0x04, okMeasurement b), (0x05, okLoops b), (0x06, okStages b), (0x07, okSharing b), (0x08, okLehr b),
     (0x09, okBattery b), (0x0A, okChannels b), (0x0B, okSequencer b), (0x0D, okFaults b), (0x0F, okNodes b)]
  (tests.find? fun t => !t.2).map (·.1)

end Sys2Proof.Machine
end

