-- ==== Sys2Proof/Machine/Control.lean ====
section
/-! DEFINITION. Taking control: at the end of a claim (R385), and at an adoption after a core-die restart (R512, R513); and the
starts at the end of boot (step 8 of Table 19.4). -/
namespace Sys2Proof.Machine

/-- Content of one mirrored item, read back from its slice (Table 13.5). -/
def State.mirVal (s : State) (n : Nat) : List Int := Config.mirrorValues n (s.red.mirror.slices.get n)

/-- A truth value of a mirrored field. -/
def isSet (l : List Int) (k : Nat) : Bool := decide (nth l k ≠ 0)

/-! ### Key counters, lehr, strings -/

/-- Key counters: the larger of the own and the mirrored values (Table 13.6). -/
def controlKeys (s : State) : State :=
  let top := fun (t : Tab Nat) => (List.range 4).foldl (fun t k => t.put k (max (t.get k) (s.red.mirCtr.get k))) t
  { s with hst := { s.hst with accCtr := top s.hst.accCtr, verCtr := top s.hst.verCtr } }

/-- Domain state of its code. -/
def domOfCode (c : Int) : DomState := if c = 1 then .active else if c = 2 then .held else if c = 3 then .disabled else .offline

/-- A domain as mirrored. -/
def domOfItem (v : List Int) : Domain :=
  { prio := natOf (nth v 0), ceiling := nth v 1, weight := natOf (nth v 2), request := nth v 3
    pin := if isSet v 4 then some (nth v 5) else none, st := domOfCode (nth v 6), target := nth v 7, grant := nth v 8
    gHi := nth v 9, hiUntil := natOf (nth v 10), waited := natOf (nth v 11), shed := isSet v 12, enabled := isSet v 13
    demanded := nth v 6 = 1 }

/-- The lehr restarts without knowledge of the grants in force: the start-up hold of R220, from the given first frame. -/
def freshLehr (first : Nat) (s : State) : State :=
  let l : LehrSt := { startHold := true, holdUntil := first + s.cfg.lehr.grantLease }
  loadDomains { s with leh := { s.leh with cur := l, nxt := l, grantsDue := [] } }

/-- Domains and grants as mirrored, every grant sent again at this boundary (Table 13.6). -/
def mirroredLehr (s : State) : State :=
  let doms : Tab Domain := s.domsUsed.foldl (fun (t : Tab Domain) d => t.put d { domOfItem (s.mirVal d) with
    issued := s.tim.frame, decFrom := some (s.tim.frame - 1) }) []
  let l : LehrSt := { doms := doms }
  let live := s.domsUsed.filter fun d => (doms.get d).live
  { s with leh := { s.leh with cur := l, nxt := l, grantsDue := live } }

/-- A string without mirrored state: INIT with its cycle record loaded, or the design capacity where none is valid (R250). -/
def freshString (s : State) (n : Nat) : BatString :=
  let g := s.cfg.strings.get n
  match s.cycleRec n with
  | none => { fccMah := g.designMah, disLimit := g.disFloor }
  | some r => { fccMah := r.fccMah, disLimit := g.disFloor, cycles := r.cycles, disAcc := r.disAcc, relearn := r.relearn }

/-- Charge state of its code. -/
def chargeOfCode (c : Int) : ChargeState :=
  if c = 1 then .cc else if c = 2 then .cv else if c = 3 then .float else if c = 4 then .inhibit
  else if c = 5 then .suspended else .idle

/-- What the charge controller gives its stage in the state it stands in (Table 8.3). -/
def chargeOut (s : State) (n : Nat) (x : BatString) : BatString :=
  let g := s.cfg.strings.get n
  if !g.chargeAuto then x
  else match x.charge with
    | .idle | .inhibit => { x with chgMode := some .idle }
    | .cc => { x with chgMode := some .charge }
    | .cv => { x with chgMode := some .trim, chgV := some (s.vCv n) }
    | .float => { x with chgMode := some .trim, chgV := some ((g.cells : Int) * g.vCellFloat) }
    | .suspended => { x with chgMode := (s.strStage n).map fun st => handbackMode (s.cfg.stages.get st) }

/-- A string as mirrored (Table 13.5): what follows from the mirrored state follows at once (R250). -/
def mirroredString (s : State) (n : Nat) : BatString :=
  let v := s.mirVal (4678 + n)
  let out := fun x : BatString => if x.init then chargeOut s n x else chargeOut s n (capStep s n x)
  out { freshString s n with
    qRem := nth v 0, k := nth v 1, fccMah := natOf (nth v 2), init := isSet v 3, discordant := isSet v 4, ended := isSet v 5
    relearn := isSet v 6, fast := isSet v 7, senseLost := isSet v 8, charge := chargeOfCode (nth v 9)
    termRun := natOf (nth v 10), cvFrames := natOf (nth v 11), inhibRun := natOf (nth v 12), disAcc := nth v 13 }

/-- Every string, mirrored or fresh. -/
def controlStrings (mirrored : Bool) (s : State) : State :=
  let one := fun n => if mirrored then mirroredString s n else freshString s n
  let b : BatSt := { strings := s.strsUsed.foldl (fun (t : Tab BatString) n => t.put n (one n)) [] }
  let s1 := { s with bat := { s.bat with cur := b, nxt := b } }
  let cc := (s.strsUsed.filter fun n => (s1.str n).charge = .cc && (s.cfg.strings.get n).chargeAuto).length
  let s2 := s.strsUsed.foldl (fun s n => chargeTarget cc n s) s1
  { s2 with bat := { s2.bat with cur := s2.bat.nxt } }

/-! ### Stages and loops -/

/-- A stage at the start of logical time or of control: OFF, or OV_LATCHED under a latch that the power die reports; its
targets are the batch's (R159, R162, R513). -/
def freshStage (c : StageCfg) (x : Stage) : Stage :=
  { st := if x.ovLatch then .ovLatched else .off, ovLatch := x.ovLatch, vTarget := c.vInit, iTarget := c.iInit
    mode := c.defaultMode, modeTick := c.defaultMode, ovCount := x.ovCount, abortCount := x.abortCount, shedCount := x.shedCount }

/-- Every stage fresh, its phases unmasked at the batch's offsets. -/
def freshStages (s : State) : State :=
  let s1 := (List.range 6).foldl (fun s st => setStage st (freshStage (s.cfg.stages.get st)) s) s
  (List.range 24).foldl (fun s i => setPhase i (fun p => { pwm := p.pwm, offset := (s.cfg.phases.get i).offset }) s) s1

/-- A stage's mirrored enable, mode, targets, masks and latch (Table 13.5). -/
def mirroredStage (st : Nat) (s : State) : State :=
  let v := s.mirVal (4672 + st)
  let bits := natOf (nth v 4)
  let s1 := setStage st (fun x => { x with
    enabled := isSet v 0, cmdMode := if nth v 1 < 0 then none else some (modeOf (natOf (nth v 1)))
    vTarget := nth v 2, iTarget := nth v 3, ovLatch := x.ovLatch || isSet v 5
    st := if x.ovLatch || isSet v 5 then .ovLatched else x.st }) s
  (phasesOf s.cfg st).foldl (fun s i => setPhase i (fun p => { p with masked := bitAt bits i }) s) s1

/-- Enabled stages that are OFF start (R161); auto_start enables those without mirrored state (R162). -/
def startStages (l : List Nat) (s : State) : State :=
  l.foldl (fun s st => if (s.stage st).enabled && (s.stage st).st = .off && s.stageUsed st then startStage st s else s) s

/-- auto_start enables a stage. -/
def autoStage (st : Nat) (s : State) : State := setStage st (fun x => { x with enabled := (s.cfg.stages.get st).autoStart }) s

/-- Every declared loop is enabled from the start. -/
def freshLoops (s : State) : State :=
  { s with lop := { s.lop with
      loops := (List.range 8).foldl (fun (t : Tab Loop) l => t.put l { enabled := s.loopDeclared l }) [], roundOpen := 0 } }

/-- The loops that stand without a stage start (R136). -/
def startFreeLoops (s : State) : State :=
  [6, 7].foldl (fun s l => if s.loopDeclared l && (s.loop l).enabled then startLoop l s else s) s

/-! ### Hold-up, channels -/

/-- Hold-up restarts in NORMAL; the shed orders, the progression and the standing limits are the power die's (Table 13.6,
R513). -/
def freshHold (h : HoldUp) : HoldUp :=
  { order := h.order, bank := h.bank, prog := h.prog, progRun := h.progRun, steps := h.steps, progPos := h.progPos
    vinAtStep := h.vinAtStep, standing := h.standing, trippedUnder := h.trippedUnder }

/-- The rectifiers are rediscovered from ABSENT and hold-up is NORMAL. -/
def freshSharing (s : State) : State := { s with shr := { cur := {}, nxt := {}, hold := freshHold s.shr.hold } }

/-- What of a channel is the core die's own starts over. -/
def freshChan (auto : Bool) (x : Channel) : Channel :=
  { x with enabled := auto, pending := false, cool := none, seatRun := 0, seatAll := true, gapRun := 0, gapAll := false
           vinRun := 0, vinAll := true, openDue := false, follower := false, guardRel := false, guardTrip := false
           held := none, heldCode := none, pulledDue := false }

/-- A channel whose gate was sampled on: ON, or CLOSED for a tie, under lim_run and with its power-good standing. -/
def chanOn (x : Channel) : Channel := { x with st := .on, enabled := true, pg := true, pgS := true, pgRun := 2, runCode := true }

/-- A channel that is TRIPPED from the current frame with full cool-down. -/
def chanTripped (f : Nat) (g : ChanCfg) (x : Channel) : Channel :=
  { gateOff x with st := .tripped, cool := some (f + g.coolFrames), pgS := false }

/-- The trip event bit of a channel (R561). -/
def markTrip (c : Nat) (s : State) : State := { s with hsw := { s.hsw with tripEvent := bvPut s.hsw.tripEvent c true } }

/-- A channel at a claim (Table 13.6); a guard that stands is adopted as TRIPPED (R381). -/
def claimChan (c : Nat) (s : State) : State :=
  let g := s.cfg.chans.get c
  let guard := (s.chan c).guard
  let on := bvGet s.red.claimGates c && !guard
  let s1 := setChan c (fun x =>
    let y := { freshChan g.autoStart x with guard := false, ew := !on || (isKeeper c && x.ewVin) }
    if on then chanOn y
    else if guard then { chanTripped s.tim.frame g y with latched := some .breaker, tripSeen := true }
    else if isSlot c && x.seatS then chanTripped s.tim.frame g y
    else { gateOff y with st := .empty, pgS := false }) s
  if guard then markTrip c s1 else s1

/-- A declared channel at an adoption, from the power die's report; a cable pull of the meantime is recorded (R277, R279, R513). -/
def adoptChan (c : Nat) (s : State) : State :=
  let g := s.cfg.chans.get c
  let old := s.chan c
  let tripped := old.latchedOff || old.guard || old.st = .tripped
  let s1 := setChan c (fun x =>
    let y := { freshChan g.autoStart x with guard := false }
    if x.st = .failed then { gateOff y with st := .failed }
    else if tripped then
      { chanTripped s.tim.frame g y with latched := if x.guard then some .breaker else x.latched, tripSeen := x.tripSeen || x.guard }
    else if x.gate then (if x.pg then chanOn y else { y with st := .starting, pgS := false })
    else { gateOff y with st := .empty, pgS := false }) s
  let s2 := raiseIf old.pulledDue kTiePulled c 0 s1
  if tripped && old.st ≠ .failed then markTrip c s2 else s2

/-- A gate that is on without a declared channel is turned off, and reported (R513). -/
def adoptStray (c : Nat) (s : State) : State :=
  if (s.chan c).gate then raise kAdoptMismatch 1 c (turnOff c .empty s) else s

/-- Every channel at an adoption; in crucible the gates stand as they are (R501). -/
def adoptChans (s : State) : State :=
  if s.sys.crucible then s
  else (List.range 54).foldl (fun s c => if s.chanUsed c then adoptChan c s else adoptStray c s) s

/-! ### Groups (Table 13.6) -/

/-- Group state of its code. -/
def groupOfCode (c : Int) : GroupState :=
  if c = 1 then .rising else if c = 2 then .up else if c = 3 then .falling else if c = 4 then .resting
  else if c = 5 then .latched else if c = 6 then .frozen else .off

/-- A rail as mirrored. -/
def railOfItem (v : List Int) : Rail :=
  { up := isSet v 0, off := isSet v 1, placed := isSet v 2, edgeUp := isSet v 3, retries := natOf (nth v 4), inWin := natOf (nth v 5) }

/-- The mirrored state of a group agrees with the EN levels that the claimant sampled. -/
def State.groupAgrees (s : State) (g : Nat) : Bool :=
  ((s.groupRails g).filter fun i => (s.cfg.rails.get i).kind = 1).all fun i =>
    isSet (s.mirVal (576 + i)) 3 = bvGet s.seq.en (s.cfg.rails.get i).en

/-- The step that a mirrored rise or fall had in progress is placed again. -/
def resumeStep (g : Nat) (s : State) : State :=
  let placed := (s.groupRails g).filter fun i => (s.rail i).placed
  let pos := fun l : List Nat => l.map fun i => (s.cfg.rails.get i).position
  match (s.groupCur g).st with
  | .rising =>
    let p := (pos placed).foldl max 0
    placeStep g p true s.absTick (setGroupBoth g (fun x => { x with pos := some p, tPrev := s.absTick }) s)
  | .falling =>
    let done := pos (placed.filter fun i => !(s.rail i).edgeUp)
    let p := match done with
      | [] => (pos placed).foldl max 0
      | q :: r => r.foldl min q
    placeStep g p false s.absTick (setGroupBoth g (fun x => { x with pos := some p, tPrev := s.absTick }) s)
  | _ => s

/-- A group at a claim with a complete mirror. -/
def mirroredGroup (g : Nat) (s : State) : State :=
  let v := s.mirVal (512 + g)
  let s1 := (s.groupRails g).foldl (fun s i => setRail i (fun _ => railOfItem (s.mirVal (576 + i))) s) s
  let s2 := setGroupBoth g (fun x => { x with
    st := groupOfCode (nth v 0), target := isSet v 1, latching := isSet v 2, restUntil := s.tim.frame + natOf (nth v 3) }) s1
  resumeStep g (setSeq (fun q => { q with seqfDrive := q.seqfDrive || isSet v 4 }) s2)

/-- Every group at a claim: as mirrored where that agrees with the EN levels, as adopted elsewhere (Table 13.6, R303). -/
def controlGroups (mirrored : Bool) (s : State) : State :=
  let s0 := setSeq (fun q => { q with cur := [], nxt := [], rails := [], orders := [], frozen := false }) s
  s0.groupsUsed.foldl (fun s g => if mirrored && s.groupAgrees g then mirroredGroup g s else adoptGroup g s) s0

/-! ### Control -/

/-- The claim frame has ended: the claimant is holder and takes control; the current frame is the one that the boundary opens
(R385, Table 13.6). -/
def takeControl (s : State) : State :=
  let m := s.red.mirComplete
  let s1 := setRed (fun r => { r with st := .holder, renewAge := 65535 }) s
  let s2 := if m then controlKeys s1 else s1
  let s3 := if m then mirroredLehr s2 else freshLehr s2.tim.frame s2
  let s4 := freshSharing (freshLoops (freshStages s3))
  let s5 := (List.range 6).foldl (fun s st => if m then mirroredStage st s else autoStage st s) s4
  let s6 := controlStrings m s5
  let s7 := s6.chansUsed.foldl (fun s c => claimChan c s) s6
  let s8 := controlGroups m s7
  let s9 := startFreeLoops (startStages (List.range 6) s8)
  let s10 := (List.range 2).foldl (fun s p => startTie p s) s9
  raise kPuntyClaimed 1 0 (settlePhases s10)

/-- A claim frame that the boundary ends; HOLD_N is released there and pulled again by the holder's pulse (R373, R378). -/
def claimEnds (ended : Nat) (s : State) : State :=
  if s.red.st = .claiming ∧ ended = s.red.claimFrame then
    takeControl (if s.red.drive then s else claimDrive s)
  else s

/-- The core die's own part of the running blocks at the start of logical time, in control or not. SEQF_N, whose level stood through
the reset (Table 20.3), is released outside crucible, because no group is LATCHED then (R296, Table 18.7; DEDUCED, log entry 54). -/
def freshBlocks (s : State) : State :=
  let s1 := freshLehr s.tim.frame s
  let s2 := controlStrings false (freshSharing (freshLoops (freshStages s1)))
  let s3 := setSeq (fun q => { q with
    cur := [], nxt := [], rails := [], orders := [], frozen := false, seqfDrive := q.seqfDrive && s2.sys.crucible }) s2
  s3.chansUsed.foldl (fun s c => setChan c (freshChan (s.cfg.chans.get c).autoStart) s) s3

/-- Adoption of a running rack at step 7 of Table 19.4: HOLDER at that boundary, without a claim (R512, R513). -/
def adopt (s : State) : State :=
  let s1 := setRed (fun r => { r with st := .holder, drive := true, enFollow := false, renewAge := 65535 }) s
  let s2 := adoptGroups (adoptChans { s1 with sys := { s1.sys with adopted := true } })
  (List.range 2).foldl (fun s p =>
    startTie p (if (s.tieCh p).st = .starting then openTie p s else s)) s2

/-- The starts at the end of boot (step 8 of Table 19.4); a device that is not in control leaves them to its claim. -/
def endStarts (s : State) : State :=
  let s1 := startGroups s
  if !s1.drives then s1
  else
    let s2 := (List.range 6).foldl (fun s st => autoStage st s) s1
    settlePhases (startFreeLoops (startStages (List.range 6) s2))

end Sys2Proof.Machine
end

