-- ==== Sys2Proof/Machine/Activation.lean ====
section
/-! DEFINITION. Batch images: slots, delivery, verification, the journalled activation and its service pause (chapter 18, R483). -/
namespace Sys2Proof.Machine

/-- A change of the batch controller's state. -/
def setBch (f : Bch → Bch) (s : State) : State := { s with bch := f s.bch }

/-! ### Slots and images (R484 to R489) -/

/-- The bytes of a slot: 0 is A, 1 is B. -/
def Bch.slot (b : Bch) (k : Nat) : Tab Byte := if k = 0 then b.slotA else b.slotB

/-- Bytes written into a slot. -/
def Bch.setSlot (b : Bch) (k : Nat) (t : Tab Byte) : Bch := if k = 0 then { b with slotA := t } else { b with slotB := t }

/-- The staging slot: the one that the newest commit marker does not name; A where there is none (R489, log entry 30). -/
def Bch.stagingSlot (b : Bch) : Nat := if b.marker = some 0 then 1 else 0

/-- n bytes of a slot from an offset. -/
def slotBytes (t : Tab Byte) (off n : Nat) : List Byte := (List.range n).map fun k => t.get (off + k)

/-- A little-endian field of a slot. -/
def slotField (t : Tab Byte) (off n : Nat) : Nat := leNat (slotBytes t off n)

/-- L of Table 18.1. -/
def imageLen (t : Tab Byte) : Nat := slotField t 12 4

/-- The image's version. -/
def imageVersion (t : Tab Byte) : Nat := slotField t 16 4

/-- The image digest (R484). -/
def imageDigest (t : Tab Byte) : List Byte := sha384 (slotBytes t 0 (imageLen t - 96))

/-- Chunks of an image of L bytes (R491). -/
def imageChunks (len : Nat) : Nat := (len + 4095) / 4096

/-- A 48-byte little-endian integer of the image as the big-endian one that the signature check takes (R485). -/
def revField (t : Tab Byte) (off : Nat) : List Byte := (slotBytes t off 48).reverse

/-- Revision code of the device (R24, Table 18.1). -/
def revisionCode : Nat := 0xB0

/-- Check 2 of Table 18.3: the header's fields, its length with the chunk count, reserved bytes and the padding (R484, R491). -/
def headerOk (s : State) (t : Tab Byte) (count : Option Nat) : Bool :=
  let len := imageLen t
  let serial := slotField t 20 8
  let zero := fun off n => (slotBytes t off n).all (· == 0)
  slotField t 0 4 = 0x424E4C50 && slotField t 4 2 = 1 && slotField t 6 2 = 0x9400 &&
    decide (slotField t 8 1 ≤ revisionCode) && decide (slotField t 9 1 ≤ 3) && slotField t 10 2 = 15 &&
    decide (1 ≤ imageVersion t) && (serial = 0 || serial = s.otp.serial) && (count.all fun n => decide (n = imageChunks len)) &&
    zero 28 4 && zero 128 128 && zero len (4096 * imageChunks len - len)

/-- One entry of the section directory: type, offset, length (R486). -/
def dirEntry (t : Tab Byte) (k : Nat) : Nat × Nat × Nat :=
  let o := 256 + 16 * k
  (slotField t o 2, slotField t (o + 4) 4, slotField t (o + 8) 4)

/-- Check 7: every type once, sections at multiples of 64 that overlap neither one another nor the other parts (R486). -/
def directoryOk (t : Tab Byte) : Bool :=
  let len := imageLen t
  let es := (List.range 15).map (dirEntry t)
  let apart := fun (a b : Nat × Nat × Nat) => decide (a.2.1 + a.2.2 ≤ b.2.1 ∨ b.2.1 + b.2.2 ≤ a.2.1)
  let spare := (List.range 15).all fun k =>
    slotField t (256 + 16 * k + 2) 2 = 0 && slotField t (256 + 16 * k + 12) 4 = 0
  spare && (List.range 15).all (fun k => (es.map (·.1)).contains (k + 1)) &&
    es.all (fun e => e.2.1 % 64 = 0 && decide (256 + 16 * 15 ≤ e.2.1 ∧ e.2.1 + e.2.2 + 96 ≤ len)) &&
    (List.range 15).all fun i => (List.range i).all fun j => apart (nth es i) (nth es j)

/-- The hash of the image's root key (R487). -/
def rootHash (t : Tab Byte) : List Byte := sha384 (slotBytes t 32 96)

/-- A root slot's hash is programmed and its CRC-32C verifies (R357, R487). -/
def State.rootProgrammed (s : State) (r : Nat) : Bool :=
  bvGet s.otp.rootBlown r && crc32c (s.otp.roots.get r) = s.otp.rootCrc.get r

/-- A root is usable (R487). -/
def State.rootUsable (s : State) (r : Nat) : Bool := decide (r < 4) && s.rootProgrammed r && !bvGet s.otp.revoked r

/-- The checks of Table 18.3 in order, the first that fails with its kind and context; check 1 fails where L lies outside its
range (R492). At a boot's second slot no digest is given, and the slot's own stands for it (R500). -/
def verifySlot (s : State) (slot : Nat) (digest : Option (List Byte)) (count : Option Nat) : Option ((Nat × Nat) × Nat) :=
  let t := s.bch.slot slot
  let len := imageLen t
  let dig := imageDigest t
  let root := slotField t 9 1
  let ver := imageVersion t
  let badRange := decide (len < 512 ∨ 4194304 < len)
  if badRange || digest.any (fun d => d ≠ dig) then some (kVerifyFail, 1)
  else if !headerOk s t count then some (kVerifyFail, 2)
  else if !(s.rootProgrammed root && rootHash t = padTo 48 (s.otp.roots.get root)) then some (kVerifyFail, 3)
  else if bvGet s.otp.revoked root then some (kKeyRevoked, 4)
  else if !ecdsaVerify (revField t 32 ++ revField t 80) (revField t (len - 96) ++ revField t (len - 48)) dig then
    some (kVerifyFail, 5)
  else if !decide (s.bch.floorVersion < ver ∨ (ver = s.bch.floorVersion ∧ dig = padTo 48 s.bch.floorDigest)) then
    some (kVersionRefused, 6)
  else if !directoryOk t then some (kVerifyFail, 7)
  else (batchRefused (imageTables (slotBytes t 0 len))).map fun ty => (kVerifyFail, 8 + 256 * ty)

/-- The tables of a slot's image. -/
def State.slotBatch (s : State) (slot : Nat) : Batch :=
  let t := s.bch.slot slot
  imageTables (slotBytes t 0 (imageLen t))

/-! ### Delivery (R483, R490) -/

/-- Chunks of the staging slot that are written. -/
def Bch.written (b : Bch) : Nat := ((List.range b.stCount).filter b.bitmap.get).length

/-- Every chunk below the count is written (R490). -/
def Bch.complete (b : Bch) : Bool := b.staging && b.written = b.stCount

/-- Staging ends: what is held and not yet written goes with it; a write under way completes without effect. -/
def endStaging (b : Bch) : Bch :=
  { b with staging := false, stVersion := 0, stCount := 0, stDigest := [], bitmap := [], pieces := [], pieceCrc := []
           writing := b.writing.map fun w => (w.1, [], w.2.2) }

/-- CMD_BCH_BEGIN (R490). -/
def cmdBchBegin (version count : Nat) (digest : List Byte) (s : State) : CmdOut :=
  unlessRefused [(s.bch.running, rsState, noField), (decide (count < 1 ∨ 1024 < count), rsRange, 4)] s fun s =>
    let k := s.bch.stagingSlot
    done (setBch (fun b => { (endStaging b).setSlot k [] with
      staging := true, stVersion := version, stCount := count, stDigest := digest }) s) (leBytes 1 k)

/-- Pieces held of a chunk. -/
def Bch.held (b : Bch) (chunk : Nat) : List Nat := (List.range 8).filter fun p => !(b.pieces.get (8 * chunk + p)).isEmpty

/-- Pieces of a chunk are discarded. -/
def dropPieces (chunk : Nat) (b : Bch) : Bch :=
  { b with pieces := (List.range 8).foldl (fun t p => t.put (8 * chunk + p) []) b.pieces, pieceCrc := b.pieceCrc.put chunk 0 }

/-- Reply payload of CMD_BCH_CHUNK. -/
def chunkReply (b : Bch) (chunk : Nat) (wrote : Bool) : List Byte :=
  leBytes 2 chunk ++ leBytes 1 (((b.held chunk).map fun p => 2 ^ p).sum) ++ leBytes 1 (b2n wrote) ++ leBytes 2 b.written

/-- A piece joins those of its chunk; with another CRC than theirs it drops them first (R483). -/
def takePiece (chunk piece crc : Nat) (data : List Byte) (b : Bch) : Bch :=
  let fresh := (b.held chunk).isEmpty || decide (b.pieceCrc.get chunk ≠ crc)
  let b0 := if fresh then dropPieces chunk b else b
  { b0 with pieces := b0.pieces.put (8 * chunk + piece) (padTo 512 data), pieceCrc := b0.pieceCrc.put chunk crc }

/-- The bytes of a chunk whose eight pieces are held. -/
def Bch.chunkBytes (b : Bch) (chunk : Nat) : List Byte := (List.range 8).flatMap fun p => b.pieces.get (8 * chunk + p)

/-- CMD_BCH_CHUNK (R483). -/
def cmdBchChunk (h : CmdHeader) (chunk piece crc : Nat) (data : List Byte) (s : State) : CmdOut :=
  unlessRefused
    [(!s.bch.staging, rsState, noField), (decide (s.bch.stCount ≤ chunk), rsRange, 0), (decide (piece > 7), rsRange, 2)] s fun s =>
    if s.bch.bitmap.get chunk then done s (chunkReply s.bch chunk true)
    else
      let b1 := takePiece chunk piece crc data s.bch
      if (b1.held chunk).length < 8 then done { s with bch := b1 } (chunkReply b1 chunk false)
      else
        let all := b1.chunkBytes chunk
        let b2 := dropPieces chunk b1
        if crc32c all = crc then later { s with bch := { b2 with writing := b2.writing ++ [(chunk, all, h.mbox)] } }
        else { st := raise kChunkCrc 3 0 { s with bch := b2 }, status := 2, reply := chunkReply b2 chunk false }

/-- CHUNK_WRITE_COMPLETE: the oldest chunk write is over; its bit is set and the reply written (R483, R480). -/
def execChunkWriteComplete (s : State) : Out :=
  whenCoreDue (!s.bch.writing.isEmpty) s fun s =>
    match s.bch.writing with
    | [] => s
    | (chunk, bytes, mbox) :: rest =>
      let s1 := setBch (fun b => { b with writing := rest }) s
      if bytes.isEmpty then finishDeferred mbox 0x1202 2 (chunkReply s1.bch chunk false) s1
      else
        let k := s1.bch.stagingSlot
        let t := (List.range 4096).foldl (fun t i => t.put (4096 * chunk + i) (nth bytes i)) (s1.bch.slot k)
        let s2 := setBch (fun b => { b.setSlot k t with bitmap := b.bitmap.put chunk true }) s1
        finishDeferred mbox 0x1202 0 (chunkReply s2.bch chunk true) s2

/-- CMD_BCH_ABANDON. -/
def cmdBchAbandon (s : State) : CmdOut :=
  unlessRefused [(s.bch.running, rsState, noField)] s fun s => done (setBch endStaging s)

/-- Bit map as bytes, bit per entry. -/
def bitBytes (n : Nat) (f : Nat → Bool) : List Byte :=
  (List.range n).map fun k => BitVec.ofNat 8 (((List.range 8).map fun i => if f (8 * k + i) then 2 ^ i else 0).sum)

/-- CMD_BCH_STATUS (Table 17.6). The byte that names the active slot is a free value where there is none. -/
def cmdBchStatus (s : State) : CmdOut :=
  let b := s.bch
  let st := if !b.staging then 0 else if b.running then 3 else if b.complete then 2 else 1
  let (v, s1) := takeFree s
  let s2 := if b.active.isSome then s else s1
  let act := match b.active with
    | some k => leBytes 1 k
    | none => leInt 1 v
  done s2 (leBytes 1 st ++ act ++ leBytes 2 b.written ++ leBytes 4 b.stVersion ++ leBytes 4 b.version ++
    leBytes 4 b.floorVersion ++ bitBytes 128 b.bitmap.get)

/-! ### Roots -/

/-- CMD_BCH_ROOT_REVOKE (R488): not the root of the active batch, nor the last unrevoked one. -/
def cmdBchRootRevoke (h : CmdHeader) (root : Nat) (s : State) : CmdOut :=
  let left := (List.range 4).filter fun r => decide (r ≠ root) && bvGet s.otp.rootBlown r && !bvGet s.otp.revoked r
  unlessRefused
    [(decide (root > 3), rsRange, 0), (s.bch.active.isSome && s.bch.root = root, rsState, 0), (left.isEmpty, rsState, 0)] s fun s =>
    later { s with hst := { s.hst with fuse := s.hst.fuse ++ [(3, root, [], h.mbox)] } }

/-! ### Activation (R493) -/

/-- CMD_BCH_ACTIVATE. -/
def cmdBchActivate (h : CmdHeader) (version : Nat) (digest : List Byte) (s : State) : CmdOut :=
  let b := s.bch
  unlessRefused
    [(!b.complete || b.running, rsState, noField), (decide (version ≠ b.stVersion), rsDigest, 0),
     (decide (padTo 48 digest ≠ padTo 48 b.stDigest), rsDigest, 4)] s fun s =>
    later (setBch (fun b => { b with running := true, journal := 0, actMbox := h.mbox, switchReset := false }) s)

/-- The activation fails: the journal is cleared and the reply names the kind (R493). -/
def failActivation (k : Nat × Nat) (ctx : Nat) (s : State) : State :=
  let step := s.bch.journal
  let s1 := raise k s.bch.stagingSlot ctx (setBch (fun b => { b with running := false, journal := 0, shadow := none }) s)
  finishDeferred s.bch.actMbox 0x1205 2 [BitVec.ofNat 8 step, BitVec.ofNat 8 k.2] s1

/-- ACTIVATION_VERIFY_COMPLETE: step 1 (R492). -/
def execActivationVerifyComplete (s : State) : Out :=
  whenCoreDue (s.bch.running && s.bch.journal = 0) s fun s =>
    match verifySlot s s.bch.stagingSlot (some (padTo 48 s.bch.stDigest)) (some s.bch.stCount) with
    | some (k, ctx) => failActivation k ctx s
    | none => setBch (fun b => { b with journal := 1 }) s

/-- ACTIVATION_LOAD_COMPLETE: step 2, the tables in their shadow; what is derived from them is a function of them. -/
def execActivationLoadComplete (s : State) : Out :=
  whenCoreDue (s.bch.running && s.bch.journal = 1) s fun s =>
    let b := s.slotBatch s.bch.stagingSlot
    setBch (fun c => { c with shadow := some b, journal := 2 }) s

/-- The switch needs a command reset: no batch is live, or the timing changes (R496). -/
def State.needsReset (s : State) (b : Batch) : Bool :=
  !s.batchLive || decide (b.tickPeriods ≠ s.cfg.tickPeriods ∨ b.frameTicks ≠ s.cfg.frameTicks ∨ b.nominalNs ≠ s.cfg.nominalNs)

/-- COMMIT_MARKER_WRITTEN: step 3 (R493, R496). -/
def execCommitMarkerWritten (s : State) : Out :=
  whenCoreDue (s.bch.running && s.bch.journal = 2) s fun s =>
    let reset := s.bch.shadow.any s.needsReset
    let s1 := setBch (fun b => { b with
      marker := some b.stagingSlot, markVersion := b.stVersion, markDigest := b.stDigest, journal := 3, switchReset := reset }) s
    if reset then askReset s1 else s1

/-- Placed edges and deadlines of the sequencer stand still for the pause (Table 18.5). -/
def holdEdges (n : Nat) (x : Rail) : Rail :=
  { x with edge := x.edge.map (· + n), deadline := x.deadline.map (· + n)
           nextEdge := x.nextEdge.map (· + n), nextDl := x.nextDl.map (· + n) }

/-- ACTIVATION_SWITCH: step 4, at the first frame boundary in NORMAL after step 3; the pause begins (R493, R494). -/
def execActivationSwitch (s : State) : Out :=
  whenTime (s.tim.frameDue && s.bch.running && s.bch.journal = 3 && !s.bch.switchReset && !s.bch.inPause &&
      s.shr.hold.st = .normal) s fun s =>
    let n := 4 * s.frameTicks
    let s1 := setSeq (fun q => { q with rails := tabMap (fun _ x => holdEdges n x) q.rails }) s
    setBch (fun b => { b with inPause := true, pause := 5, journal := 4 }) s1

/-! ### The end of the pause (Table 18.5, R494, R495) -/

/-- The live tables are loaded into the blocks that hold them in registers, and into the power die; SYNC_OUT stays low where they
do not enable it (R155, R340, R558, R18). -/
def loadTables (b : Batch) (s : State) : State :=
  let s1 := { s with batch := some b, pd := some b, tim := { s.tim with syncOut := s.tim.syncOut && b.syncOutEn } }
  let s2 := loadMonitors { s1 with
    flt := { s1.flt with react := b.react, live := true }
    hst := { s1.hst with thd := b.mgtThd, tsu := b.mgtTsu, glitch := b.mgtGlitch } }
  setHold (fun h => { h with order := s2.shedOrder, nextOrder := s2.shedOrder }) s2

/-- Channels, stages, domains, groups, rectifiers, strings, modules and nodes that the new image no longer declares go
off, under the old tables (Table 18.5, R269). A group falls at once on every rail, for the new tables hold neither its
positions nor its delays (log entry 31). -/
def dropObjects (new : Batch) (s : State) : State :=
  let s1 := (s.chansUsed.filter fun c => !(new.chans.get c).present).foldl (fun s c => turnOff c .empty s) s
  let s2 := ((List.range 6).filter fun st => s1.stageUsed st && (phasesOf new st).isEmpty).foldl
    (fun s st => quitStage st .off (setStage st (fun x => { x with enabled := false }) s)) s1
  let off := fun x : Domain => { x with st := .offline, grant := 0, target := 0, gHi := 0, hiUntil := 0 }
  let s3 := (s2.domsUsed.filter fun d => !(new.doms.get d).present).foldl (fun s d => setDomBoth d off s) s2
  let s4 := (s3.groupsUsed.filter fun g => !(new.groups.get g).present).foldl (fun s g =>
    let t := (s.groupRails g).foldl (fun s i =>
      let c := s.cfg.rails.get i
      let s' := setRail i (fun _ => { edgeUp := false }) s
      if c.kind = 1 then setSeq (fun q => { q with en := bvPut q.en c.en false }) s' else s') s
    setGroupBoth g (fun x => { x with st := .falling, target := false, pos := none }) t) s3
  let s5 := ((List.range 36).filter fun r => !(new.rects.get r).present).foldl (fun s r => setRectBoth r (fun _ => {}) s) s4
  let gone := fun (t : Tab BatString) => ((List.range 6).filter fun n => !(new.strings.get n).present).foldl (fun t n => t.put n {}) t
  let s6 := { s5 with bat := { s5.bat with cur := { strings := gone s5.bat.cur.strings }, nxt := { strings := gone s5.bat.nxt.strings } } }
  let s7 := ((List.range 64).filter fun m => !(new.modules.get m).present).foldl (fun s m => setModule m (fun _ => {}) s) s6
  ((List.range 64).filter fun n => (s7.node n).joined && !(new.nodes.get n).present).foldl (fun s n => loseNode n s) s7

/-- A batch value that no command has changed follows the new tables. -/
def followNew {α : Type} [DecidableEq α] (old new v : α) : α := if v = old then new else v

/-- Objects that only the new image declares start as at the end of boot; the others keep their state (R494). -/
def startObjects (old : Batch) (s : State) : State :=
  let s1 := (s.chansUsed.filter fun c => !(old.chans.get c).present).foldl
    (fun s c => setChan c (fun x => { freshChan (s.cfg.chans.get c).autoStart x with st := .empty }) s) s
  let s2 := s1.domsUsed.foldl (fun s d =>
    let g := s.cfg.doms.get d
    let o := old.doms.get d
    if o.present then setDomBoth d (fun x => { x with
      prio := followNew o.priority g.priority x.prio, ceiling := followNew o.ceiling g.ceiling x.ceiling
      weight := followNew o.weight g.weight x.weight }) s
    else setDomBoth d (fun _ => { prio := g.priority, ceiling := g.ceiling, weight := g.weight }) s) s1
  let s3 := (s2.groupsUsed.filter fun g => !(old.groups.get g).present).foldl
    (fun s g => setGroupBoth g (fun _ => { target := (s.cfg.groups.get g).autoUp }) s) s2
  let strs := (List.range 6).filter fun n => (s3.cfg.strings.get n).present && !(old.strings.get n).present
  let add := fun t : Tab BatString => strs.foldl (fun t n => t.put n (freshString s3 n)) t
  let s4 := { s3 with bat := { s3.bat with cur := { strings := add s3.bat.cur.strings }, nxt := { strings := add s3.bat.nxt.strings } } }
  let s5 := (List.range 2).foldl (fun s p =>
    let g := s.cfg.ties.get p
    let o := old.ties.get p
    setTie p (fun x => { x with portEn := followNew o.portEn g.portEn x.portEn, supplyEn := followNew o.supplyEn g.supplyEn x.supplyEn }) s) s4
  let fresh := (List.range 6).filter fun st => s5.stageUsed st && (phasesOf old st).isEmpty
  let s6 := fresh.foldl (fun s st => autoStage st (setStage st (freshStage (s.cfg.stages.get st)) s)) s5
  let s7 := (List.range 8).foldl (fun s l =>
    let was := if l < 6 then !(phasesOf old l).isEmpty else (old.loops.get l).present
    setLoop l (fun x => if was then { x with enabled := x.enabled && s.loopDeclared l } else { enabled := s.loopDeclared l }) s) s6
  let s8 := (List.range 6).foldl (fun s st => if s.stageUsed st then setOffsets st s else s) s7
  if s8.drives then startStages fresh s8 else s8

/-- Every loop that runs starts anew, and one that STOP halted comes back with its stage (R133, R136). -/
def restartLoops (s : State) : State :=
  (List.range 8).foldl (fun s l =>
    let x := s.loop l
    let runs := if l < 6 then (s.stage l).live else s.drives
    if !(x.enabled && s.loopDeclared l) then s
    else if x.stopped && s.drives then enableLoop l true s
    else if runs then startLoop l s
    else s) s

/-- The version floor takes the image's version and digest; it is never lowered (R499). -/
def advanceFloor (version : Nat) (digest : List Byte) (b : Bch) : Bch :=
  if b.floorVersion ≤ version then { b with floorVersion := version, floorDigest := digest } else b

/-- The slot of the commit marker becomes active and staging ends (R494). -/
def activateSlot (s : State) : State :=
  let root := slotField (s.bch.slot (s.bch.marker.getD 0)) 9 1
  setBch (fun b => { endStaging b with
    active := b.marker, version := b.markVersion, digest := b.markDigest, root := root, shadow := none }) s

/-- The body of an ACTIVATE mark (Table 11.3). -/
def activateMark (b : Bch) : List Byte := [0, 0, 0] ++ leBytes 4 b.version ++ padTo 16 b.digest

/-- The pause ends: the new tables govern, the floor advances, the ACTIVATE mark is called for (R494, R495). -/
def endPause (s : State) : State :=
  match s.bch.shadow with
  | none => s
  | some b =>
    let old := s.cfg
    let s0 := shiftReactions s.tim.frame s
    let s1 := startObjects old (loadTables b (dropObjects b s0))
    let s2 := settlePhases (restartLoops (computeFloor s1))
    let s3 := activateSlot s2
    let s4 := setBch (fun c => { advanceFloor c.version c.digest c with
      inPause := false, pause := 0, journal := 5, pauseEnd := s.tim.frameDue }) s3
    let s5 := addMark 0x06 (activateMark s4.bch) s4
    if s5.red.peerUp then peerPump (peerSend (helloOf s5) s5) else s5

/-- ACTIVATION_PAUSE_END: at the boundary that ends the fourth frame of the pause. -/
def execActivationPauseEnd (s : State) : Out :=
  whenTime (s.tim.frameDue && s.bch.inPause && decide (s.bch.pause ≤ 1)) s endPause

/-- ACTIVATION_DONE: step 6 (R493). -/
def execActivationDone (s : State) : Out :=
  whenCoreDue (s.bch.running && s.bch.journal = 5) s fun s =>
    let s1 := raise kActivationDone 2 0 (setBch (fun b => { b with running := false, journal := 0 }) s)
    finishDeferred s.bch.actMbox 0x1205 0 [6, 0] s1

end Sys2Proof.Machine
end

