-- ==== Sys2Proof/Machine/Lifecycle.lean ====
section
/-! DEFINITION. Identity, life cycle, and the blowing of fuses (R516, R517, the CHIP_, SYS_ and HST_ rows of Table 17.4). -/
namespace Sys2Proof.Machine

/-- Code of a life-cycle state (Table 19.8, CMD_CHIP_IDENT). -/
def lifeCode : Lifecycle → Nat
  | .blank => 0
  | .provisioned => 1
  | .field => 2
  | .returned => 3
  | .retired => 4

/-- The life-cycle state of a code. -/
def lifeOf (c : Nat) : Lifecycle := nth [Lifecycle.blank, .provisioned, .field, .returned, .retired] c

/-- Code of a punty state (CHIP_STATUS, CMD_CHIP_IDENT). -/
def puntyCode : Punty → Nat
  | .seeking => 0
  | .standby => 1
  | .claiming => 2
  | .holder => 3

/-- CHIP_ID (Table 22.8). -/
def chipId : Nat := 0x3AB09400

/-- The first 16 bytes of the active batch digest; 0 in crucible (R562). -/
def State.identDigest (s : State) : List Byte := if s.sys.crucible then List.replicate 16 0 else padTo 16 s.bch.digest

/-- Version of the active batch; 0 in crucible (R562). -/
def State.identVersion (s : State) : Nat := if s.sys.crucible then 0 else s.bch.version

/-- A key slot is programmed, and its CRC-32C verifies (R357). -/
def State.keyUsable (s : State) (k : Nat) : Bool :=
  decide (k < 4) && bvGet s.otp.keyBlown k && crc32c (s.otp.keys.get k) = s.otp.keyCrc.get k

/-- A key slot is bound to a port: by the batch, or in crucible to both host ports and never to PEER (R468). -/
def State.keyBound (s : State) (k : Nat) (p : PortId) : Bool :=
  if s.sys.crucible then decide (p ≠ .peer) else bvGet (s.cfg.keyBind.get k) (portCode p)

/-- A fuse of a kind and index is being blown. -/
def State.blowing (s : State) (kind index : Nat) : Bool := s.hst.fuse.any fun f => f.1 = kind && f.2.1 = index

/-- A transition that Table 19.8 permits, its condition included. -/
def State.lifePermits (s : State) (target : Nat) : Bool :=
  let usable := (List.range 4).any s.rootUsable &&
    (List.range 4).any fun k => s.keyUsable k && (s.keyBound k .mgt || s.keyBound k .fhp)
  match s.otp.lifecycle with
  | .blank => (target = 1 && usable) || target = 4
  | .provisioned => target = 2 || target = 4
  | .field => target = 3 || target = 4
  | .returned => target = 4
  | .retired => false

/-- A blow of fuses begins; its reply follows the read-back (R480, R517). -/
def blow (h : CmdHeader) (kind index : Nat) (data : List Byte) (s : State) : CmdOut :=
  later { s with hst := { s.hst with fuse := s.hst.fuse ++ [(kind, index, data, h.mbox)] } }

/-- CMD_CHIP_IDENT. -/
def cmdChipIdent (s : State) : CmdOut :=
  done s (leBytes 4 chipId ++ leBytes 8 s.otp.serial ++ leBytes 1 (lifeCode s.otp.lifecycle) ++ leBytes 1 (puntyCode s.red.st) ++
    leBytes 1 (b2n s.sys.crucible) ++ [0] ++ s.identDigest ++ leBytes 4 s.identVersion)

/-- CMD_HST_NOP: the payload comes back unchanged. -/
def cmdHstNop (payload : List Byte) (s : State) : CmdOut := done s payload

/-- CMD_SYS_RESET: a command reset at the boundary that ends the acceptance frame. -/
def cmdSysReset (s : State) : CmdOut := done (askReset s)

/-- CMD_SYS_LIFECYCLE (R516). -/
def cmdSysLifecycle (h : CmdHeader) (target : Nat) (s : State) : CmdOut :=
  unlessRefused [(!s.lifePermits target || s.blowing 0 0, rsRange, 0)] s (blow h 0 0 [BitVec.ofNat 8 target])

/-- Keys and roots are programmed in BLANK and PROVISIONED alone (R481). -/
def State.programmable (s : State) : Bool := s.otp.lifecycle = .blank || s.otp.lifecycle = .provisioned

/-- CMD_SYS_KEY_PROGRAM: a slot that has been blown, or is being, is never blown again (R517). -/
def cmdSysKeyProgram (h : CmdHeader) (slot : Nat) (key : List Byte) (s : State) : CmdOut :=
  unlessRefused
    [(!s.programmable, rsLifecycle, noField), (decide (slot > 3), rsRange, 0),
     (bvGet s.otp.keyBlown slot || s.blowing 1 slot, rsState, 0)] s (blow h 1 slot (padTo 32 key))

/-- CMD_SYS_ROOT_PROGRAM. -/
def cmdSysRootProgram (h : CmdHeader) (root : Nat) (hash : List Byte) (s : State) : CmdOut :=
  unlessRefused
    [(!s.programmable, rsLifecycle, noField), (decide (root > 3), rsRange, 0),
     (bvGet s.otp.rootBlown root || s.blowing 2 root, rsState, 0)] s (blow h 2 root (padTo 48 hash))

/-- A CRC-32C as an interrupted or failed blow leaves it: a free value (log entry 33). -/
def badCrc (s : State) : Nat × State := let (v, t) := takeFree s; (toBits 32 v, t)

/-- What one blow leaves in OTP: the whole of it where the read-back agrees; else the life-cycle state and the revocation bit
as before, and a key or root slot that is spent and holds a CRC that nothing constrains (R517, log entry 33). -/
def blowInto (ok : Bool) (kind index : Nat) (data : List Byte) (s : State) : State :=
  let o := s.otp
  let (crc, t) := if ok then (crc32c data, s) else badCrc s
  match kind with
  | 0 => if ok then { s with otp := { o with lifecycle := lifeOf (leNat data) } } else s
  | 1 => { t with otp := { o with keys := o.keys.put index data, keyCrc := o.keyCrc.put index crc
                                  keyBlown := bvPut o.keyBlown index true } }
  | 2 => { t with otp := { o with roots := o.roots.put index data, rootCrc := o.rootCrc.put index crc
                                  rootBlown := bvPut o.rootBlown index true } }
  | _ => if ok then { s with otp := { o with revoked := bvPut o.revoked index true } } else s

/-- Opcode and reply payload of a blow of a kind, with the OTP after it (Table 17.4). -/
def blowReply (kind index : Nat) (o : Otp) : Nat × List Byte :=
  match kind with
  | 0 => (0x0102, leBytes 1 (lifeCode o.lifecycle))
  | 1 => (0x0103, leBytes 4 (o.keyCrc.get index))
  | 2 => (0x0104, leBytes 4 (o.rootCrc.get index))
  | _ => (0x1206, [])

/-- The oldest blow ends and its reply is written (R480, R517). -/
def blowEnds (ok : Bool) (s : State) : State :=
  match s.hst.fuse with
  | [] => s
  | (kind, index, data, mbox) :: rest =>
    let s1 := blowInto ok kind index data { s with hst := { s.hst with fuse := rest } }
    let (op, reply) := blowReply kind index s1.otp
    finishDeferred mbox op (if ok then 0 else 2) reply s1

/-- FUSE_BLOW_COMPLETE: the fuses are blown and read back. The only step that changes OTP. -/
def execFuseBlowComplete (ok : Bool) (s : State) : Out :=
  if s.timeRuns then .next { blowEnds ok s with pending := s.pending } else .next s

end Sys2Proof.Machine
end

