-- ==== Sys2Proof/Machine/Reflex.lean ====
section
/-! DEFINITION. What an edge of a window-monitor comparator brings about: the live level, the capture, and the power die's
reflexes of the monitor's role, in every state of the core die (R19, R89 to R97, R163, R169, R199, R277). -/
namespace Sys2Proof.Machine

/-- The over-voltage latch: every phase of the stage low-side-on (R163, R165). -/
def ovReflex (st : Nat) (s : State) : State := settlePhases (setStage st (fun x => { x with ovLatch := true }) s)

/-- A shed is in progress on a stage, or one of its unmasked phases is shed (R169). -/
def State.shedUnderWay (s : State) (st : Nat) : Bool :=
  (s.stage st).shedding.isSome || (s.unmasked st).any fun i => (s.phase i).shed || decide ((s.phase i).atten < 256)

/-- The power die's abort of phase shedding: full attenuation, every unmasked phase active at the full-count offsets, and the
abort latch; the core die takes part from its sampling on (R169, R170). -/
def shedAbortReflex (st : Nat) (s : State) : State :=
  if (s.stage st).st = .running && s.shedUnderWay st then
    let f := fun (_ : Nat) (p : Phase) => if p.masked then p else { p with active := true, shed := false, atten := 256 }
    let s1 := { s with stg := { s.stg with phases := s.stg.phases.modifyAll (phasesOf s.cfg st) f } }
    setOffsets st (setStage st (fun x => { x with abortLatch := true }) s1)
  else s

/-- The reflex of a role whose comparator asserts (Table 3.3); the other roles act where the core die samples them. -/
def reflexOf (r : MonRole) (ov : Bool) (vinMv : Int) (s : State) : State :=
  match r, ov with
  | .stageOv st, true => ovReflex st s
  | .stepDet st, _ => shedAbortReflex st s
  | .shed, false => shedStart vinMv s
  | .tiePresence p, true => tiePulled p s
  | _, _ => s

/-- The level of a comparator (R91). -/
def Msr.level (m : Msr) (mon : Nat) (ov : Bool) : Bool := if ov then bvGet m.ov mon else bvGet m.uv mon

/-- WM_COMPARATOR_EDGE: the live level changes, a routed edge is captured, and an assertion sets off the role's reflex. -/
def execWmComparatorEdge (mon : Nat) (ov asserted : Bool) (timeHalfNs : Nat) (vinMv : Int) (s : State) : Out :=
  let c := s.pdCfg.mons.get mon
  whenDue (decide (mon < 128) && c.enable && s.msr.level mon ov ≠ asserted) s fun s =>
    let s1 := comparatorEdge mon ov asserted timeHalfNs s
    if asserted then reflexOf c.role ov vinMv s1 else s1

end Sys2Proof.Machine
end

