-- ==== Sys2Proof/Machine/Boot.lean ====
section
/-! DEFINITION. Resets, what survives them, and the boot up to the end of its first frame (chapter 19, R46, R318, R357, R500). -/
namespace Sys2Proof.Machine

/-! ### Resets (R514, R515, Table 19.7) -/

/-- What a core-die reset leaves of the system state: the power die's bits, the straps as last sampled. -/
def resetSys (kind : Nat) (y : Sys) : Sys :=
  { core := .held, resetKind := kind, crucibleStrap := y.crucibleStrap, addr := y.addr, recovLow := y.recovLow
    pairOrd := y.pairOrd, coreAbsent := y.coreAbsent, driveHeld := y.driveHeld, displaced := y.displaced
    pdShutdown := y.pdShutdown, cdShutdown := y.cdShutdown, cdRecorded := y.cdRecorded && decide (2 ≤ kind)
    selfHeld := y.selfHeld && decide (3 ≤ kind), bootStage := .done }

/-- Chassis time runs on through every reset but a power-on reset (R53). -/
def resetTim (powerOn : Bool) (t : Tim) : Tim :=
  if powerOn then { savedFrame := t.savedFrame }
  else { chassis := t.chassis, chassisDebt := t.chassisDebt, trimPpm := t.trimPpm, frac := t.frac, edgeNs := t.edgeNs, oscPpm := t.oscPpm
         timeSet := t.timeSet, unreferenced := t.unreferenced, trefValid := t.trefValid, ppsOk := t.ppsOk
         ppsLost := t.ppsLost, savedFrame := t.savedFrame }

/-- The over-voltage latches are the power die's; a power-on reset clears those whose comparator is deasserted. -/
def resetStg (powerOn : Bool) (s : State) : Stg :=
  let held := fun st : Nat =>
    let on := match monWith s.pdCfg (.stageOv st) with
      | some m => bvGet s.msr.ov m
      | none => false
    (s.stage st).ovLatch && (!powerOn || on)
  { stages := ((List.range 6).filter held).foldl (fun (t : Tab Stage) st => t.put st { st := .ovLatched, ovLatch := true }) [] }

/-- The recorder keeps its logs and the flight area in MRAM; the boot scan finds the pointers (R318, R330). -/
def resetRec (r : Rec) : Rec :=
  { sealedLog := r.sealedLog, openLog := r.openLog, area := r.area, areaHeld := r.areaHeld, copyWas := r.copyWas }

/-- The alert pins and FLT_LOST stand through the resets that Table 19.7 names. -/
def resetFlt (kind : Nat) (f : Flt) : Flt :=
  let lost := if 2 ≤ kind then f.lost else 0
  if 3 ≤ kind then { lost := lost, nma := f.nma, nmaMin := f.nmaMin, nmaCause := f.nmaCause, err := f.err, errMin := f.errMin
                     errClear := f.errClear, errPulse := f.errPulse }
  else { lost := lost }

/-- Host scratch survives every reset but a power-on reset; MRAM survives them all; an order for the full self-test stands
for the boot that follows (R36, R363). -/
def resetMem (powerOn : Bool) (m : Mem) : Mem :=
  { nv := m.nv, outer := m.outer, nvBad := m.nvBad, parity := if powerOn then [] else m.parity, bistFull := m.bistFull, scratch := if powerOn then [] else m.scratch
    scratchBad := if powerOn then [] else m.scratchBad }

/-- The batch controller keeps its slots, journal, counters and bitmap in MRAM; held pieces and writes under way are lost. -/
def resetBch (b : Bch) : Bch :=
  { slotA := b.slotA, slotB := b.slotB, marker := b.marker, markVersion := b.markVersion, markDigest := b.markDigest
    staging := b.staging, stVersion := b.stVersion, stCount := b.stCount, stDigest := b.stDigest, bitmap := b.bitmap
    journal := b.journal, switchReset := b.switchReset, floorVersion := b.floorVersion, floorDigest := b.floorDigest }

/-- A reset of the core die: the power die, the warmer, OTP and MRAM stand as Table 19.7 gives for its kind. -/
def coreReset (kind : Nat) (s0 : State) : State :=
  let s := flightCut s0
  let powerOn := decide (kind ≤ 1)
  let red : Red := { epoch := s.red.epoch, drive := s.red.drive }
  let hst : Hst := { accCtr := s.hst.accCtr, verCtr := s.hst.accCtr, mgtAddr := s.hst.mgtAddr
                     auth := if powerOn then [] else s.hst.auth }
  let seq : Seq := { recs := recordsCut s.seq.recs, nextSeq := s.seq.nextSeq, nextSlot := s.seq.nextSlot
                     en := if powerOn then 0 else s.seq.en, seqfDrive := s.seq.seqfDrive && !powerOn && s.sys.driveHeld }
  let bat : Bat := { ztab := s.bat.ztab, zlive := s.bat.ztab, crecs := s.bat.crecs }
  let msr : Msr := { uv := s.msr.uv, ov := s.msr.ov, mons := s.msr.mons }
  let pin : Pins := { pfi := s.pin.pfi, wake := s.pin.wake, rstLow := decide (kind = 2) }
  settlePhases { sys := resetSys kind s.sys, wrm := s.wrm, otp := s.otp, tim := resetTim powerOn s.tim, msr := msr
                 stg := resetStg powerOn s, shr := { hold := freshHold s.shr.hold }, bat := bat
                 hsw := { chans := tabMap (fun _ x => { x with held := none }) (holdCodes s0).hsw.chans }
                 seq := seq, recd := resetRec s.recd, flt := resetFlt kind s.flt, mem := resetMem powerOn s.mem, red := red
                 hst := hst, bch := resetBch s.bch, tap := s.tap, pin := pin, pd := s.pd, free := s.free, pending := s.pending }

/-- A cold power-on: beside the core die, the power die and the warmer start anew. -/
def coldReset (s : State) : State :=
  let t := coreReset 0 s
  settlePhases { t with
    wrm := {}, pd := none, hsw := {}, stg := {}, msr := {}, shr := {}, tap := {}, pin := {}
    sys := { t.sys with driveHeld := false, displaced := false, pdShutdown := false, cdShutdown := false, coreAbsent := true
                        crucibleStrap := false, recovLow := false, pairOrd := false, addr := 0 }
    red := { t.red with drive := false } }

/-- POWER_ON_COLD (R514). -/
def execPowerOnCold (s : State) : Out := always s coldReset

/-- POWER_ON: the core supplies start while VWARM stayed in range; a start before the first core run since VWARM came up is
still the cold one (R514). -/
def execPowerOn (s : State) : Out := whenDue (s.sys.core = .held && !s.wrm.cold && !s.wrm.released) s (coreReset 1)

/-- PIN_RESET: RST_N low (R514). -/
def execPinReset (s : State) : Out := always s (coreReset 2)

/-- CHIP_RESET: at the boundary that ends the frame after the message's, behind a flush that it waits for (R314, R341). -/
def execChipReset (s : State) : Out :=
  whenTime (s.tim.frameDue && s.flt.chipDue.any (fun f => decide (f ≤ s.tim.frame)) && !(s.flt.chipWait && s.recd.flushing)) s
    (coreReset 3)

/-- A command reset that is due at the boundary that ends the running frame (R496, R514, Table 17.4). -/
def State.commandReset (s : State) : Bool :=
  s.sys.resetPending.isSome && decide (s.sys.resetAt ≤ s.tim.frame) && !s.recd.flushing

/-! ### The recorder's boot scan (R318) -/

/-- The scan steps forward while each slot's record verifies and is newer than the one before; a torn record that is not older
ends it and is counted. In an empty log, where no record comes before, a record is newer from the sequence number on that the pointer
copy was saved with, so that a cleared log's old records stay unreachable (R321; DEDUCED, log entry 55). -/
def scanSteps (log from0 : Nat) : Nat → LogSt → Option Record → LogSt × Bool
  | 0, l, _ => (l, false)
  | n + 1, l, prev =>
    let (slot, l1) := l.nextSlot log
    let x := l.slots.get slot
    let newer := match prev with
      | some p => seqAfter p.seq x.seq
      | none => x.seq = from0 || seqAfter from0 x.seq
    if x.typ ≠ 0 && !x.torn && newer then scanSteps log from0 n l1 (some x)
    else (l, x.typ ≠ 0 && x.torn && prev.all fun p => decide (p.frame ≤ x.frame))

/-- The pointers of the newer valid copy; with none valid the log is taken as empty (DESIGN CHOICE, log entry 55). -/
def LogSt.loaded (l : LogSt) : LogSt :=
  let c := (l.newerCopy.map l.copies.get).getD {}
  { l with permUsed := c.perm, circHead := c.head, circFull := c.full, overwritten := c.ovw }

/-- The newest record of a log. -/
def LogSt.newest (log : Nat) (l : LogSt) : Option Record :=
  if l.count log = 0 then none else some (l.slots.get (l.slotFor log (l.count log - 1)))

/-- The boot scan of one log. -/
def scanLog (log : Nat) (s : State) : State :=
  let l := (s.recd.log log).loaded
  let from0 := (l.newerCopy.map fun k => (l.copies.get k).next).getD 0
  let (l1, torn) := scanSteps log from0 16384 l (l.newest log)
  let s1 := { s with recd := { s.recd.setLog log l1 with torn := if torn then inc32 s.recd.torn else s.recd.torn } }
  raiseIf torn kRecordTorn log 0 s1

/-- Both scans; sequence numbers go on after the newest record found. -/
def bootScan (s : State) : State :=
  let s1 := scanLog 1 (scanLog 0 s)
  let a := s1.recd.sealedLog.newest 0
  let b := s1.recd.openLog.newest 1
  let next := match a, b with
    | some x, some y => (if seqAfter x.seq y.seq then y.seq else x.seq) + 1
    | some x, none => x.seq + 1
    | none, some y => y.seq + 1
    | none, none => 0
  { s1 with recd := { s1.recd with seqNo := next % 4294967296 } }

/-! ### Steps 1 to 6 of Table 19.4 -/

/-- Key and root slots whose CRC fails raise OTP_FAIL (R357). -/
def otpCheck (s : State) : State :=
  (List.range 4).foldl (fun s k =>
    let badKey := bvGet s.otp.keyBlown k && !decide (crc32c (s.otp.keys.get k) = s.otp.keyCrc.get k)
    let badRoot := bvGet s.otp.rootBlown k && !s.rootProgrammed k
    raiseIf badRoot kOtpFail 75 0 (raiseIf badKey kOtpFail 75 0 s)) s

/-- The straps, where the reset kind samples them (Table 19.6, R445). -/
def sampleStraps (inp : BootInputs) (s : State) : State :=
  if 3 ≤ s.sys.resetKind then s
  else { s with
    sys := { s.sys with addr := inp.addr, recovLow := inp.recovLow, pairOrd := inp.pairOrd, crucibleStrap := inp.recovLow }
    hst := { s.hst with mgtAddr := 0x48 + inp.addr.toNat } }

/-- A slot that fails its boot verification is reported (R492, R500). -/
def slotFails (slot : Nat) (k : Nat × Nat) (ctx : Nat) (s : State) : State := raise kSlotInvalid slot 0 (raise k slot ctx s)

/-- A verified slot is active. -/
def slotActive (slot version : Nat) (digest : List Byte) (root : Nat) (s : State) : State :=
  setBch (fun b => { b with active := some slot, version := version, digest := digest, root := root }) s

/-- No batch is live: the ROM recovery mode (R500, R501). -/
def enterCrucible (strap : Bool) (s : State) : State :=
  { s with batch := none, sys := { s.sys with crucible := true, crucibleSlots := !strap }
           flt := { s.flt with live := false }
           bch := { s.bch with active := none, version := 0, digest := [], root := 0 } }

/-- Step 3: the marked slot, the other slot, or crucible (R500). Without a commit marker there is no active slot to verify, and no
other (R489, log entry 30). -/
def selectSlot (s : State) : State :=
  if s.sys.crucibleStrap then enterCrucible true s
  else match s.bch.marker with
    | none => enterCrucible false s
    | some k =>
      match verifySlot s k (some (padTo 48 s.bch.markDigest)) none with
      | none => slotActive k (imageVersion (s.bch.slot k)) (padTo 48 s.bch.markDigest) (slotField (s.bch.slot k) 9 1) s
      | some (kd, ctx) =>
        let s1 := slotFails k kd ctx s
        let o := 1 - k
        match verifySlot s1 o none none with
        | none =>
          let t := s1.bch.slot o
          let s2 := slotActive o (imageVersion t) (imageDigest t) (slotField t 9 1) s1
          { s2 with
            sys := { s2.sys with slotFallback := true }
            bch := { endStaging s2.bch with marker := some o, markVersion := imageVersion t, markDigest := imageDigest t } }
        | some (kd2, ctx2) => enterCrucible false (slotFails o kd2 ctx2 s1)

/-- An activation that a reset interrupted (Table 18.6): cleared up to step 2, completed from step 3 on where the marked slot
runs. Whether it has been completed is kept until the end of boot. -/
def resumeJournal (s : State) : State :=
  let j := s.bch.journal
  let fell := s.sys.slotFallback || s.bch.active.isNone
  if j ≤ 2 || fell then setBch (fun b => { b with journal := 0, switchReset := false }) s
  else if j = 5 then { s with sys := { s.sys with activationResumed := true } }
  else
    let s1 := setBch (fun b => { advanceFloor b.version b.digest (endStaging b) with journal := 5 }) s
    let s2 := { s1 with sys := { s1.sys with activationResumed := !s.bch.switchReset } }
    addMark 0x06 (activateMark s2.bch) s2

/-- Start-up BIST found two failed macros in one group (R352). -/
def groupFails (l : List Nat) : Bool :=
  (List.range 8).any fun g => decide (2 ≤ ((l.filter fun m => decide (m < 72 ∧ macroGroup m = g)).eraseDups).length)

/-- Step 4: the degraded-block set afresh; each block that it takes out raises its own fault too (R361, R362, R510). A full self-test
that a command ordered leaves its results in MEM_BIST_RESULT and host scratch, which its destructive patterns overwrote, cleared as
after a power-on reset (R363; DESIGN CHOICE, log entry 56). -/
def bootBist (fails : List Nat) (s : State) : State :=
  let full := s.mem.bistFull
  let s1 := setMem (fun m => { m with
    degraded := 0, degNext := 0, bistFull := false, bistResult := if full then bvOf 96 (fun t => fails.contains t && decide (t ≤ 90)) else 0
    scratch := if full then [] else m.scratch, parity := if full then [] else m.parity
    scratchBad := if full then [] else m.scratchBad }) s
  let s2 := (fails.filter fun t => decide (t ≤ 90)).foldl (fun s t => targetFailed t s) s1
  degradedStep s2

/-- Step 5: the tables of the active slot; the shed order in effect stays the power die's (R509, Table 19.5). -/
def bootTables (s : State) : State :=
  match s.bch.active with
  | none => s
  | some k =>
    let s1 := loadTables (s.slotBatch k) s
    { s1 with shr := { s1.shr with hold := { s1.shr.hold with order := s.shr.hold.order } } }

/-- Step 6: logical time starts, the frame number 2^20 past the saved one (R46). The number it starts at counts as the saved
one from then on, so that a later restart without a save in between goes on from it (DESIGN CHOICE, log entry 49). -/
def startTime (s : State) : State :=
  let f := (s.tim.savedFrame + 1048576) % 281474976710656
  { s with tim := { s.tim with frame := f, savedFrame := f, tick := 0, periods := 0, frameDue := true, gen := .acquiring }
           sys := { s.sys with firstFrame := f } }

/-- Steps 1 to 6; what they raise carries the first frame of logical time (R342, R511). Every declared loop is enabled then, and the
speed floor is that of all of them (R136, R139). -/
def bootSteps (inp : BootInputs) (s : State) : State :=
  let kind := s.sys.resetKind
  let s1 := startTime (sampleStraps inp s)
  let s2 := { s1 with
    sys := { s1.sys with core := .booting, bootStage := .punty, bootTime := min inp.time100us 65535, linkUp := true
                         coreAbsent := s1.sys.coreAbsent && decide (2 ≤ kind), selfHeld := false }
    pin := { s1.pin with rstLow := false }
    wrm := { s1.wrm with cold := false }
    mem := { s1.mem with scratchBad := inp.scratchBad ++ s1.mem.scratchBad.filter (fun w => !inp.scratchBad.contains w) } }
  let s3 := [0, 1].foldl (fun s log => if s.recd.frozen log then thawLog log 2 s else s) (seqScan (bootScan (otpCheck s2)))
  let s4 := bootBist inp.bistFail (resumeJournal (selectSlot s3))
  let s5 := bootTables s4
  let s6 := { s5 with flt := { s5.flt with reactPrev := s5.flt.react, reactPrevLive := s5.flt.live } }
  if s6.batchLive then computeFloorOf ((List.range 8).filter s6.loopDeclared) s6 else s6

/-- BOOT: from the release of the core die's reset to the start of logical time (R509). Two failed macros of one group hold the
core die in reset, and the warmer records the cause (R352, R510). -/
def execBoot (inp : BootInputs) (s : State) : Out :=
  whenDue (s.sys.core = .held && s.wrm.released && !s.sys.cdShutdown && !s.sys.selfHeld) s fun s =>
    if groupFails inp.bistFail then { s with sys := { s.sys with selfHeld := true }, wrm := { s.wrm with groupFailRec := true } }
    else bootSteps inp s

/-! ### Steps 7 and 8 -/

/-- Step 7, at the boundary that opens the first frame: adoption, or SEEKING (R371, R512). -/
def stepSeven (s : State) : State :=
  let s1 := freshBlocks { s with sys := { s.sys with bootStage := .finish }, tim := { s.tim with frameDue := false } }
  let s2 := peerRestart s1
  if s2.sys.driveHeld then adopt s2
  else
    let off := fun x : Channel => if x.st = .failed then x else { x with st := .empty, pgS := false }
    let s3 := (List.range 54).foldl (fun s c => setChan c off s) s2
    (List.range 2).foldl (fun s p => startTie p s) (setRed (fun r => { r with st := .seeking }) s3)

/-- What the warmer recorded is raised and its marks clear (R106, R507, R508). -/
def raiseRecorded (s : State) : State :=
  let w := s.wrm
  let s1 := w.supplyRecs.foldl (fun s i => raise kSupplyRange 3 i s) s
  let s2 := raiseIf w.marginal kInputMarginal 3 (min (w.marginMs / 1000) 4294967295) s1
  let s3 := raiseIf w.shutdownRec kThermShutdown 0 0 s2
  { s3 with wrm := { w with supplyRecs := [], marginal := false, supplyRange := false, supplyIdx := 0, shutdownRec := false } }

/-- Step 8, before the frame ends: the BOOT mark, and what boot reports (R330, R497, R500, Table 11.3). -/
def endOfBoot (s : State) : State :=
  let s1 := addMark 0x01 ([BitVec.ofNat 8 s.sys.resetKind, 0xB0, 0] ++ leBytes 4 s.recd.torn) s
  let s2 := raiseRecorded s1
  let s3 := raiseIf s.sys.crucible kCrucibleEntered 2 (b2n s.sys.crucibleStrap) s2
  let s4 := raiseIf s.recd.copyWas kFlightCopyCut 3 0 { s3 with recd := { s3.recd with copyWas := false } }
  let s5 := raiseIf s.sys.activationResumed kActivationResumed 2 0 s4
  let s6 := if s.bch.journal = 5 then raise kActivationDone 2 0 (setBch (fun b => { b with journal := 0, switchReset := false }) s5) else s5
  { s6 with sys := { s6.sys with core := .running, bootStage := .done }
            wrm := if s6.batchLive then { s6.wrm with cfg := s6.cfg.warmer } else s6.wrm }

end Sys2Proof.Machine
end

