-- ==== Sys2Proof/Machine/Warm.lean ====
section
/-! DEFINITION. The warmer, the board supplies, the die-to-die link and the over-temperature shutdowns (R16, R17, R106, R502 to
R508). -/
namespace Sys2Proof.Machine

/-- A change of the warmer's register file. -/
def setWrm (f : Warmer → Warmer) (s : State) : State := { s with wrm := f s.wrm }

/-! ### Filters and terms (R502, R503) -/

/-- One step of a first-order filter: an arithmetic shift, rounded down. -/
def filterStep (k : Nat) (x y : Int) : Int := y + (x - y).fdiv ((2 : Int) ^ k)

/-- The input of a logic filter. -/
def logicIn (b : Bool) : Int := if b then 65536 else 0

/-- Assertion of a filtered logic input, with its hysteresis. -/
def logicOn (was : Bool) (y : Int) : Bool := if was then decide (16384 < y) else decide (49152 ≤ y)

/-- A wake-routed monitor output is asserted, unfiltered (Table 19.1). -/
def State.monWakes (s : State) : Bool :=
  (List.range 128).any fun m =>
    ((s.msr.mons.get m).uvRoute.wake && bvGet s.msr.uv m) || ((s.msr.mons.get m).ovRoute.wake && bvGet s.msr.ov m)

/-- The terms of Table 19.1, VIN_OK at bit 0. -/
def Warmer.terms (w : Warmer) : BitVec 8 :=
  bvOf 8 fun i => nth [w.vinOk, w.vinMargin, w.pfiOn, w.wakeOn, w.seatOn ≠ 0, w.mon, w.vwarmLow, w.cold] i

/-- One period's filters and terms (R502, R503, R507). -/
def warmTerms (inp : WarmInputs) (s : State) : Warmer :=
  let w := s.wrm
  let c := w.cfg
  let yv := filterStep c.kVin inp.vinMv w.yVin
  let yw := filterStep c.kWarm inp.warmMv w.yWarm
  let k := nth c.kLogic
  let yp := filterStep (k 0) (logicIn inp.pfi) w.yPfi
  let ya := filterStep (k 1) (logicIn inp.wake) w.yWake
  let ys := (List.range 48).foldl (fun (t : Tab Int) i => t.put i (filterStep (k (2 + i)) (logicIn (bvGet inp.seats i)) (t.get i))) w.ySeat
  let n := if c.vinStart ≤ yv then min (w.vinPeriods + 1) 16383 else 0
  let ok := (w.vinOk || decide (c.vinStartMs ≤ n)) && decide (c.vinStart - c.vinHyst ≤ yv)
  let margin := !ok && decide (c.vinStart - c.vinHyst ≤ yv)
  let ms := if margin then min (w.marginMs + 1) 4294967295 else w.marginMs
  { w with
    yVin := yv, yWarm := yw, yPfi := yp, yWake := ya, ySeat := ys, pfiOn := logicOn w.pfiOn yp, wakeOn := logicOn w.wakeOn ya
    seatOn := bvOf 48 fun i => logicOn (bvGet w.seatOn i) (ys.get i)
    vinPeriods := n, vinOk := ok, vinMargin := margin, marginMs := ms
    marginal := w.marginal || (margin && decide (ms = c.marginMs)), mon := s.monWakes, vwarmLow := decide (yw < 3050) }

/-! ### Rules and outcomes (R504, R505) -/

/-- A rule matches: all its set terms true, all its clear terms false; an unused rule never does. -/
def ruleHits (r : WarmRule) (t : BitVec 8) : Bool := r.out.isSome && t &&& r.setM = r.setM && t &&& r.clrM = 0

/-- The first rule that matches, with its index; none of them is DORMANT. Until 64 ms after VWARM entered its range every outcome
is DORMANT (R372). -/
def applyRules (w : Warmer) : Warmer :=
  let hit := (List.range 16).find? fun i => ruleHits (nth w.cfg.rules i) w.terms
  let out := match hit with
    | some i => (nth w.cfg.rules i).out.getD .dormant
    | none => .dormant
  let held := decide (w.msSinceVwarm < 64) && out ≠ .dormant
  let o := if held then WarmOutcome.dormant else out
  { w with outcome := o, rule := if held then 0 else hit.getD 0, ruleValid := hit.isSome && !held, pwrReq := o ≠ .dormant
           waitMs := if o = .wake && w.outcome = .wake then w.waitMs else 0 }

/-- Every core supply stands in its range. -/
def Warmer.supplied (w : Warmer) : Bool := w.inRange = BitVec.allOnes 7

/-- WARMER_PERIOD: 1 ms of the warmer (R502 to R508). -/
def execWarmerPeriod (inp : WarmInputs) (s : State) : Out :=
  always s fun s =>
    let w := { warmTerms inp s with msSinceVwarm := min (s.wrm.msSinceVwarm + 1) 64 }
    let w1 := { w with settleMs := if w.supplied then min (w.settleMs + 1) 100 else 0
                       offMs := if w.offHold then min (w.offMs + 1) 10000 else 0 }
    let w2 := if w1.released || w1.offHold then w1 else applyRules w1
    setWrm (fun _ => { w2 with waitMs := if w2.outcome = .wake && !w2.released && !w2.offHold then min (w2.waitMs + 1) 1000 else 0 }) s

/-- CORE_RELEASE: a WAKE outcome and every supply in range for supply_settle_ms (R505). -/
def execCoreRelease (s : State) : Out :=
  let w := s.wrm
  whenDue (w.outcome = .wake && w.pwrReq && !w.released && !w.offHold && w.supplied && decide (w.cfg.settleMs ≤ w.settleMs)) s
    (setWrm fun w => { w with released := true })

/-- What a SUPPLY_RANGE of the warmer's records holds: PWR_REQ goes low for off_min_ms (R508). -/
def recordSupply (supply : Nat) (w : Warmer) : Warmer :=
  { w with supplyRange := true, supplyIdx := supply, supplyRecs := w.supplyRecs ++ [supply], pwrReq := false, offHold := true, offMs := 0
           released := false, settleMs := 0, waitMs := 0 }

/-- SUPPLY_OUT_OF_RANGE: a supply has been out of its range for 10 us; a released core is held in reset at once (R508). -/
def execSupplyOutOfRange (supply : Nat) (s : State) : Out :=
  whenDue (decide (supply < 7)) s fun s =>
    let s1 := setWrm (fun w => { w with inRange := bvPut w.inRange supply false, settleMs := 0 }) s
    if s.wrm.released then setWrm (recordSupply supply) (coreReset 1 s1) else s1

/-- SUPPLY_SETTLE_TIMEOUT: supply_timeout_ms after a WAKE outcome; the recorded supply is the first that is out of range, or a
free value where all are in range (R508, log entry 32). -/
def execSupplySettleTimeout (s : State) : Out :=
  let w := s.wrm
  whenDue (w.outcome = .wake && !w.released && !w.offHold && decide (w.cfg.timeoutMs ≤ w.waitMs)) s fun s =>
    let (v, s1) := takeFree s
    match (List.range 7).find? fun i => !bvGet w.inRange i with
    | some i => setWrm (fun w => { recordSupply i w with retries := incSat 8 w.retries }) s
    | none => setWrm (fun w => { recordSupply (natOf v % 7) w with retries := incSat 8 w.retries }) s1

/-- OFF_MIN_END: off_min_ms after a supply failure the warmer applies its rules again (R508). -/
def execOffMinEnd (s : State) : Out :=
  whenDue (s.wrm.offHold && decide (s.wrm.cfg.offMinMs ≤ s.wrm.offMs)) s
    (setWrm fun w => applyRules { w with offHold := false, offMs := 0 })

/-- SUPPLY_IN_RANGE: a supply enters its range; with VDD_IO2 after a power-on reset the EN outputs begin to follow peer_live
(R372, R508). -/
def execSupplyInRange (supply : Nat) (s : State) : Out :=
  whenDue (decide (supply < 7)) s fun s =>
    let s1 := setWrm (fun w => { w with inRange := bvPut w.inRange supply true, settleMs := 0 }) s
    if supply = 5 ∧ s.sys.core = .held ∧ s.sys.resetKind ≤ 1 then followPeerLive (setRed (fun r => { r with enFollow := true }) s1)
    else s1

/-! ### The die-to-die link (R16, R17) -/

/-- DIE_LINK_WORD_SEND: a keep-alive word of the core die reaches the power die. -/
def execDieLinkWordSend (s : State) : Out :=
  whenDue (s.sys.core ≠ .held) s fun s => { s with sys := { s.sys with linkUp := true } }

/-- CORE_DIE_ABSENT: no valid word for 32 us; the power die then behaves as during a core-die reset. -/
def execCoreDieAbsent (s : State) : Out :=
  whenDue (!s.sys.coreAbsent) s fun s => settlePhases (holdCodes { s with sys := { s.sys with coreAbsent := true, linkUp := false } })

/-- DIE_LINK_LOSS: raised when the core die returns from absence. -/
def execDieLinkLoss (s : State) : Out :=
  whenDue (s.sys.coreAbsent && s.sys.core ≠ .held) s fun s =>
    let s1 := { s with sys := { s.sys with coreAbsent := false, linkUp := true, linkLosses := incSat 8 s.sys.linkLosses } }
    let s2 := if s1.coreUp then { s1 with hsw := { s1.hsw with chans := tabMap (fun _ x => returnChan x) s1.hsw.chans } } else s1
    raiseT kDieLinkLoss 2 0 (settlePhases s2)

/-- DIE_LINK_ERROR: an invalid word, seen by either die. -/
def execDieLinkError (_core : Bool) (s : State) : Out :=
  whenDue (s.sys.core ≠ .held) s fun s =>
    raiseT kDieLinkError 2 0 { s with sys := { s.sys with linkErrors := incSat 8 s.sys.linkErrors } }

/-! ### Over-temperature (R106, Table 3.7) -/

/-- OVERTEMP_SHUTDOWN. -/
def execOvertempShutdown (core : Bool) (s : State) : Out :=
  if core then
    whenDue (!s.sys.cdShutdown) s fun s =>
      let s1 := coreReset 5 s
      { s1 with sys := { s1.sys with cdShutdown := true, cdRecorded := true }, wrm := { s1.wrm with shutdownRec := true } }
  else
    whenDue (!s.sys.pdShutdown) s fun s =>
      let s1 := shutdownChans { s with sys := { s.sys with pdShutdown := true } }
      settlePhases (if s1.timeRuns then raiseT kThermShutdown 1 0 s1 else s1)

/-- OVERTEMP_RELEASE: a core-die shutdown ends in the THERMAL reset's boot; a power-die one leaves the channels latched. -/
def execOvertempRelease (core : Bool) (s : State) : Out :=
  if core then whenDue s.sys.cdShutdown s fun s => { s with sys := { s.sys with cdShutdown := false } }
  else whenDue s.sys.pdShutdown s fun s => settlePhases { s with sys := { s.sys with pdShutdown := false } }

end Sys2Proof.Machine
end

