-- ==== Sys2Proof/Machine/Registers.lean ====
section
/-! DEFINITION. The register space: what every register reads, what a read captures or clears, and what a write does (chapter 22,
R8 to R10, R554 to R560). Offsets are those of Tables 22.4 to 22.7; port 0 is MGT and port 1 FHP. -/
namespace Sys2Proof.Machine

/-- A word from values at bit places. -/
def pack (l : List (Nat × Nat)) : Word := BitVec.ofNat 32 (l.foldl (fun n f => n + f.2 * 2 ^ f.1) 0)

/-- A word of a count or identity. -/
def wordN (n : Nat) : Word := BitVec.ofNat 32 n

/-- A word of a signed value. -/
def wordI (v : Int) : Word := BitVec.ofNat 32 (toBits 32 v)

/-- 32 bits of a wider vector from bit 32 k on. -/
def wordOf {n : Nat} (v : BitVec n) (k : Nat) : Word := bvOf 32 fun i => bvGet v (32 * k + i)

/-- A word of one bit each. -/
def wordBits (f : Nat → Bool) : Word := bvOf 32 f

/-- The private registers of a host port. -/
def State.hport (s : State) (p : Nat) : HostPort := s.hst.ports.get p

/-- A change of the host ports' state. -/
def setHst (f : Hst → Hst) (s : State) : State := { s with hst := f s.hst }

/-- A change of one host port's private registers. -/
def setPort (p : Nat) (f : HostPort → HostPort) (s : State) : State :=
  setHst (fun h => { h with ports := h.ports.modify p f }) s

/-- A change of one mailbox: 0 MGT normal, 1 MGT urgent, 2 FHP normal, 3 FHP urgent. -/
def setMbox (m : Nat) (f : Mailbox → Mailbox) (s : State) : State :=
  setHst (fun h => { h with mboxes := h.mboxes.modify m f }) s

/-! ### Summary, ALERT_N and the in-band request's condition (R345, R452, R463) -/

/-- A port is locked out (R471). -/
def State.lockedOut (s : State) (p : Nat) : Bool := (s.hst.auth.get p).lock.any fun n => decide (0 < n)

/-- The event bit of a comparator is enabled: its assertion or its deassertion is (R96, R553). -/
def State.wmEnabled (s : State) (m : Nat) (ov : Bool) : Bool := s.intEnabled m ov true || s.intEnabled m ov false

/-- FLT_SUMMARY (Table 12.5, R463). -/
def State.summary (s : State) : Word :=
  let ready := fun m => (s.hst.mboxes.get m).ready
  wordBits fun i => match i with
    | 0 => s.flt.fifo.any fun m => !bvGet s.flt.mask m.block
    | 1 => s.flt.ovf ≠ 0
    | 2 => (List.range 128).any fun i =>
        bvGet s.msr.evUv i && s.wmEnabled i false || bvGet s.msr.evOv i && s.wmEnabled i true
    | 3 => s.bat.levelEvent &&& s.bat.levelEn ≠ 0
    | 4 => s.hsw.tripEvent ≠ 0
    | 5 => (List.range 16).any fun u => !(s.msr.caps.get u).fifo.isEmpty
    | 8 => ready 0
    | 9 => ready 1
    | 10 => ready 2
    | 11 => ready 3
    | 12 => s.lockedOut 0
    | 13 => s.lockedOut 1
    | _ => false

/-- ALERT_N is low (R345). -/
def State.alertLow (s : State) : Bool := s.summary &&& s.flt.alertEn ≠ 0

/-- The condition of the in-band request (R452). -/
def State.ibrCond (s : State) : Bool := s.summary &&& s.hst.ibrEn ≠ 0

/-- Once the condition has ended, its next becoming true calls for a first request again. -/
def ibrSettle (s : State) : State := if s.ibrCond then s else setHst (fun h => { h with ibrSent := false }) s

/-! ### Reading (Tables 22.4 to 22.11) -/

/-- The cursor, or 0 where the sealed log serves no session of the port (R319, R320). -/
def State.cursor (s : State) (log p : Nat) : Nat :=
  if log = 1 then s.recd.openCur.get p else if s.sessionOpen p then s.recd.sealedCur.get p else 0

/-- A register of the CHIP_ page. -/
def regChip (o : Nat) (s : State) : Word :=
  match o with
  | 0x00 => wordN chipId
  | 0x04 => wordN s.otp.serial
  | 0x08 => wordN (s.otp.serial / 4294967296)
  | 0x0C => pack [(0, lifeCode s.otp.lifecycle), (3, b2n s.sys.crucible), (4, puntyCode s.red.st), (7, b2n s.red.inhibit),
      (8, s.shr.hold.st.ctorIdx), (10, b2n (s.mem.degraded ≠ 0)), (11, b2n s.lop.floorExceeded), (12, b2n s.tim.unreferenced),
      (13, s.sys.resetKind)]
  | 0x10 => wordN s.identVersion
  | 0x14 => wordN (field s.identDigest 0 4)
  | 0x18 => wordN (field s.identDigest 4 4)
  | 0x1C => wordN (field s.identDigest 8 4)
  | 0x20 => wordN (field s.identDigest 12 4)
  | _ => 0

/-- A register of the SYS_ page. -/
def regSys (o : Nat) (s : State) : Word :=
  let y := s.sys
  let w := s.wrm
  match o with
  | 0x00 => wordN (b2n y.lock)
  | 0x04 => pack [(0, y.resetKind), (3, b2n y.crucibleStrap), (4, b2n y.crucibleSlots), (5, s.bch.active.getD 0),
      (6, b2n y.slotFallback), (7, b2n y.activationResumed), (8, b2n y.adopted), (16, y.bootTime)]
  | 0x08 => pack [(0, w.terms.toNat), (8, if w.ruleValid then w.rule else 0), (12, w.outcome.ctorIdx), (14, b2n w.marginal),
      (15, b2n w.supplyRange), (16, w.supplyIdx), (20, w.retries), (28, b2n w.ruleValid)]
  | 0x0C => wordN w.marginMs
  | 0x10 => pack [(0, b2n y.linkUp), (1, b2n y.driveHeld), (2, b2n y.displaced), (3, b2n y.pdShutdown), (4, b2n y.cdRecorded),
      (8, y.linkErrors), (16, y.linkLosses)]
  | _ => 0

/-- A register of the TIM_ page; crucible has the timing of Table 18.7 (R564). -/
def regTim (o : Nat) (s : State) : Word :=
  let t := s.tim
  let b := s.cfg
  match o with
  | 0x00 => pack [(0, b.tickPeriods), (4, b.frameTicks - 1), (12, b2n b.tref25), (13, b2n b.ppsEn), (14, b2n b.syncOutEn),
      (16, b.syncOutOffset)]
  | 0x04 => wordN b.nominalNs
  | 0x08 => wordN t.measured
  | 0x0C => pack [(0, t.gen.ctorIdx), (3, t.miss), (5, b2n t.unreferenced), (6, b2n t.ppsOk), (7, b2n t.timeSet),
      (8, b2n t.trefValid), (16, t.glitches)]
  | 0x10 => wordN t.frame
  | 0x14 => wordN t.frameHiCap
  | 0x18 => wordN t.tick
  | 0x1C => wordN t.chassis
  | 0x20 => wordN t.chassisHiCap
  | 0x24 => wordI t.slackMin
  | 0x28 => wordI t.slackWorst
  | _ => 0

/-- One byte of HST_MB_STATUS (R461). -/
def Mailbox.status (m : Mailbox) : Nat := m.st.ctorIdx + 4 * b2n m.ready + 8 * b2n m.busyRing

/-- Remaining frames of a port's lockout as shown (R471). -/
def State.lockLeft (s : State) (p : Nat) : Nat := min ((s.hst.auth.get p).lock.getD 0) s.cfg.lockoutFrames

/-- A register of the HST_ page. -/
def regHst (p o : Nat) (s : State) : Word :=
  let h := s.hst
  match o with
  | 0x04 => wordN ((h.mboxes.get (2 * p)).status + 256 * (h.mboxes.get (2 * p + 1)).status)
  | 0x08 => wordN h.thd
  | 0x0C => wordN h.tsu
  | 0x10 => wordN h.glitch
  | 0x14 => h.ibrEn
  | 0x18 => h.fhpCfg
  | 0x1C => wordN h.failAddr
  | 0x20 => wordN (s.hport p).keySel
  | 0x24 => wordN (s.hport p).keyCtr
  | 0x28 => pack [(0, (h.auth.get 0).count), (8, b2n (s.lockedOut 0)), (16, (h.auth.get 1).count), (24, b2n (s.lockedOut 1))]
  | 0x2C => wordN (s.lockLeft 0)
  | 0x30 => wordN (s.lockLeft 1)
  | _ => 0

/-- The 16 bytes of a host fault FIFO entry (R344). -/
def FaultMsg.bytes (m : FaultMsg) : List Byte := leBytes 8 m.word ++ leBytes 6 m.frame ++ [0, 0]

/-- Word k of the oldest entry of the host fault FIFO; 0 while it is empty (R344). -/
def State.intWord (s : State) (k : Nat) : Word :=
  match s.flt.fifo with
  | [] => 0
  | m :: _ => wordN (field m.bytes (4 * k) 4)

/-- A register of the FLT_ page. -/
def regFlt (p o : Nat) (s : State) : Word :=
  match o with
  | 0x00 => wordN s.flt.lost
  | 0x04 => wordN s.flt.ovf
  | 0x08 => s.intWord 0
  | 0x0C => s.intWord 1
  | 0x10 => s.intWord 2
  | 0x14 => s.intWord 3
  | 0x18 => s.flt.mask
  | 0x1C => s.summary
  | 0x20 => s.flt.alertEn
  | 0x24 => s.flt.nmaCause
  | 0x2C => wordN (s.hport p).reactSel
  | 0x30 => wordN (s.hport p).reactData
  | _ => 0

/-- The capture unit that a port has selected; a number above 15 names none (R99). -/
def State.selUnit (s : State) (p : Nat) : CapUnit := if (s.hport p).capSel < 16 then s.msr.caps.get (s.hport p).capSel else {}

/-- Word k of the oldest entry of the selected capture unit; 0 while it is empty (R99). -/
def State.capWord (s : State) (p k : Nat) : Word :=
  match (s.selUnit p).fifo with
  | [] => 0
  | e :: _ => wordN (field e.bytes (4 * k) 4)

/-- Live level of a comparator in the order of R92; a disabled monitor reads 0 (R567). -/
def State.liveLevel (s : State) (i : Nat) : Bool := s.monOn (i % 128) && s.msr.level (i % 128) (decide (128 ≤ i))

/-- A register of the MSR_ page. -/
def regMsr (p o : Nat) (s : State) : Word :=
  let m := s.msr
  if o = 0x00 then wordN m.slotMissed
  else if o < 0x24 then wordBits fun i => s.liveLevel (8 * (o - 4) + i)
  else if o < 0x34 then wordOf m.evUv ((o - 0x24) / 4)
  else if o < 0x44 then wordOf m.evOv ((o - 0x34) / 4)
  else if o < 0x84 then m.intEn.get ((o - 0x44) / 4)
  else match o with
  | 0x84 => wordN (s.hport p).capSel
  | 0x88 => s.capWord p 0
  | 0x8C => s.capWord p 1
  | 0x90 => s.capWord p 2
  | 0x94 => s.capWord p 3
  | 0x98 => wordN (s.selUnit p).ovf
  | 0x9C => wordBits fun i => decide (i < 20) && (m.sensors.get i).broken
  | 0xA0 => pack [(0, toBits 16 (s.dieMax true)), (16, toBits 16 (s.dieMax false))]
  -- the states show here from the boundary from which they take effect (R105; DESIGN CHOICE, log entry 50)
  | 0xA4 => Config.regLayout 0x14A4 [(b2n m.coreTherm.warnEff : Nat), (b2n m.coreTherm.throttleEff : Nat),
      (b2n m.powerTherm.warnEff : Nat), (b2n m.powerTherm.throttleEff : Nat)]
  | _ => 0

/-- A register of the LOP_ page. -/
def regLop (o : Nat) (s : State) : Word :=
  if o = 0x00 then wordBits fun l => decide (l < 8) && (s.loop l).enabled
  else if o < 0x24 then wordN (s.lop.floors.get ((o - 4) / 4))
  else if o = 0x24 then wordN s.lop.floorTotal
  else if o < 0x48 then wordN (s.lop.status.get ((o - 0x28) / 4))
  else 0

/-- A register of the STG_ page. -/
def regStg (o : Nat) (s : State) : Word :=
  if o < 0x18 then
    let x := s.stage (o / 4)
    pack [(0, x.st.ctorIdx), (4, modeCode x.mode), (6, b2n x.enabled), (7, b2n x.abortLatch)]
  else if o = 0x18 then wordBits fun i => decide (i < 24) && (s.phase i).masked
  else if o = 0x1C then wordBits fun i => decide (i < 24) && (s.phase i).active
  else 0

/-- A register of the SHR_ page. -/
def regShr (o : Nat) (s : State) : Word :=
  let h := s.shr.hold
  if o < 0x14 then pack ((List.range 8).map fun j =>
    let r := 8 * (o / 4) + j
    (4 * j, if r < 36 then (s.shr.cur.rects.get r).st.ctorIdx else 0))
  else if o = 0x14 then wordN h.st.ctorIdx
  else if o = 0x18 then pack [(0, h.steps), (8, b2n h.progRun), (16, h.standing.length)]
  else 0

/-- Word k of a captured readout. -/
def capData (l : List (BitVec 32)) (k : Nat) : Word := l.getD k 0

/-- A register of the LEH_ page. -/
def regLeh (p o : Nat) (s : State) : Word :=
  let c := s.leh.cur
  if 0x34 ≤ o then capData (s.hport p).domData ((o - 0x34) / 4)
  else match o with
  | 0x00 => wordI c.supply
  | 0x04 => wordI c.tRect
  | 0x08 => wordI c.tBatt
  | 0x0C => wordI c.tTie
  | 0x10 => wordI c.tLoss
  | 0x14 => wordI c.tCap
  | 0x18 => wordN c.tHold.ctorIdx
  | 0x1C => wordI c.headroom
  | 0x20 => wordI c.commit
  | 0x24 => wordBits fun i => (c.enf.get i).on
  | 0x28 => wordBits fun i => decide (i < 16) && (c.enf.get (32 + i)).on
  | 0x2C => Config.regLayout 0x242C ((List.range 6).flatMap fun j =>
      [((b2n (s.leh.jobs.get j).paused : Nat) : Int), ((s.leh.jobs.get j).due + (s.leh.jobs.get j).run + (s.leh.jobs.get j).next : Nat)])
  | 0x30 => wordN (s.hport p).domSel
  | _ => 0

/-- A register of the BAT_ page. -/
def regBat (o : Nat) (s : State) : Word :=
  if o < 0x18 then
    let x := s.bat.cur.strings.get (o / 4)
    if s.strUsed (o / 4) then pack [(0, chargeCode x.charge), (8, x.flags % 128)] else 0
  else match o with
  | 0x18 => s.bat.levelEvent
  | 0x1C => wordBits fun i => decide (i < 30) && bvGet (s.bat.cur.strings.get (i / 5)).levels (i % 5)
  | 0x20 => s.bat.levelEn
  | 0x24 => Config.regLayout 0x2824 [(s.bat.zDropped : Int), (s.bat.zq.length : Int)]
  | _ => 0

/-- A register of the HSW_ page. -/
def regHsw (p o : Nat) (s : State) : Word :=
  match o with
  | 0x00 => wordBits fun i => (s.chan i).pgS
  | 0x04 => wordBits fun i => decide (i < 16) && (s.chan (32 + i)).pgS
  | 0x08 => wordOf s.hsw.tripEvent 0
  | 0x0C => wordOf s.hsw.tripEvent 1
  | 0x1C => wordN (s.hport p).chSel
  | 0x20 => capData (s.hport p).chData 0
  | 0x24 => capData (s.hport p).chData 1
  | 0x28 => capData (s.hport p).chData 2
  | 0x2C => capData (s.hport p).chData 3
  | _ =>
    if 0x10 ≤ o ∧ o < 0x1C then pack ((List.range 16).map fun j => (2 * j, s.limSource (16 * ((o - 0x10) / 4) + j))) else 0

/-- A register of the SEQ_ page. -/
def regSeq (p o : Nat) (s : State) : Word :=
  let q := s.seq
  if o < 0x20 then pack ((List.range 8).map fun j => (4 * j, q.shown.get (8 * (o / 4) + j)))
  else match o with
  | 0x20 => q.enSampled
  | 0x24 => Config.regLayout 0x3024 [(b2n q.seqfLow : Nat), (b2n q.seqfDrive : Nat)]
  | 0x28 => pack [(0, q.dropped), (16, q.incomplete)]
  | 0x2C => wordN (s.hport p).railSel
  | 0x30 => capData (s.hport p).railData 0
  | 0x34 => capData (s.hport p).railData 1
  | 0x38 => capData (s.hport p).railData 2
  | 0x3C => capData (s.hport p).railData 3
  | 0x40 => wordN q.newest
  | _ => 0

/-- A register of the REC_ page. -/
def regRec (p o : Nat) (s : State) : Word :=
  let r := s.recd
  match o with
  | 0x00 => pack [(0, b2n (r.frozen 0)), (1, b2n (r.frozen 1)), (2, b2n r.flushing), (3, b2n (s.sessionOpen 0)),
      (4, b2n (s.sessionOpen 1)), (5, if r.flight = .recording && r.areaHeld then 3 else r.flight.ctorIdx)]
  | 0x04 => wordN (s.cursor 1 p)
  | 0x08 => wordN (s.cursor 0 p)
  | 0x0C => wordN (r.openLog.count 1)
  | 0x10 => wordN (r.sealedLog.count 0)
  | 0x14 => wordN r.stageOvf
  | 0x18 => wordN r.freezeOvf
  | 0x1C => wordN r.torn
  | 0x20 => wordN r.pfiSkip
  | 0x24 => wordN s.flushQuota
  | 0x28 => Config.regLayout 0x3428 [(r.flightIgn : Int), (r.flight.ctorIdx : Int), ((b2n r.areaHeld : Nat) : Int)]
  | _ => 0

/-- A register of the RED_ page. -/
def regRed (o : Nat) (s : State) : Word :=
  let r := s.red
  match o with
  | 0x00 => Config.regLayout 0x3800 [(puntyCode r.st : Int), (r.silence : Int), ((b2n r.inhibit : Nat) : Int),
      ((b2n s.sys.pairOrd : Nat) : Int)]
  | 0x04 => wordN r.epoch
  | 0x08 => Config.regLayout 0x3808 [((b2n r.mirComplete : Nat) : Int), (r.mirFrame : Int), (r.mirGaps : Int)]
  | 0x0C => Config.regLayout 0x380C [((b2n r.peerUp : Nat) : Int), (r.linkRetries : Int), (r.linkErrors : Int)]
  | _ => 0

/-- State, role and closing bit of a tie port in TIE_STATUS (R411). -/
def TiePort.statusBits (x : TiePort) : Nat :=
  x.st.ctorIdx + 16 * x.role + 64 * b2n (x.st = .matching && x.closing)

/-- A register of the TIE_ page. -/
def regTie (p o : Nat) (s : State) : Word :=
  let a := s.tie.ports.get 0
  let b := s.tie.ports.get 1
  match o with
  | 0x00 => pack [(0, a.statusBits), (8, b.statusBits)]
  | 0x04 => wordI a.imp
  | 0x08 => wordI b.imp
  | 0x0C => wordN (s.hport p).tieSel
  | 0x10 => capData (s.hport p).tieData 0
  | 0x14 => capData (s.hport p).tieData 1
  | 0x18 => capData (s.hport p).tieData 2
  | 0x1C => Config.regLayout 0x3C1C [(a.nRepeat : Int), (a.nCrc : Int), (a.nColl : Int), (b.nRepeat : Int), (b.nCrc : Int),
      (b.nColl : Int)]
  | _ => 0

/-- Joined nodes of a cane port. -/
def State.joinedOn (s : State) (port : Nat) : Nat :=
  ((List.range 64).filter fun n => (s.pnt.nodes.get n).joined && (s.cfg.nodes.get n).port = port).length

/-- A register of the PNT_ page. -/
def regPnt (p o : Nat) (s : State) : Word :=
  match o with
  | 0x00 => wordN (s.pnt.peekBase.get p)
  | 0x04 => Config.regLayout 0x4004 ((List.range 16).flatMap fun k =>
      [((b2n (s.pnt.ports.get k).up : Nat) : Int), (s.joinedOn k : Int)])
  | 0x08 => wordN (s.hport p).nodeSel
  | 0x0C => capData (s.hport p).nodeData 0
  | 0x10 => capData (s.hport p).nodeData 1
  | 0x14 => capData (s.hport p).nodeData 2
  | 0x18 => capData (s.hport p).nodeData 3
  | 0x1C => Config.regLayout 0x401C [(s.pnt.updDiscard : Int), (s.pnt.frmDiscard : Int), (s.pnt.queueDiscard : Int)]
  | _ => 0

/-- A register of the PMB_ page. -/
def regPmb (p o : Nat) (s : State) : Word :=
  match o with
  | 0x00 => wordN (s.hport p).pmbSel
  | 0x04 => capData (s.hport p).pmbData 0
  | 0x08 => capData (s.hport p).pmbData 1
  | 0x0C => capData (s.hport p).pmbData 2
  | 0x10 => capData (s.hport p).pmbData 3
  | _ => 0

/-- A register of the MEM_ page. -/
def regMem (o : Nat) (s : State) : Word :=
  match o with
  | 0x00 => wordOf s.mem.degraded 0
  | 0x04 => wordOf s.mem.degraded 1
  | 0x08 => wordOf s.mem.bistResult 0
  | 0x0C => wordOf s.mem.bistResult 1
  | 0x10 => wordOf s.mem.bistResult 2
  | _ => 0

/-- What a register reads once logical time runs, at an offset that is a multiple of 4, for a port; unassigned offsets and WO
registers read 0 (R9, R10, R560). -/
def regLive (p a : Nat) (s : State) : Word :=
  let o := a % 0x400
  match a / 0x400 with
  | 0x00 => regChip o s
  | 0x01 => regSys o s
  | 0x02 => regTim o s
  | 0x03 => regHst p o s
  | 0x04 => regFlt p o s
  | 0x05 => regMsr p o s
  | 0x06 => regLop o s
  | 0x07 => regStg o s
  | 0x08 => regShr o s
  | 0x09 => if o < 0x54 then regLeh p o s else 0
  | 0x0A => regBat o s
  | 0x0B => regHsw p o s
  | 0x0C => regSeq p o s
  | 0x0D => regRec p o s
  | 0x0E => regRed o s
  | 0x0F => regTie p o s
  | 0x10 => regPnt p o s
  | 0x11 => regPmb p o s
  | 0x12 => if o = 0 then wordN s.bch.floorVersion else 0
  | 0x13 => regMem o s
  | _ => 0

/-- Registers whose reset code is a value or K, so that they read as they stand before logical time starts (Tables 22.3 to
22.7). -/
def readsEarly (a : Nat) : Bool :=
  [0x0000, 0x0400, 0x0408, 0x040C, 0x081C, 0x0820, 0x0828, 0x0C04, 0x0C08, 0x0C0C, 0x0C10, 0x0C14, 0x0C18, 0x0C20, 0x0C28,
   0x0C2C, 0x0C30, 0x1000, 0x1004, 0x1018, 0x1020, 0x1024, 0x102C, 0x1484, 0x2430, 0x2818, 0x2820, 0x2C08, 0x2C0C, 0x2C1C,
   0x302C, 0x3040, 0x3404, 0x3408, 0x3C0C, 0x4000, 0x4008, 0x4400, 0x4800].contains a || decide (0x1424 ≤ a ∧ a < 0x1484)

/-- What a register reads: those of codes L, C and O read 0 until the boot has loaded them (Table 22.3). -/
def regValue (p a : Nat) (s : State) : Word := if s.timeRuns || readsEarly a then regLive p a s else 0

/-- A change of the capture unit that a port has selected. -/
def setCapOf (p : Nat) (f : CapUnit → CapUnit) (s : State) : State :=
  if (s.hport p).capSel < 16 then setMsr (fun m => { m with caps := m.caps.modify (s.hport p).capSel f }) s else s

/-- What the capture of a register changes (R47, R55, R70, R98, R99, R344, R554). -/
def regCaptured (p a : Nat) (s : State) : State :=
  match a with
  | 0x0810 => setTim (fun t => { t with frameHiCap := t.frame / 4294967296 }) s
  | 0x081C => setTim (fun t => { t with chassisHiCap := t.chassis / 4294967296 }) s
  | 0x0828 => setTim (fun t => { t with slackWorst := 2147483647 }) s
  | 0x1004 => { s with flt := { s.flt with ovf := 0 } }
  | 0x1014 => { s with flt := { s.flt with fifo := s.flt.fifo.drop 1 } }
  | 0x1494 => setCapOf p (fun u => { u with fifo := u.fifo.drop 1 }) s
  | 0x1498 => setCapOf p (fun u => { u with ovf := 0 }) s
  | _ => s

end Sys2Proof.Machine
end

