-- ==== Sys2Proof/Machine/Mailbox.lean ====
section
/-! DEFINITION. Mailboxes, the verification of command blocks, forwarding by a standby, lockouts and deferred reads (chapter 16,
R384, R387, R471, R480). -/
namespace Sys2Proof.Machine

/-- The host ports answer: the core die is not held in reset (Table 20.2, Table 22.3). -/
def State.portsUp (s : State) : Bool := s.sys.core ≠ .held

/-- A step of one of the two host ports, given its number; the in-band request's condition is followed after it (R452). -/
def whenPort (p : PortId) (s : State) (f : Nat → State → State) : Out :=
  whenDue (s.portsUp && p ≠ .peer) s fun s => ibrSettle (f (portCode p) s)

/-! ### Mailboxes (R459 to R461) -/

/-- The bytes of a window up to the last that is not 0. -/
def tabBytes (t : Tab Byte) : List Byte := (List.range ((t.map (·.1 + 1)).foldl max 0)).map t.get

/-- A doorbell of mailbox m: the block is copied and the reply window cleared; a mailbox that is BUSY only notes it, and
MAILBOX_BUSY is raised once per excursion (Table 16.5). -/
def doorbell (m : Nat) (s : State) : State :=
  let x := s.hst.mboxes.get m
  if x.st = .busy then
    raiseIf (!x.busyRaised) kMailboxBusy (m / 2) 0 (setMbox m (fun x => { x with busyRing := true, busyRaised := true }) s)
  else
    let s1 := setMbox m (fun x => { x with
      st := .busy, ready := false, block := tabBytes x.cmd, rung := some s.hst.ring, reply := [], busyRaised := false }) s
    setHst (fun h => { h with ring := h.ring + 1 }) s1

/-- 1 written to reply_ready: a DONE mailbox becomes IDLE, its reply window kept (Table 16.5). -/
def clearReady (m : Nat) (s : State) : State :=
  setMbox m (fun x => { x with ready := false, st := if x.st = .done then .idle else x.st }) s

/-- 1 written to busy_ring (R461). -/
def clearBusyRing (m : Nat) (s : State) : State := setMbox m (fun x => { x with busyRing := false }) s

/-- DOORBELL_NORMAL (R460). -/
def execDoorbellNormal (port : PortId) (s : State) : Out := whenPort port s fun p => doorbell (2 * p)

/-- DOORBELL_URGENT (R460). -/
def execDoorbellUrgent (port : PortId) (s : State) : Out := whenPort port s fun p => doorbell (2 * p + 1)

/-- REPLY_READY_CLEAR (R461). -/
def execReplyReadyClear (port : PortId) (urgent : Bool) (s : State) : Out :=
  whenPort port s fun p => clearReady (2 * p + b2n urgent)

/-- BUSY_RING_CLEAR (R461). -/
def execBusyRingClear (port : PortId) (urgent : Bool) (s : State) : Out :=
  whenPort port s fun p => clearBusyRing (2 * p + b2n urgent)

/-! ### Verification (R462 to R469) -/

/-- A block that waits for verification: the port it counts for, the port that took it in, the mailbox of its reply and its
place in the order of doorbells. -/
structure Block where
  /-- port of acceptance -/
  port : PortId := .mgt
  /-- port whose key bindings hold (R387) -/
  origin : PortId := .mgt
  /-- mailbox of the reply; 4 to 7 are the peer's -/
  mbox : Nat := 0
  /-- doorbell order -/
  order : Nat := 0
  /-- the block's bytes -/
  bytes : List Byte := []

/-- Opcode of a block (Table 16.6). -/
def Block.op (b : Block) : Nat := field b.bytes 0 2
/-- Its flags. -/
def Block.flags (b : Block) : Nat := field b.bytes 2 2
/-- It carries a MAC. -/
def Block.mac (b : Block) : Bool := bitAt b.flags 0
/-- The key slot it names. -/
def Block.slot (b : Block) : Nat := bitsOf b.flags 2 1
/-- Its payload length. -/
def Block.len (b : Block) : Nat := field b.bytes 4 2
/-- Its counter. -/
def Block.ctr (b : Block) : Nat := field b.bytes 6 4
/-- Its payload, as far as a window holds it. -/
def Block.payload (b : Block) : List Byte := slice b.bytes 16 (min b.len 1008)
/-- The header that its command carries. -/
def Block.hdr (b : Block) : CmdHeader :=
  { port := b.port, mbox := b.mbox, counter := b.ctr, key := if b.mac then some b.slot else none }

/-- The host port of a mailbox. -/
def mboxPort (m : Nat) : PortId := if m / 2 = 0 then .mgt else .fhp

/-- Every block that waits: rung mailboxes and blocks that FORWARD brought (R387, R462). -/
def State.blocks (s : State) : List Block :=
  let own := (List.range 4).filterMap fun m =>
    let x := s.hst.mboxes.get m
    x.rung.map fun r => { port := mboxPort m, origin := mboxPort m, mbox := m, order := r, bytes := x.block : Block }
  own ++ s.hst.forwarded.map fun f =>
    { port := .peer, origin := mboxPort f.1, mbox := 4 + f.1, order := f.2.1, bytes := f.2.2 : Block }

/-- The block that is verified next: urgent before normal, then the earlier doorbell (R462). -/
def State.nextBlock (s : State) : Option Block :=
  (sortBy (fun a b : Block => if a.mbox % 2 ≠ b.mbox % 2 then decide (a.mbox % 2 = 1) else decide (a.order < b.order))
    s.blocks).head?

/-- Verification of a block is under way no longer. -/
def takeBlock (b : Block) (s : State) : State :=
  if b.port = .peer then setHst (fun h => { h with forwarded := h.forwarded.filter fun f => f.2.1 ≠ b.order }) s
  else setMbox b.mbox (fun x => { x with rung := none }) s

/-- The checks of Table 16.8: failed, status, fault, and whether the rejection counts for R471. -/
def checks (b : Block) (s : State) : List (Bool × Nat × (Nat × Nat) × Bool) :=
  let critical := isCritical s b.op
  let blank := s.otp.lifecycle = .blank && !s.blowing 0 0
  let scope := 16 + b.len
  [(decide (1024 < scope + 16 * b2n b.mac), 0x10, kCmdMalformed, false),
   (decide (8 ≤ b.flags) || decide (field b.bytes 10 6 ≠ 0), 0x10, kCmdMalformed, false),
   ((decodeCmd b.hdr b.op b.payload).isNone, 0x10, kCmdMalformed, false),
   (critical && s.otp.lifecycle = .retired, 0x11, kAuthFail, false),
   (critical && !b.mac && !blank, 0x11, kAuthFail, false),
   (b.mac && !(s.keyUsable b.slot && s.keyBound b.slot b.origin), 0x11, kAuthFail, true),
   (b.mac && s.lockedOut (portCode b.port), 0x11, kAuthFail, false),
   (b.mac && slice b.bytes scope 16 ≠ macOf s b.slot (slice b.bytes 0 scope), 0x11, kAuthFail, true),
   (b.mac && decide (b.ctr ≤ s.hst.verCtr.get b.slot), 0x12, kCounterReplay, false)]

/-- One more AUTH_FAIL that counts: at the limit the port is locked out, to the boundary lockout_frames after the one that
ends this frame (R471). -/
def countAuthFail (p : PortId) (s : State) : State :=
  setHst (fun h => { h with auth := h.auth.modify (portCode p) fun a =>
    let n := min (a.count + 1) 255
    let locked := a.lock.any fun l => decide (0 < l)
    { a with count := n, since := 0
             lock := if !locked && decide (s.cfg.authLimit ≤ n) then some (s.cfg.lockoutFrames + 1) else a.lock } }) s

/-- A reply to a block that is not accepted, with its COMMAND record (R63, R309, R465). -/
def answer (b : Block) (status : Nat) (s : State) : State :=
  let s1 := addRecord (commandRecord s b.hdr b.op status b.payload) s
  let s2 := writeReply b.port b.mbox (replyBytes s1 b.op status s1.tim.frame b.ctr none []) s1
  if b.port = .peer then peerPump s2 else s2

/-- COMMAND_REJECTION: the first failing check decides status and fault; no counter changes (R63, R466). -/
def rejectBlock (b : Block) (status : Nat) (k : Nat × Nat) (counts : Bool) (s : State) : State :=
  let s1 := raise k (portCode b.origin) (b.op + 65536 * b.slot) s
  answer b status (if counts then countAuthFail b.port s1 else s1)

/-- A block that passes every check: its counter becomes the last verified one, it joins the queue for acceptance, and the
holder sends a counter on to its mirror (R384, R469). -/
def acceptBlock (b : Block) (s : State) : State :=
  let s1 := setHst (fun h => { h with
    verCtr := if b.mac then h.verCtr.put b.slot b.ctr else h.verCtr
    queue := h.queue ++ [{ port := b.port, mbox := b.mbox, order := b.order, block := b.bytes, verAt := h.verCount
                           keyed := b.mac }]
    verCount := h.verCount + 1 }) s
  if b.mac && s.red.st = .holder && s.red.mirComplete && s.red.peerUp then peerPump (peerSend (.counter b.slot b.ctr) s1)
  else s1

/-- Blocks of commands that a standby answers itself: HST_, FLT_, REC_, RED_, BCH_, MEM_ (R387). -/
def standbyBlocks : List Nat := [0x03, 0x04, 0x0D, 0x0E, 0x12, 0x13]

/-- A block that a device which is not in control passes on to the holder; a device in crucible runs by itself (R387, R481,
log entry 34). -/
def State.passesOn (s : State) (b : Block) : Bool :=
  b.port ≠ .peer && !s.drives && !s.sys.crucible && !standbyBlocks.contains (b.op / 256)

/-- A block leaves in FORWARD, or with PEER not live is answered NOT_HOLDER (R387). -/
def forwardBlock (b : Block) (s : State) : State :=
  if s.red.peerUp then
    peerPump (peerSend (.forward b.mbox b.bytes) (setRed (fun r => { r with fwd := r.fwd ++ [(portCode b.port, b.mbox)] }) s))
  else answer b 0x21 s

/-- What the verification of one block comes to. -/
def verifyBlock (b : Block) (s : State) : State :=
  if s.passesOn b then forwardBlock b s
  else match (checks b s).find? (·.1) with
    | some (_, status, k, counts) => rejectBlock b status k counts s
    | none => acceptBlock b s

/-- COMMAND_VERIFIED (R466). -/
def execCommandVerified (s : State) : Out :=
  match s.nextBlock with
  | none => .next s
  | some b => whenTime true s fun s => ibrSettle (verifyBlock b (takeBlock b s))

/-- LOCKOUT_END: at the boundary that ends the last frame of a lockout (R471). -/
def execLockoutEnd (port : PortId) (s : State) : Out :=
  let a := s.hst.auth.get (portCode port)
  whenTime (s.tim.frameDue && a.lock.any fun n => decide (n ≤ 1)) s fun s =>
    ibrSettle (setHst (fun h => { h with auth := h.auth.modify (portCode port) fun a => { a with lock := none } }) s)

/-- AUTH_COUNT_RESTART: 65,536 frames without a rejection that counts (R471). -/
def execAuthCountRestart (port : PortId) (s : State) : Out :=
  let a := s.hst.auth.get (portCode port)
  whenTime (s.tim.frameDue && decide (65536 ≤ a.since)) s fun s =>
    setHst (fun h => { h with auth := h.auth.modify (portCode port) fun a => { a with count := 0 } }) s

/-- Frames since the last counted rejection, and what is left of a lockout, over a frame boundary (R471). -/
def authFrame (s : State) : State :=
  let next := fun (_ : Nat) (a : AuthPort) =>
    { a with since := if a.count = 0 then 0 else min (a.since + 1) 131071
             lock := match a.lock with
               | some (n + 2) => some (n + 1)
               | _ => none }
  setHst (fun h => { h with auth := tabMap next h.auth }) s

/-- The opcodes whose replies wait for MRAM reads (Table 17.3). -/
def readOps : List Nat := [0x0A05, 0x0C03, 0x0D09]

/-- DEFERRED_MRAM_READ_COMPLETE: the reply of a mailbox's query is written (R480). -/
def execDeferredMramReadComplete (mbox : Nat) (s : State) : Out :=
  match s.hst.deferred.find? fun d => d.mbox = mbox && readOps.contains d.opcode with
  | none => .next s
  | some d => whenTime true s fun s =>
    let s1 := setHst (fun h => { h with defData := h.defData.put mbox [] }) s
    let s2 := finishDeferred mbox d.opcode 0 (s.hst.defData.get mbox) s1
    ibrSettle (if d.port = .peer then peerPump s2 else s2)

/-- LOP_ENABLE written: a loop-enable command of the writing port, which a device not in control does not take (R64, R387,
R559, log entry 34). -/
def queueLop (p : Nat) (v : Word) (s : State) : State :=
  if !s.drives && !s.sys.crucible && s.timeRuns then s
  else setHst (fun h => { h with
    queue := h.queue ++ [{ port := if p = 0 then .mgt else .fhp, mbox := 2 * p, order := h.ring, verAt := h.verCount
                           isReg := true, regVal := v.toNat }]
    verCount := h.verCount + 1, ring := h.ring + 1 }) s

/-- LOP_ENABLE_WRITE (R559). -/
def execLopEnableWrite (port : PortId) (value : Word) (s : State) : Out := whenPort port s fun p => queueLop p value

end Sys2Proof.Machine
end

