-- ==== Sys2Proof/Machine/Access.lean ====
section
/-! DEFINITION. Accesses of the two host ports: selection registers, register writes, windows, views, MGT transactions and FHP
frames (chapters 16 and 22). Every byte that a port returns stands in its out field. -/
namespace Sys2Proof.Machine

/-! ### Selection registers (R556, Table 22.11) -/

/-- A domain's context in the field order of Table 7.3; its bits in LEH_DOM_DATA are not placed (log entry 8). -/
def State.domFields (s : State) (d : Nat) : List Int :=
  let g := s.cfg.doms.get d
  let x := s.leh.cur.doms.get d
  [(b2n g.present : Nat), (g.slot : Nat), (g.node : Nat), (g.number : Nat), (b2n g.essential : Nat), (x.prio : Nat), g.floor,
   x.ceiling, (x.weight : Nat), (g.drawPt : Nat), x.request, x.pin.getD 0, (b2n x.pin.isSome : Nat), (domCode x.st : Nat),
   x.target, x.grant, x.gHi, (x.hiUntil : Nat), (x.waited : Nat), (b2n x.shed : Nat)]

/-- LEH_DOM_DATA0 to 7 of a domain; zeros where the number names none. -/
def State.domWords (s : State) (d : Nat) : List Word :=
  if d < 512 then (List.range 8).map fun k => Config.regLayout (0x2434 + 4 * k) (s.domFields d) else []

/-- Code of a trip cause (Table 22.11). -/
def causeCode : Option TripCause → Nat
  | none => 0
  | some .timer => 1
  | some .breaker => 2

/-- HSW_CH_DATA0 to 3 of a channel (Table 22.11). -/
def State.chWords (s : State) (c : Nat) : List Word :=
  let g := s.cfg.chans.get c
  let x := s.chan c
  let f := s.tim.frame
  let left := match x.cool with
    | some e => e + 1 - f
    | none => 0
  if c < 54 then
    [pack [(0, chCode x.st), (3, b2n x.limitRep), (4, b2n x.pg), (5, b2n x.pending), (6, b2n (x.cooling f)), (7, b2n x.guard),
       (8, causeCode x.latched), (16, s.effCode c), (24, s.confCode c)],
     wordN (x.timer8 / 8000),
     pack [(0, x.enforce.getD 0), (8, x.shed.getD 0), (16, limCode g.limStart g.rSense),
       (24, limCode ((x.limRun.map Int.ofNat).getD g.limRun) g.rSense)],
     wordN left]
  else []

/-- Ticks from the last boundary to one that lies ahead; all ones where there is none. -/
def State.ticksTo (s : State) (at0 : Option Nat) : Word :=
  match at0 with
  | some n => wordN (min (n - s.absTick) 0xFFFFFFFE)
  | none => BitVec.allOnes 32

/-- SEQ_RAIL_DATA0 to 3 of a rail (Table 22.11). -/
def State.railWords (s : State) (i : Nat) : List Word :=
  let g := s.cfg.rails.get i
  let x := s.rail i
  if s.railUsed i then
    [pack [(0, g.kind % 4), (2, g.group), (8, g.position), (16, b2n x.placed), (17, b2n x.up), (18, b2n x.off),
       (19, b2n x.failed), (20, x.retries), (28, s.railState i)],
     s.ticksTo x.edge, s.ticksTo x.deadline, wordN x.inWin]
  else []

/-- TIE_MARKER_DATA0 to 2 of a port: its last MARKER_DATA (R411). -/
def State.markerWords (s : State) (p : Nat) : List Word :=
  if p < 2 then (List.range 3).map fun k => wordN (field (s.tie.ports.get p).markerData (4 * k) 4) else []

/-- PNT_NODE_DATA0 to 3 of a cane node; their bits are not placed (R441, log entry 8). -/
def State.nodeWords (s : State) (n : Nat) : List Word :=
  let g := s.cfg.nodes.get n
  let x := s.pnt.nodes.get n
  let l : List Int := [(g.port : Nat), (g.position : Nat), (leNat x.ident : Nat), (b2n x.joined : Nat), (x.rxNext : Nat),
    (x.txNext : Nat), (x.retries : Nat)]
  if n < 64 then (List.range 4).map fun k => Config.regLayout (0x400C + 4 * k) l else []

/-- PMB_PORT_DATA0 to 3 of a PMBus port; their bits are not placed (R441, log entry 8). -/
def State.pmbWords (s : State) (p : Nat) : List Word :=
  let x := s.pmb.ports.get p
  let l : List Int := [(b2n x.hung : Nat), (x.count : Nat), (x.errors : Nat), (x.pollq.length : Nat)]
  if p < 8 then (List.range 4).map fun k => Config.regLayout (0x4404 + 4 * k) l else []

/-- A selection register is written: the object's data are captured for the port (R555, R556). -/
def selectDom (p v : Nat) (s : State) : State := setPort p (fun h => { h with domSel := v, domData := s.domWords v }) s
/-- HSW_CH_SEL. -/
def selectCh (p v : Nat) (s : State) : State := setPort p (fun h => { h with chSel := v, chData := s.chWords v }) s
/-- SEQ_RAIL_SEL. -/
def selectRail (p v : Nat) (s : State) : State := setPort p (fun h => { h with railSel := v, railData := s.railWords v }) s
/-- TIE_MARKER_SEL. -/
def selectTie (p v : Nat) (s : State) : State := setPort p (fun h => { h with tieSel := v, tieData := s.markerWords v }) s
/-- PNT_NODE_SEL. -/
def selectNode (p v : Nat) (s : State) : State := setPort p (fun h => { h with nodeSel := v, nodeData := s.nodeWords v }) s
/-- PMB_PORT_SEL. -/
def selectPmb (p v : Nat) (s : State) : State := setPort p (fun h => { h with pmbSel := v, pmbData := s.pmbWords v }) s
/-- FLT_REACT_SEL: the entry block x 32 + kind in bits [9:0]. -/
def selectReact (p v : Nat) (s : State) : State :=
  let e := v % 1024
  setPort p (fun h => { h with
    reactSel := e, reactData := (reactionOf s.flt.live s.flt.react (e / 32) (e % 32)).toNat }) s
/-- HST_KEY_SEL: the slot's last accepted counter (R470). -/
def selectKey (p v : Nat) (s : State) : State :=
  setPort p (fun h => { h with keySel := v, keyCtr := if v < 4 then s.hst.accCtr.get v else 0 }) s

/-! ### Writes (R443, R447, R459, R557 to R559) -/

/-- Word offsets of the registers that a write can change (Tables 22.4 to 22.7). -/
def isWritable (a : Nat) : Bool :=
  [0x0400, 0x0C00, 0x0C04, 0x0C08, 0x0C0C, 0x0C10, 0x0C14, 0x0C18, 0x0C20, 0x1018, 0x1020, 0x1024, 0x1028, 0x102C, 0x1484,
   0x1800, 0x2430, 0x2818, 0x2820, 0x2C08, 0x2C0C, 0x2C1C, 0x302C, 0x3404, 0x3408, 0x3C0C, 0x4000, 0x4008, 0x4400].contains a
    || decide (0x1424 ≤ a ∧ a < 0x1484)

/-- W1C, W1S and WO words: unwritten bytes count as 0 (R447). -/
def fillsZero (a : Nat) : Bool :=
  [0x0400, 0x0C00, 0x0C04, 0x1024, 0x1028, 0x2818, 0x2C08, 0x2C0C].contains a || decide (0x1424 ≤ a ∧ a < 0x1444)

/-- HST_MB_STATUS written: ones clear reply_ready and busy_ring of the port's two mailboxes (R461). -/
def writeStatus (p : Nat) (v : Word) (s : State) : State :=
  (List.range 2).foldl (fun s k =>
    let s1 := if bvGet v (8 * k + 2) then clearReady (2 * p + k) s else s
    if bvGet v (8 * k + 3) then clearBusyRing (2 * p + k) s1 else s1) s

/-- HST_MB_DOORBELL written; of two doorbells the normal one counts as first (R460). -/
def writeDoorbell (p : Nat) (v : Word) (s : State) : State :=
  let s1 := if bvGet v 0 then doorbell (2 * p) s else s
  if bvGet v 1 then doorbell (2 * p + 1) s1 else s1

/-- The bits of a register that hold what is written; its reserved bits read 0 and ignore writes (R9). An enable register has the
bits of its causes (Table 12.5, R344, R463), BAT_LEVEL_EN five bits a string (R251), HST_FHP_CFG crc_en alone. A selection register
whose field the spec does not place has the bits that number its objects (DEDUCED, log entry 8). -/
def fieldMask (a : Nat) : Word :=
  match a with
  | 0x0C14 => 0x00003F3F
  | 0x0C18 => 0x00000001
  | 0x0C20 => 0x00000003
  | 0x1018 => 0x000FFFFF
  | 0x1020 => 0x00003F3F
  | 0x102C => 0x000003FF
  | 0x1484 => 0x0000000F
  | 0x2430 => 0x000001FF
  | 0x2820 => 0x3FFFFFFF
  | 0x2C1C => 0x0000003F
  | 0x302C => 0x00000FFF
  | 0x3C0C => 0x00000001
  | 0x4008 => 0x0000003F
  | 0x4400 => 0x00000007
  | _ => 0xFFFFFFFF

/-- The whole word written to a register of a port; LK registers only while SYS_LOCK is clear (R557). -/
def regWrite (p a : Nat) (w : Word) (s : State) : State :=
  let v := w &&& fieldMask a
  let n := v.toNat
  let lk := fun f : State → State => if s.sys.lock then s else f s
  if 0x1424 ≤ a ∧ a < 0x1444 then clearWmEvents ((a - 0x1424) / 4) v s
  else if 0x1444 ≤ a ∧ a < 0x1484 then lk (setMsr fun m => { m with intEn := m.intEn.put ((a - 0x1444) / 4) v })
  else match a with
  | 0x0400 => { s with sys := { s.sys with lock := s.sys.lock || bvGet v 0 } }
  | 0x0C00 => writeDoorbell p v s
  | 0x0C04 => writeStatus p v s
  | 0x0C08 => lk (setHst fun h => { h with thd := n % 256 })
  | 0x0C0C => lk (setHst fun h => { h with tsu := n % 256 })
  | 0x0C10 => lk (setHst fun h => { h with glitch := min (n % 128) 100 })
  | 0x0C14 => lk (setHst fun h => { h with ibrEn := v })
  | 0x0C18 => lk (setHst fun h => { h with fhpCfg := v, crcEn := bvGet v 0 })
  | 0x0C20 => selectKey p n s
  | 0x1018 => lk fun s => { s with flt := { s.flt with mask := v } }
  | 0x1020 => lk fun s => { s with flt := { s.flt with alertEn := v } }
  | 0x1024 => clearNma v s
  | 0x1028 => clearErr v s
  | 0x102C => selectReact p n s
  | 0x1484 => setPort p (fun h => { h with capSel := n }) s
  | 0x1800 => queueLop p v s
  | 0x2430 => selectDom p n s
  | 0x2818 => clearLevels v s
  | 0x2820 => lk fun s => { s with bat := { s.bat with levelEn := v } }
  | 0x2C08 => clearTrips 0 v s
  | 0x2C0C => clearTrips 1 v s
  | 0x2C1C => selectCh p n s
  | 0x302C => selectRail p n s
  | 0x3404 => setRec (fun r => { r with openCur := r.openCur.put p n }) s
  | 0x3408 => if s.sessionOpen p then setRec (fun r => { r with sealedCur := r.sealedCur.put p n }) s else s
  | 0x3C0C => selectTie p n s
  | 0x4000 => { s with pnt := { s.pnt with peekBase := s.pnt.peekBase.put p (n % 262144 / 256 * 256) } }
  | 0x4008 => selectNode p n s
  | 0x4400 => selectPmb p n s
  | _ => s

/-- First FHP address of the point shadow view (Table 22.2). -/
def shadowView : Nat := 0x1000000
/-- First FHP address of the host scratch view. -/
def scratchView : Nat := 0x2000000
/-- First FHP address of the host non-volatile view. -/
def nvView : Nat := 0x3000000
/-- An address of the point shadow view. -/
def inShadow (a : Nat) : Bool := decide (shadowView ≤ a ∧ a < 0x1400000)
/-- An address of the host scratch view. -/
def inScratch (a : Nat) : Bool := decide (scratchView ≤ a ∧ a < 0x2300000)
/-- An address of the host non-volatile view. -/
def inNv (a : Nat) : Bool := decide (nvView ≤ a ∧ a < 0x3800000)

/-- A byte write that is discarded with the error bit of R458: no writable register, no command window, no view that takes
writes, or a non-volatile write after PFI (R456, R549 to R551). -/
def State.writeFails (s : State) (a : Nat) : Bool :=
  if a < 0x5000 then !isWritable (a / 4 * 4)
  else if 0x8000 ≤ a ∧ a < 0x9000 then false
  else if inScratch a then false
  else if inNv a then s.pin.pfiSeen
  else true

/-- The byte last written to an address by a list of byte writes. -/
def lastByte (l : List (Nat × Byte)) (a : Nat) : Option Byte := (l.reverse.find? (·.1 = a)).map (·.2)

/-- One word of the register space written in part or whole by a transaction (R447). -/
def writeWord (p : Nat) (l : List (Nat × Byte)) (a : Nat) (s : State) : State :=
  let old := leBytes 4 (if fillsZero a then 0 else (regLive p a s).toNat)
  let new := (List.range 4).map fun k => (lastByte l (a + k)).getD (nth old k)
  regWrite p a (wordN (leNat new)) s

/-- One byte written to a window or view. -/
def writeByte (p a : Nat) (b : Byte) (s : State) : State :=
  if 0x8000 ≤ a ∧ a < 0x9000 then
    let m := (a - 0x8000) / 0x400
    if m / 2 = p then setMbox m (fun x => { x with cmd := x.cmd.put (a % 0x400) b }) s else s
  else if inScratch a then setMem (scratchPut (a - scratchView) b) s
  else if inNv a && !s.pin.pfiSeen then setMem (fun x => { x with nvPend := x.nvPend ++ [(a - nvView, b)], nvBusy := true }) s
  else s

/-- Words of 64 bits that a list of byte offsets covers whole: writing one ends what made it uncorrectable. -/
def wholeWords (offs : List Nat) (bad : List Nat) : List Nat :=
  bad.filter fun w => !(List.range 8).all fun k => offs.contains (8 * w + k)

/-- The bytes of one write transaction or frame take effect: registers word by word with SYS_LOCK last, windows and views byte
by byte (R443, R447, R557). -/
def spaceWrite (p : Nat) (l : List (Nat × Byte)) (s : State) : State :=
  let words := (l.filter fun w => decide (w.1 < 0x5000)).foldl (fun (ws : List Nat) w =>
    let a := w.1 / 4 * 4
    if ws.contains a || !isWritable a then ws else ws ++ [a]) []
  let s1 := (words.filter (· ≠ 0x0400)).foldl (fun s a => writeWord p l a s) s
  let s2 := if words.contains 0x0400 then writeWord p l 0x0400 s1 else s1
  let s3 := l.foldl (fun s w => writeByte p w.1 w.2 s) s2
  let offs := (l.filter fun w => inScratch w.1).map fun w => w.1 - scratchView
  if offs.isEmpty then s3 else setMem (fun x => { x with scratchBad := wholeWords offs x.scratchBad }) s3

/-! ### Reads (R446, R459, R549 to R551, R554) -/

/-- The 16 bytes of a point's shadow entry (Table 15.1); a point of type NONE reads zero, and one that has never been sampled
has the age of logical time (log entry 34). -/
def State.entryBytes (s : State) (id : Nat) : List Byte :=
  let ty := ptType s.cfg id
  let p := s.pnt.shadow.get id
  let lost := decide (4096 ≤ id) && !(s.pnt.nodes.get (id / 4096)).joined
  if ty = 0 || !s.timeRuns then List.replicate 16 0
  else leInt 4 p.value ++ leInt 4 p.maxv ++ leInt 4 p.minv ++ leBytes 2 (s.ptAge id) ++
    leBytes 1 (b2n p.stale + 2 * b2n p.saturated + 4 * b2n p.invalid + 8 * b2n lost) ++ leBytes 1 ty

/-- A byte of a log's window for a port (R319, R320). -/
def State.logByte (s : State) (log p off : Nat) : Byte :=
  let r := s.recd.log log
  let i := s.cursor log p + off / 64
  if s.timeRuns && (log = 1 || s.sessionOpen p) && decide (i < r.count log) then
    nth (r.slots.get (r.slotFor log i)).bytes (off % 64)
  else 0

/-- Point ID of an address in the peek window of a port (R415). -/
def State.peekId (s : State) (p a : Nat) : Nat := (s.pnt.peekBase.get p + (a - 0xC000) / 16) % 262144

/-- Place of a port's capture of a peek entry. -/
def State.peekKey (s : State) (p a : Nat) : Nat := p * 262144 + s.peekId p a

/-- A read of bytes 0 to 3 of a peek entry captures bytes 4 to 15 (R415). -/
def peekCapture (p a : Nat) (s : State) : State :=
  if 0xC000 ≤ a ∧ a < 0xD000 ∧ a % 16 < 4 then
    { s with pnt := { s.pnt with held := s.pnt.held.put (s.peekKey p a) ((s.entryBytes (s.peekId p a)).drop 4) } }
  else s

/-- A byte at an address of the register space above the registers, as a port reads it (Table 22.1). -/
def State.windowByte (s : State) (p a : Nat) : Byte :=
  if 0x8000 ≤ a ∧ a < 0x9000 then
    let m := (a - 0x8000) / 0x400
    if m / 2 = p then (s.hst.mboxes.get m).cmd.get (a % 0x400) else 0
  else if 0x9000 ≤ a ∧ a < 0xA000 then
    let m := (a - 0x9000) / 0x400
    if m / 2 = p then nth (s.hst.mboxes.get m).reply (a % 0x400) else 0
  else if 0xA000 ≤ a ∧ a < 0xB000 then s.logByte 1 p (a - 0xA000)
  else if 0xB000 ≤ a ∧ a < 0xC000 then s.logByte 0 p (a - 0xB000)
  else if 0xC000 ≤ a ∧ a < 0xD000 then
    let live := s.entryBytes (s.peekId p a)
    let held := s.pnt.held.get (s.peekKey p a)
    if a % 16 < 4 || held.isEmpty then nth live (a % 16) else nth held (a % 16 - 4)
  else 0

/-- A run of bytes read by one transaction from an address on, wrapping at the end of the space: each word is captured at the
first of its bytes that the transaction reads (R446, R554). -/
def readRun (p : Nat) : Nat → Nat → Option (Nat × Word) → State → List Byte × State
  | 0, _, _, s => ([], s)
  | n + 1, a, cap, s =>
    if a < 0x5000 then
      let wa := a / 4 * 4
      let fresh := (regValue p wa s, regCaptured p wa s)
      let (w, s1) := match cap with
        | some (b, w) => if b = wa then (w, s) else fresh
        | none => fresh
      let (l, t) := readRun p n ((a + 1) % 65536) (some (wa, w)) s1
      (nth (leBytes 4 w.toNat) (a % 4) :: l, t)
    else
      let s1 := peekCapture p a s
      let (l, t) := readRun p n ((a + 1) % 65536) none s1
      (s1.windowByte p a :: l, t)

/-- A port's read returns the bytes of a run. -/
def readOut (p n a : Nat) (s : State) : State :=
  let (l, t) := readRun p n a none s
  setPort p (fun h => { h with out := l }) t

/-! ### The rows of single accesses -/

/-- A read of one register by a port. -/
def readReg (port : PortId) (a : Nat) (s : State) : Out := whenPort port s fun p => readOut p 4 a

/-- TIM_FRAME_LO_READ (R47). -/
def execTimFrameLoRead (port : PortId) (s : State) : Out := readReg port 0x0810 s
/-- TIM_CHASSIS_LO_READ (R55). -/
def execTimChassisLoRead (port : PortId) (s : State) : Out := readReg port 0x081C s
/-- TIM_SLACK_WORST_READ (R70). -/
def execTimSlackWorstRead (port : PortId) (s : State) : Out := readReg port 0x0828 s
/-- FLT_INT_OVF_READ (R344). -/
def execFltIntOvfRead (port : PortId) (s : State) : Out := readReg port 0x1004 s
/-- FLT_INT_DATA3_READ (R344). -/
def execFltIntData3Read (port : PortId) (s : State) : Out := readReg port 0x1014 s
/-- MSR_CAP_OVF_READ (R98). -/
def execMsrCapOvfRead (port : PortId) (s : State) : Out := readReg port 0x1498 s
/-- MSR_CAP_DATA3_READ (R99). -/
def execMsrCapData3Read (port : PortId) (s : State) : Out := readReg port 0x1494 s

/-- PEEK_ENTRY_READ: bytes 0 to 3 of an entry of the window (R415). -/
def execPeekEntryRead (port : PortId) (entry : Nat) (s : State) : Out :=
  whenDue (decide (entry < 256)) s fun s =>
    if s.portsUp && port ≠ .peer then readOut (portCode port) 4 (0xC000 + 16 * entry) s else s

/-- A whole word written by one of the ports, whichever it is. -/
def writeReg (port : PortId) (a : Nat) (v : Word) (s : State) : Out := whenPort port s fun p => regWrite p a v

/-- SYS_LOCK_SET (R557). -/
def execSysLockSet (port : PortId) (s : State) : Out := writeReg port 0x0400 1 s
/-- FLT_ERR_CLEAR_WRITE (R346). -/
def execFltErrClearWrite (value : Word) (s : State) : Out := writeReg .mgt 0x1028 value s
/-- FLT_NMA_CAUSE_CLEAR (R346). -/
def execFltNmaCauseClear (mask : Word) (s : State) : Out := writeReg .mgt 0x1024 mask s
/-- WM_EVENT_CLEAR (R96). -/
def execWmEventClear (reg : Nat) (mask : Word) (s : State) : Out :=
  whenDue (s.portsUp && decide (reg < 8)) s fun s => ibrSettle (clearWmEvents reg mask s)
/-- BAT_LEVEL_EVENT_CLEAR (R251). -/
def execBatLevelEventClear (mask : Word) (s : State) : Out := writeReg .mgt 0x2818 mask s
/-- HSW_TRIP_EVENT_CLEAR (R283). -/
def execHswTripEventClear (reg : Nat) (mask : Word) (s : State) : Out :=
  whenDue (s.portsUp && decide (reg < 2)) s fun s => ibrSettle (clearTrips reg mask s)
/-- LEH_DOM_SEL_WRITE (R227, R556). -/
def execLehDomSelWrite (port : PortId) (value : Nat) (s : State) : Out := whenPort port s fun p => selectDom p value
/-- HSW_CH_SEL_WRITE (R283, R556). -/
def execHswChSelWrite (port : PortId) (value : Nat) (s : State) : Out := whenPort port s fun p => selectCh p value
/-- SEQ_RAIL_SEL_WRITE (R307, R556). -/
def execSeqRailSelWrite (port : PortId) (value : Nat) (s : State) : Out := whenPort port s fun p => selectRail p value
/-- TIE_MARKER_SEL_WRITE (R411, R556). -/
def execTieMarkerSelWrite (port : PortId) (value : Nat) (s : State) : Out := whenPort port s fun p => selectTie p value
/-- PNT_NODE_SEL_WRITE (R441, R556). -/
def execPntNodeSelWrite (port : PortId) (value : Nat) (s : State) : Out := whenPort port s fun p => selectNode p value
/-- PMB_PORT_SEL_WRITE (R441, R556). -/
def execPmbPortSelWrite (port : PortId) (value : Nat) (s : State) : Out := whenPort port s fun p => selectPmb p value
/-- FLT_REACT_SEL_WRITE (R368, R556). -/
def execFltReactSelWrite (port : PortId) (value : Nat) (s : State) : Out := whenPort port s fun p => selectReact p value
/-- HST_KEY_SEL_WRITE (R470, R556). -/
def execHstKeySelWrite (port : PortId) (value : Nat) (s : State) : Out := whenPort port s fun p => selectKey p value

/-- The byte writes of data that begins at an address and runs on upward. -/
def runOf (a : Nat) (data : List Byte) : List (Nat × Byte) := (List.range data.length).map fun k => (a + k, nth data k)

/-- An error in an FHP frame sets bit 1 of the STATUS byte (R458). -/
def fhpError (bad : Bool) (s : State) : State := if bad then setHst (fun h => { h with fhpErr := true }) s else s

/-- REGISTER_WRITE: bytes of the register space written by one transaction of a port (R443). -/
def execRegisterWrite (port : PortId) (addr : Nat) (data : List Byte) (s : State) : Out :=
  whenPort port s fun p s =>
    let l := (runOf addr data).filter fun w => decide (w.1 < 65536)
    fhpError (p = 1 && l.any fun w => s.writeFails w.1) (spaceWrite p l s)

/-! ### MGT (R444 to R452) -/

/-- A START: the timing registers take effect (R449). -/
def mgtStart (s : State) : State := setHst (fun h => { h with thdAct := h.thd, tsuAct := h.tsu, glitchAct := h.glitch }) s

/-- The pointer after a data byte of a write (R446). -/
def nextWrite (p : Nat) : Nat := p / 64 * 64 + (p + 1) % 64

/-- The byte writes of an MGT write from the pointer on, and the pointer after them. -/
def mgtBytes : Nat → List Byte → List (Nat × Byte) × Nat
  | p, [] => ([], p)
  | p, b :: r => let (l, q) := mgtBytes (nextWrite p) r; ((p, b) :: l, q)

/-- A transaction that addresses the device (R444, R452). -/
def mgtTurn (target : Nat) (s : State) (f : State → State) : Out :=
  whenDue (s.portsUp && target = s.hst.mgtAddr) s fun s =>
    ibrSettle (f (mgtStart (setHst (fun h => { h with addressed := true }) s)))

/-- MGT_WRITE_TRANSACTION (R446, R447). -/
def execMgtWriteTransaction (target : Nat) (bytes : List Byte) (s : State) : Out :=
  mgtTurn target s fun s =>
    match bytes with
    | hi :: lo :: data =>
      let (l, q) := mgtBytes (256 * hi.toNat + lo.toNat) data
      spaceWrite 0 l (setHst (fun h => { h with mgtPtr := q }) s)
    | _ => s

/-- A read of a number of bytes from the pointer, which advances past them (R446). -/
def mgtRead (n : Nat) (s : State) : State :=
  setHst (fun h => { h with mgtPtr := (h.mgtPtr + n) % 65536 }) (readOut 0 n s.hst.mgtPtr s)

/-- MGT_READ_TRANSACTION (R446). -/
def execMgtReadTransaction (target count : Nat) (s : State) : Out := mgtTurn target s (mgtRead count)

/-- MGT_START_STOP_ABANDON: the byte in progress counts for nothing; a repeated START in the acknowledge slot of a read byte
comes when the pointer has passed that byte (R450). -/
def execMgtStartStopAbandon (start ackSlot : Bool) (s : State) : Out :=
  whenDue s.portsUp s fun s =>
    let s1 := if start && ackSlot then ibrSettle (mgtRead 1 s) else s
    if start then mgtStart s1 else s1

/-- SDA_RELEASED (R451). -/
def execSdaReleased (s : State) : Out := whenDue s.portsUp s (raise kSdaReleased 0 0)

/-- IN_BAND_REQUEST: the first while the condition holds, or a repeat where no controller has addressed the device since; a
pulse that a controller cuts is made again (R452). -/
def execInBandRequest (cut : Bool) (s : State) : Out :=
  whenDue (s.portsUp && s.ibrCond && (!s.hst.ibrSent || !s.hst.addressed)) s fun s =>
    if cut then s else setHst (fun h => { h with ibrSent := true, addressed := false, ibrCount := inc32 h.ibrCount }) s

/-! ### FHP (R453 to R458) -/

/-- A frame begins: crc_en takes effect, and the STATUS byte starts to describe this frame (R457, R458). -/
def fhpStart (s : State) : State := setHst (fun h => { h with crcAct := h.crcEn, fhpCrc := false, fhpErr := false }) s

/-- A CRC failure: bit 0 of the STATUS byte, and FHP_CRC once per excursion (R457). -/
def fhpCrcFail (s : State) : State := raiseOnce kFhpCrc 1 0 (setHst (fun h => { h with fhpCrc := true }) s)

/-- The CRC check of a frame's bytes; a frame that passes it ends the excursion. -/
def fhpChecked (bytes : List Byte) (crc : Nat) (s : State) (bad good : State → State) : State :=
  if !s.hst.crcAct then good s
  else if crc16 bytes = crc then good (endOnce kFhpCrc 1 s)
  else bad (fhpCrcFail s)

/-- What a port returns. -/
def fhpOut (l : List Byte) (s : State) : State := setPort 1 (fun h => { h with out := l }) s

/-- FHP_WRITE (R456, R457). -/
def execFhpWrite (addr : Nat) (data : List Byte) (crc : Nat) (s : State) : Out :=
  whenPort .fhp s fun _ s0 =>
    let s := fhpStart s0
    if data.isEmpty || decide (4096 < data.length) then fhpError true s
    else fhpChecked (0x02 :: leBytes 4 addr ++ data) crc s id fun s =>
      let l := (runOf addr data).map fun w => (w.1 % 4294967296, w.2)
      fhpError (l.any fun w => s.writeFails w.1) (spaceWrite 1 l s)

/-- A byte of a view, or none where the view does not exist or the word is uncorrectable (R458, R550, R551). -/
def State.viewByte (s : State) (a : Nat) : Option Byte :=
  if inShadow a then some (nth (s.entryBytes ((a - shadowView) / 16)) (a % 16))
  else if inScratch a then
    let o := a - scratchView
    if s.mem.scratchBad.contains (o / 8) then none else some (s.mem.scratch.get o)
  else if inNv a then
    let o := a - nvView
    if s.mem.nvBad.contains (o / 8) then none else some (s.mem.nv.get o)
  else none

/-- A read that fails at an address: the error bit, HST_FHP_STATUS, and SRAM_UE for an uncorrectable word of host scratch
(R352, R458). -/
def readFails (a : Nat) (s : State) : State :=
  let s1 := fhpError true (setHst (fun h => { h with failAddr := a % 4294967296 }) s)
  let o := scratchBase + (a - scratchView)
  raiseIf (inScratch a) kSramUe (stripeMacro (stripeOf o) (stripeWord o)) 0 s1

/-- The data phase of a read: the sync byte and the data, 0xE7 from a failing byte on, and the CRC of the data, inverted where
a byte was replaced (R455, R457, R458). -/
def fhpData (addr length : Nat) (s : State) : State :=
  let n := if addr < 65536 then min length (65536 - addr) else 0
  let (regs, s1) := readRun 1 n addr none s
  let rest := (List.range (length - n)).map fun k => s1.viewByte ((addr + n + k) % 4294967296)
  let good := (rest.takeWhile Option.isSome).map fun b => b.getD 0
  let bad := length - n - good.length
  let data := regs ++ good ++ List.replicate bad 0xE7
  let crc := leBytes 2 (if 0 < bad then 65535 - crc16 data else crc16 data)
  if decide (0 < length) && data.length = bad then fhpOut [0xE7] (readFails addr s1)
  else
    let s2 := fhpOut (0x5A :: data ++ if s1.hst.crcAct then crc else []) s1
    if 0 < bad then readFails (addr + n + good.length) s2 else s2

/-- A read frame on one lane or four; cut before its sync byte it has no effect (R454, R455). -/
def fhpReadFrame (code : Byte) (addr length crc : Nat) (cut : Bool) (s : State) : Out :=
  whenPort .fhp s fun _ s0 =>
    if cut then s0
    else
      let s := fhpStart s0
      fhpChecked (code :: leBytes 4 addr ++ leBytes 2 length) crc s (fhpOut [0xE7]) fun s =>
        if length = 0 || decide (4096 < length) || (inNv addr && decide (256 < length)) then fhpOut [0xE7] (readFails addr s)
        else fhpData addr length s

/-- FHP_READ (R455). -/
def execFhpRead (addr length crc : Nat) (cut : Bool) (s : State) : Out := fhpReadFrame 0x0B addr length crc cut s

/-- FHP_QUAD_READ (R454). -/
def execFhpQuadRead (addr length crc : Nat) (cut : Bool) (s : State) : Out := fhpReadFrame 0x6B addr length crc cut s

/-- FHP_STATUS: the status byte of the frame before (R458). -/
def execFhpStatus (s : State) : Out :=
  whenPort .fhp s fun _ s =>
    let h := s.hst
    let b := b2n h.fhpCrc + 2 * b2n h.fhpErr + 4 * b2n s.alertLow + 8 * b2n s.mem.nvBusy
    fhpStart (fhpOut [BitVec.ofNat 8 b] s)

/-- FHP_INVALID_FRAME: ends inside a byte, or its instruction is not listed (R454). -/
def execFhpInvalidFrame (s : State) : Out := whenPort .fhp s fun _ s => fhpError true (fhpStart s)

/-- HOST_NV_WRITE_COMPLETE: the bytes stand in MRAM (R551). -/
def execHostNvWriteComplete (s : State) : Out :=
  whenDue (s.portsUp && s.mem.nvBusy) s fun s =>
    setMem (fun x => { nvWrite x.nvPend x with
      nvPend := [], nvBusy := false, nvBad := wholeWords (x.nvPend.map (·.1)) x.nvBad }) s

end Sys2Proof.Machine
end

