-- ==== Sys2Proof/Machine/Flight.lean ====
section
/-! DEFINITION. What the flight window records: the frame block, the tick entries and the items (Tables 11.6 to 11.8). -/
namespace Sys2Proof.Machine

/-- A list of numbers as int32 words. -/
def words32 (l : List Int) : List Byte := l.flatMap (leInt 4)

/-- Numbers padded with 0 to a count. -/
def fillI (n : Nat) (l : List Int) : List Int := (List.range n).map (nth l)

/-- A field whose inner places the spec does not give. -/
def packed (len field : Nat) (l : List Int) : List Byte := padTo len (Config.flightPack field l)

/-- Loop checkpoint, 136 bytes (Table 11.6). -/
def loopCheckpoint (x : Loop) : List Byte :=
  words32 (fillI 12 x.xh) ++ words32 (fillI 12 x.xhOld) ++ words32 (fillI 4 x.ua) ++
    leBytes 2 x.region ++ leBytes 2 (x.old.getD 0xFFFF) ++ leBytes 1 x.j ++
    packed 2 0 [x.ia, x.ib, modeCode x.mode, x.rset] ++
    (List.range 8).map (fun i => BitVec.ofNat 8 (nth x.counters i)) ++ List.replicate 9 0

/-- Stage checkpoint, 32 bytes (Table 11.6). -/
def stageCheckpoint (s : State) (st : Nat) : List Byte :=
  let x := s.stage st
  let mask := fun l : List Nat => l.foldl (fun n i => n + 2 ^ i) 0
  words32 [x.vSlew, x.vTarget * 1000, x.iSlew, x.iTarget * 1000] ++
    packed 1 1 [(x.st.ctorIdx : Int), modeCode x.mode] ++
    packed 4 2 [mask (s.activePhases st), mask (s.unmasked st)] ++
    packed 5 3 [((x.shedding.getD 255 : Nat) : Int), x.j, x.dwell] ++
    packed 1 4 [b2n x.abortLatch, b2n x.ovLatch] ++ List.replicate 5 0

/-- POINT sources of the loop inputs, in loop then input order. -/
def State.pointInputs (s : State) : List Nat :=
  (List.range 8).flatMap fun l => (s.cfg.loops.get l).inputs.filterMap fun e =>
    match e.src with
    | .point p => some p
    | _ => none

/-- The frame block but for the length in its first four bytes; the state as it stands when the evaluation of the inputs of the
frame's tick 0 begins (R326, Table 11.6). -/
def flightBlock (s : State) : List Byte :=
  leBytes 6 s.tim.frame ++ leBytes 1 s.cfg.tickPeriods ++ leBytes 1 (s.frameTicks - 1) ++ leBytes 8 s.tim.stamp ++
    padTo 16 s.bch.digest ++ leBytes 8 s.mem.degraded.toNat ++
    leBytes 1 s.shr.hold.st.ctorIdx ++ leBytes 1 s.tim.gen.ctorIdx ++ leBytes 1 (b2n s.eng.overrun) ++ List.replicate 17 0 ++
    (List.range 8).flatMap (fun l => loopCheckpoint (s.loop l)) ++
    (List.range 6).flatMap (stageCheckpoint s) ++
    words32 (fillI 64 (s.pointInputs.map s.lop.framePts.get)) ++
    words32 ((List.range 64).map fun ch => (s.msr.slow.get ch).value) ++ List.replicate 192 0

/-- A change of the frame that is being written. -/
def setRun (f : FlightFrame → FlightFrame) (s : State) : State :=
  { s with recd := { s.recd with runFrame := f s.recd.runFrame } }

/-- The frame block is taken. -/
def flightOpen (s : State) : State := setRun (fun x => { x with frame := s.tim.frame, block := flightBlock s }) s

/-- The flight channel set (R327). -/
def State.flightSet (s : State) : List Nat :=
  let b := s.cfg
  let fastOf := fun e : SrcEntry => match e.src with
    | .fast c => some c
    | _ => none
  let loops := (List.range 8).flatMap fun l => (b.loops.get l).inputs.filterMap fastOf
  let chan := fun id : Nat => if 0x080 ≤ id ∧ id ≤ 0x09F then [id - 0x080] else []
  let stages := ((List.range 6).filter s.stageUsed).flatMap fun st =>
    let c := b.stages.get st
    chan c.vSrc ++ chan c.iSrc
  let phases := ((List.range 24).filter fun i => s.stageUsed (s.stageOf i)).map fun i => (b.phases.get i).phaseChan
  (List.range 32).filter fun ch => (loops ++ stages ++ phases ++ b.flightChans).contains ch

/-- Slow channels that have a sample in the tick that ends, in scan order. -/
def State.slowFresh (s : State) : List Nat :=
  [0, 1].flatMap fun k => (s.cfg.scan.get k).filter fun ch => s.slowUsable k && (s.msr.slow.get ch).due.isSome

/-- The inputs of a tick entry, taken in when the samples of the ending tick have been (Table 11.7): the loops' bytes 4 to 19 and
the output check follow with the evaluation. `slow` names the slow channels that were sampled, `loss` tells of a capture loss. The
loops' flags are those found at the boundary that ends the entry's tick: they tell of the evaluation of the inputs of the tick
before, whose time that boundary ends (DESIGN CHOICE, log entry 49). -/
def tickEntryInputs (slow : List Nat) (loss : Bool) (s : State) : List Byte :=
  let two := fun (n : Nat) (f : Nat → Nat) => leBytes (n / 4) ((List.range n).foldl (fun v i => v + f i * 4 ^ i) 0)
  leBytes 1 s.tim.tick ++ leBytes 1 (b2n s.pin.pfi + 2 * b2n s.tim.lastTransition + 4 * b2n loss) ++
    two 8 (fun l => (s.loop l).flag) ++ List.replicate 16 0 ++
    two 128 (fun m => b2n (bvGet s.msr.uvS m) + 2 * b2n (bvGet s.msr.ovS m)) ++
    two 24 (fun i => b2n (s.phase i).clampAll + 2 * b2n (decide (0 < (s.phase i).limRep))) ++
    leBytes 1 ((List.range 6).foldl (fun v st => v + b2n (s.stage st).abortSampled * 2 ^ st) 0) ++
    leBytes 1 ((List.range 6).foldl (fun v st => v + b2n (s.stage st).ovLatch * 2 ^ st) 0) ++ List.replicate 4 0 ++
    words32 (s.flightSet.map fun ch => (s.msr.fast.get ch).value) ++ words32 (slow.map fun ch => (s.msr.slow.get ch).value)

/-- Two bytes of a loop in a tick entry (Table 11.7). -/
def Loop.tickWord (x : Loop) : Nat :=
  modeCode x.mode + 4 * x.rset + 32 * (x.ia + 4 * x.ib) + 512 * b2n x.blending + 1024 * b2n x.heldBack + 2048 * b2n x.stopped +
    4096 * b2n (!x.enabled)

/-- The evaluation of the tick's inputs completes its entry: the loops' words and the check over the applied outputs in evaluation
order, of the loops that were evaluated. -/
def tickEntryDone (s : State) : State :=
  let ran := loopOrder.filter fun l => (s.loop l).evaluated
  let crc := crc32c (ran.flatMap fun l => words32 (s.loop l).ua)
  let fin := fun e : List Byte =>
    slice e 0 4 ++ (List.range 8).flatMap (fun l => leBytes 2 (s.loop l).tickWord) ++ slice e 20 40 ++ leBytes 4 crc ++ e.drop 64
  setRun (fun x => match x.ticks.getLast? with
    | some e => { x with ticks := x.ticks.dropLast ++ [fin e] }
    | none => x) s

/-- One item with its header (Table 11.8). -/
def flightItem (typ : Nat) (tick : Option Nat) (data : List Byte) : List Byte :=
  leBytes 1 (typ + 128 * b2n tick.isNone) ++ leBytes 1 (tick.getD 255) ++ leBytes 2 data.length ++ data

/-- An item joins the frame that is being written. -/
def addItem (typ : Nat) (tick : Option Nat) (data : List Byte) (s : State) : State :=
  if data.isEmpty then s else setRun (fun x => { x with items := x.items ++ [flightItem typ tick data] }) s

/-- CAPTURE: the logical entries of the ending tick. -/
def captureItem (s : State) : State :=
  addItem 3 (some s.tim.tick) ((List.range 16).flatMap fun u => (s.msr.caps.get u).tick.flatMap CapEntry.bytes) s

/-- What CHANNEL shows of a channel (Table 11.8). -/
def channelReport (s : State) (c : Nat) : List Int :=
  let x := s.chan c
  let cause : Int := match x.latched with
    | some .timer => 1
    | some .breaker => 2
    | none => 0
  [c, b2n x.limitRep, b2n x.pgS, b2n x.tripSeen, cause, s.effCode c]

/-- CHANNEL: the channels whose reports differ from those before the boundary, and those that a shed step reached in the ending
tick. -/
def channelItem (before : State) (s : State) : State :=
  let shed := before.shr.hold.stepsToSample
  let l := s.chansUsed.filter fun c => channelReport before c ≠ channelReport s c || shed.contains c
  addItem 4 (some s.tim.tick) (l.flatMap fun c => packed 4 5 (channelReport s c)) s

/-- Points that an intake class names (R327): DEMAND counts as the domain's own point, its value as the request. -/
def State.intakePoints (s : State) (cls : Nat) : List (Nat × Int) :=
  let fresh := fun l : List Nat => (l.filter fun id => decide (0 < (s.pnt.acc.get id).n)).map fun id => (id, (s.pnt.acc.get id).last)
  let rails := (s.railsUsed.filter fun i => (s.cfg.rails.get i).kind = 2).map fun i => (s.cfg.rails.get i).statePt
  match cls with
  | 0 => (s.domsUsed.filter fun d => (s.leh.cur.doms.get d).demandNew).map fun d => (0xB00 + d, (s.leh.cur.doms.get d).request)
  | 1 => fresh (s.rectsUsed.flatMap fun r => [1, 2, 3, 6, 7].map (0x400 + 8 * r + ·))
  | 2 => fresh (((List.range 64).filter s.modUsed).flatMap fun m => (List.range 4).map (0x680 + 4 * m + ·))
  | 3 => fresh rails
  | 4 => fresh ((tabKeys s.pnt.acc).filter fun id => decide (4096 ≤ id) && !rails.contains id)
  | _ => []

/-- INTAKE: what the frame that ends took in, of the classes that the batch selects; one entry for each point, the last value
taken in (log entry 35). -/
def intakeItem (s : State) : State :=
  addItem 2 none ((s.cfg.flightIntake.flatMap s.intakePoints).flatMap fun p =>
    leBytes 4 (p.1 + 16777216 * ptType s.cfg p.1) ++ leInt 4 p.2) s

/-- Items in the order of their types. -/
def itemOrder (l : List (List Byte)) : List (List Byte) :=
  sortBy (fun a b => decide ((nth a 0).toNat % 128 < (nth b 0).toNat % 128)) l

/-- The frame that ends is whole and enters the ring; the COMMAND items of the frame that opens begin the next one (R326, R328). -/
def flightClose (s : State) : State :=
  let whole := fun x : FlightFrame =>
    let items := itemOrder x.items
    let n := ({ x with block := List.replicate 2048 0, items := items } : FlightFrame).size
    { x with block := leBytes 4 n ++ padTo 2044 x.block, items := items }
  let s1 := if s.sys.crucible || s.recd.runFrame.block.isEmpty then setRun (fun _ => {}) s else flightPush (setRun whole s)
  let s2 := setRun (fun x => { x with items := s1.recd.cmdItems }) s1
  { s2 with recd := { s2.recd with cmdItems := [] } }

end Sys2Proof.Machine
end

