-- ==== Sys2Proof/Machine/Begin.lean ====
section
/-! DEFINITION. The first half of a frame boundary (Table 2.7): the end of the frame, block resets (R343), results that take effect,
the new frame number; and a command that such a boundary takes (R61). -/
namespace Sys2Proof.Machine

/-! ### Block resets (R343, Table 12.4) -/

/-- Mailboxes of a port emptied, unverified blocks discarded; key counters stand. -/
def resetHst (p : Nat) (s : State) : State :=
  setMbox (2 * p + 1) (fun _ => {}) (setMbox (2 * p) (fun _ => {}) s)

/-- A capture unit's host FIFO emptied, or a slow converter's scan list restarted; a fast converter's slot table has no place of
its own to restart from. -/
def resetMsr (inst : Nat) (s : State) : State :=
  if 224 ≤ inst ∧ inst < 240 then
    setMsr (fun m => { m with caps := m.caps.modify (inst - 224) fun u => { u with fifo := [] } }) s
  else if 268 ≤ inst ∧ inst < 270 then
    setMsr (fun m => { m with scanPos := m.scanPos.put (inst - 268) 0, slowRun := m.slowRun.put (inst - 268) none }) s
  else s

/-- A loop restarts under R136; a stage that its STOP halted comes back with it. -/
def resetLop (l : Nat) (s : State) : State :=
  if l < 8 && (s.loop l).enabled then enableLoop l true (setLoop l (fun x => { x with stopped := true }) s) else s

/-- A stage goes through OFF and starts if enabled, one in OV_LATCHED stays; a phase's open count restarts. -/
def restartStg (inst : Nat) (s : State) : State :=
  if inst < 24 then setPhase inst (fun p => { p with openRun := 0 }) s
  else
    let st := inst - 24
    if !s.stageUsed st || (s.stage st).st = .ovLatched then s
    else
      let s1 := if (s.stage st).st = .off then s else quitStage st .off s
      if (s1.stage st).enabled && !s1.sys.pdShutSampled then startStage st s1 else s1

/-- A string goes to INIT with its cycle record kept; a module's readings are taken anew. -/
def resetBat (inst : Nat) (s : State) : State :=
  if 64 ≤ inst then setModule (inst - 64) (fun _ => {}) s
  else if s.strUsed inst then
    let fresh := freshString s inst
    setStrBoth inst (fun x => { fresh with cycles := x.cycles, disAcc := x.disAcc, fccMah := x.fccMah, relearn := x.relearn }) s
  else s

/-- The reset of one source instance. -/
def blockReset (block inst : Nat) (s : State) : State :=
  match block with
  | 0x03 => resetHst inst s
  | 0x05 => resetMsr inst s
  | 0x06 => if s.drives then resetLop inst s else s
  | 0x07 => if s.drives then restartStg inst s else s
  | 0x08 => if inst < 36 then setRectBoth inst (fun _ => {}) s else s
  | 0x09 => if inst < 512 then resetDom inst s else s
  | 0x0A => resetBat inst s
  | 0x0E => if inst = 0 then peerRestart s else s
  | 0x0F => if inst < 2 then resetTie inst s else s
  | 0x10 => resetPnt inst s
  | 0x11 => resetPmb (if inst < 16 then inst else (inst - 16) / 16) s
  | _ => s

/-- The block resets that are due at the boundary that ends frame f. -/
def blockResets (f : Nat) (s : State) : State :=
  let due := s.flt.blockDue.filter fun d => decide (d.2.2 ≤ f)
  due.foldl (fun s d => blockReset d.1 d.2.1 s)
    { s with flt := { s.flt with blockDue := s.flt.blockDue.filter fun d => !decide (d.2.2 ≤ f) } }

/-! ### The end of a frame -/

/-- Frame engines in the order of Table 1.5's IDs, with their flags (R75). -/
def lateEngines (s : State) : List Nat :=
  let e := s.eng
  let l := [(e.marver, 0x08), (e.lehr, 0x09), (e.estimator, 0x0A), (e.sequencer, 0x0C), (e.tie, 0x0F)]
  (if e.started then (l.filter fun p => !p.1).map (·.2) else []) ++
    (if s.recd.flushing && !s.recd.paused && decide (0 < s.recd.writesDue) then [0x0D] else [])

/-- A message whose dispatch is not complete at the boundary that ends the frame after its own (R341). -/
def State.dispatchLate (s : State) : Bool :=
  (s.flt.queue ++ s.flt.inflight).any fun m => m.frame + 1 = s.tim.frame

/-- What the end of the running frame reports: slack, late engines and dispatches, a denied test instruction (R71, R75, R341,
R366). -/
def endMessages (s : State) : State :=
  let low := s.tim.slackCur.any fun v => decide (v < s.cfg.slackMargin)
  let s1 := raiseIf (low && !s.tim.slackWasLow) kSlackLow s.tim.slackLoop 0 s
  let s2 := (lateEngines s).foldl (fun s b => raise kFrameOverrun 0 b s) s1
  let s3 := raiseIf s.dispatchLate kFrameOverrun 0 0x04 s2
  let s4 := raiseIf s.mem.testDenied kTestAccessDenied 73 0 (setMem (fun m => { m with testDenied := false }) s3)
  setTim (fun t => { t with
    slackMin := t.slackCur.getD t.slackMin, slackWasLow := if t.slackCur.isSome then low else t.slackWasLow, slackCur := none }) s4

/-- The chip's own points of the frame (Table 15.2): life-cycle state, minimum slack, FLT_LOST, punty state. -/
def chipPoints (s : State) : State :=
  let s1 := sampleAll [(0x000, ((lifeCode s.otp.lifecycle : Nat) : Int)), (0x002, (s.flt.lost : Int)),
    (0x003, ((puntyCode s.red.st : Nat) : Int))] s
  match s.tim.slackCur with
  | some v => sample 0x001 v s1
  | none => s1

/-- Every sampled point takes its frame value or grows older (R87); one that has only been flagged takes its flags. -/
def closePoints (s : State) : State :=
  let p := s.pnt
  let aged := tabMap (fun id x => closePoint s.cfg id (p.acc.get id) x) p.shadow
  let only := (tabKeys p.acc).filter fun id => (p.acc.get id).flagged && !(p.shadow.get id).sampled
  { s with pnt := { p with
      shadow := only.foldl (fun t id => t.put id (closePoint s.cfg id (p.acc.get id) (p.shadow.get id))) aged, acc := [] } }

/-- A STATE record for every point of the batch state list whose frame value changed (R309); the record belongs to the frame that
ends (log entry 35). -/
def stateRecords (s : State) : State :=
  let one := fun (s : State) (id : Nat) =>
    let old := s.recd.statePts.get id
    let new := s.pt id
    if old = new then s
    else
      let src := Config.stateSource id
      let r : Record := { typ := rtState, opened := true, block := src.1 % 64, inst := src.2 % 1024
                          body := trimZeros (leBytes 4 id ++ leInt 4 old ++ leInt 4 new) }
      let s1 := addRecord r s
      { s1 with recd := { s1.recd with statePts := s1.recd.statePts.put id new } }
  s.cfg.stateList.foldl one s

/-- The estimator's step carries the frame's current sums on where its work does not take them (Table 18.5, R75). -/
def batCarry (s : State) : State :=
  s.strsUsed.foldl (fun s n =>
    let a := s.pnt.acc.get (s.cfg.strings.get n).iPt
    setStrBoth n (fun x => { x with
      elapsed := x.elapsed + 1, sumF := a.sum, cntF := a.n, senseAny := x.senseAny || decide (0 < a.n)
      isum := if x.fast then x.isum + a.sum else x.isum, icnt := if x.fast then x.icnt + a.n else x.icnt }) s) s

/-- The work of frame f is closed: engines, points, records. -/
def closeFrame (s : State) : State :=
  let s1 := intakeItem (chipPoints (captureFrame s))
  let s2 := endMessages s1
  let s3 := if !s2.drives then batClose s2
    else if s2.eng.started && s2.eng.estimator then batClose (estimatorEnd s2)
    else batCarry s2
  let s4 := s3.pmbPorts.foldl (fun s p => pmbClose p s)
    (rectsClose (if s3.drives && s3.eng.started && s3.eng.marver then marverPoints s3 else s3))
  let s5 := takeRequests (stateRecords (closePoints s4))
  tryCommit (closeFrameRecords s5.tim.frame s5)

/-! ### Step 1 of Table 2.7 -/

/-- The results of the frame engines' work take effect; those of an engine that is late stand back (R69, R75). The boundary opens
frame f. -/
def applyResults (f : Nat) (s : State) : State :=
  let e := s.eng
  let s1 := if e.marver then holdupPmbus (rectWrites { s with shr := { s.shr with cur := s.shr.nxt } }) else s
  let s2 := if e.estimator then estimatorApply s1 else s1
  let s3 := if e.sequencer then sequencerApply s2 else s2
  let s4 := if e.lehr then loadShedOrder (lehrApply f s3) else s3
  shedReleaseFrame f s4

/-- Step 1: the ties, with the headroom of the frame before (R401), engine results, whole frames of the channels, guards, then the modes that follow from them. -/
def boundaryOne (f : Nat) (s : State) : State :=
  if !s.drives then guardsFrame s
  else
    let s1 := tieFrame (!s.eng.started || s.eng.tie) s
    let s2 := guardsFrame (chansFrame (if s.eng.started then applyResults f s1 else s1))
    if s2.bch.inPause then s2 else stageModes s2

/-! ### The frame number and what changes with it -/

/-- The frame number advances, never behind a RENEW that waits (R46, R376). -/
def openFrame (s : State) : State :=
  let f := max ((s.tim.frame + 1) % 281474976710656) (s.red.alignPend.getD 0)
  { s with
    tim := { s.tim with frame := f, tick := 0, frameDue := false, begun := true, taken := 0 }
    red := { s.red with alignPend := none } }

/-- The reaction table of the frame that ended governs its messages; a pause's end has kept the table before (R337). -/
def keepReactions (f : Nat) (s : State) : State :=
  if s.bch.pauseEnd then setBch (fun b => { b with pauseEnd := false }) s
  else shiftReactions f s

/-- The degraded-block set comes into effect; a change calls for the speed floor, and without a lane every loop stops (R139,
R140). -/
def degradedBoundary (s : State) : State :=
  let s1 := degradedStep s
  let s2 := if s1.mem.degraded ≠ s.mem.degraded && s1.batchLive then computeFloor s1 else s1
  if s2.lanes = 0 then (List.range 8).foldl (fun s l => stopLoop l s) s2 else s2

/-- The punty's transitions at the boundary that ended frame f, and the pulse of a holder (R373, Table 13.3). -/
def puntyBoundary (f : Nat) (s : State) : State :=
  let s1 := silenceFrame (holderFrame (claimEnds f s))
  if s1.red.st = .holder then setRed (fun r => { r with holdPull := true }) s1 else s1

/-! ### The first half of a frame boundary, and a command that it takes -/

/-- A frame boundary up to the commands that it takes (R69, Table 2.7): the frame that ends is closed, results take effect, the
frame number advances, so that what executes next has its acceptance frame (R61), and a freeze that is due lapses, ahead of the
commands (R569). The frame stamp follows the commands. Once the boundary is under way this changes nothing. -/
def beginBoundary (s0 : State) : State :=
  if s0.tim.begun then s0
  else
    let booted := s0.sys.bootStage = .finish
    let s := closeFrame (if booted then endOfBoot s0 else s0)
    if s.commandReset then coreReset 4 s
    else
      let f := s.tim.frame
      let s1 := openFrame (boundaryOne (f + 1) { s with eng := { s.eng with late := lateEngines s0 } })
      let s2 := blockResets f (degradedBoundary (authFrame (keepReactions f s1)))
      lapseFreeze 1 (lapseFreeze 0 (puntyBoundary f (if booted then endStarts s2 else s2)))

/-- A frame boundary is due or under way. -/
def State.atBoundary (s : State) : Bool := s.tim.frameDue || s.tim.begun

/-- FREEZE_LAPSED: the boundary that ends frame a + freeze_frames - 1, with which the freeze lapses (R323). -/
def execFreezeLapsed (log : Nat) (s : State) : Out :=
  let due := decide (log ≤ 1) && (s.recd.log log).frozenFrom.any fun a => decide (a + s.cfg.freezeFrames ≤ s.tim.frame + 1)
  whenCoreDue (s.tim.frameDue && !s.tim.begun && due) s beginBoundary

/-- The boundary under way takes a command: the core die runs, no service pause holds commands back, and fewer than 48 have been
taken (R61, R62, R494). -/
def State.takes (s : State) : Bool := s.coreUp && s.tim.begun && !s.bch.inPause && decide (s.tim.taken < 48)

/-- The header bytes of a command's block (Table 16.6). -/
def headerBytes (h : CmdHeader) (op len : Nat) : List Byte :=
  let flags := match h.key with
    | none => 0
    | some k => 1 + 2 * k
  leBytes 2 op ++ leBytes 2 flags ++ leBytes 2 len ++ leBytes 4 h.counter ++ List.replicate 6 0

/-- COMMAND: the header and payload of a command accepted at the frame's opening boundary; a chunk delivery gives its header
alone (Table 11.8). -/
def commandItem (header payload : List Byte) (op : Nat) : List Byte :=
  flightItem 1 none (header ++ if op = 0x1202 then [] else payload)

/-- A command's place among those of the boundary under way: it counts toward the 48, and the flight window takes it in. -/
def noteTaken (h : CmdHeader) (op : Nat) (payload : List Byte) (s : State) : State :=
  { s with tim := { s.tim with taken := s.tim.taken + 1 }
           recd := { s.recd with cmdItems := s.recd.cmdItems ++ [commandItem (headerBytes h op payload.length) payload op] } }

/-- A command of the catalogue as a step of its own: the boundary that is due begins with it, unless it is under way, and takes
the command, which executes in the frame that the boundary has opened and is answered (R61, R65). Away from a boundary no
command acts. -/
def acceptAlone (h : CmdHeader) (op : Nat) (payload : List Byte) (f : State → CmdOut) (s : State) : Out :=
  whenCoreDue s.atBoundary s fun s0 =>
    let s := keep s0 (beginBoundary s0)
    if s.takes then concludeCmd h op payload (executeCmd h op f (noteTaken h op payload s)) false else s

end Sys2Proof.Machine
end

