-- ==== Sys2Proof/Machine/Commands.lean ====
section
/-! DEFINITION. The rows of the command catalogue (Tables 17.4 to 17.6): each is the command's acceptance at a frame
boundary over the effect that its block's file gives it; and the same effects for the commands a frame boundary takes. -/
namespace Sys2Proof.Machine

/-- The effect of a catalogue command; the steps that are no command have none. -/
def runCmd (i : Instr) (s : State) : CmdOut :=
  match i with
  | .cmdChipIdent _ => cmdChipIdent s
  | .cmdSysReset _ => cmdSysReset s
  | .cmdSysLifecycle h target => cmdSysLifecycle h target s
  | .cmdSysKeyProgram h slot key => cmdSysKeyProgram h slot key s
  | .cmdSysRootProgram h root hash => cmdSysRootProgram h root hash s
  | .cmdChassisTimeSet _ seconds => cmdChassisTimeSet seconds s
  | .cmdHstNop _ payload => cmdHstNop payload s
  | .cmdFltReactionSet _ block kind reactions => cmdFltReactionSet block kind reactions s
  | .cmdFltLostClear _ => cmdFltLostClear s
  | .cmdPeakClear _ first count => cmdPeakClear first count s
  | .cmdWmSet _ mon mask lower upper hyst uv ov => cmdWmSet mon mask lower upper hyst uv ov s
  | .cmdLoopEnable _ changed value => cmdLoopEnable changed value s
  | .cmdLoopRestore _ loop => cmdLoopRestore loop s
  | .cmdStageEnable _ stage on => cmdStageEnable stage on s
  | .cmdStageModeSet _ stage mode => cmdStageModeSet stage mode s
  | .cmdStageRefSet _ stage target value => cmdStageRefSet stage target value s
  | .cmdStageOvClear _ stage => cmdStageOvClear stage s
  | .cmdPhaseUnmask _ phase => cmdPhaseUnmask phase s
  | .cmdRectParkSet _ rect setting => cmdRectParkSet rect setting s
  | .cmdRectReturn _ rect => cmdRectReturn rect s
  | .cmdShedRelease _ => cmdShedRelease s
  | .cmdDomainEnable _ dom on => cmdDomainEnable dom on s
  | .cmdDomainSet _ dom mask priority ceiling weight => cmdDomainSet dom mask priority ceiling weight s
  | .cmdGrantSet _ dom pin value => cmdGrantSet dom pin value s
  | .cmdLehrCapSet _ cap => cmdLehrCapSet cap s
  | .cmdBatSocSet _ string soc conf => cmdBatSocSet string soc conf s
  | .cmdBatRelearn _ string => cmdBatRelearn string s
  | .cmdBatCyclesSet _ string count => cmdBatCyclesSet string count s
  | .cmdBatZtableReset _ module => cmdBatZtableReset module s
  | .cmdBatZtableRead h module => cmdBatZtableRead h module s
  | .cmdHswSet _ chan on => cmdHswSet chan on s
  | .cmdHswToggle _ chan => cmdHswToggle chan s
  | .cmdHswLimitSet _ chan limit => cmdHswLimitSet chan limit s
  | .cmdHswFailClear _ chan => cmdHswFailClear chan s
  | .cmdSeqGroupSet _ group up => cmdSeqGroupSet group (b2n up) s
  | .cmdSeqClear _ group => cmdSeqClear group s
  | .cmdSeqLogRead h first => cmdSeqLogRead h first s
  | .cmdSeqLogClear _ => cmdSeqLogClear s
  | .cmdRecFlush _ => cmdRecFlush s
  | .cmdRecFreeze h log => cmdRecFreeze h log s
  | .cmdRecThaw h log => cmdRecThaw h log s
  | .cmdRecOpenClear h => cmdRecOpenClear h s
  | .cmdRecSealedOpen h => cmdRecSealedOpen h s
  | .cmdRecSealedClose h => cmdRecSealedClose h s
  | .cmdRecSealedClear h => cmdRecSealedClear h s
  | .cmdRecFlightTrigger _ => cmdRecFlightTrigger s
  | .cmdRecFlightRead h offset length => cmdRecFlightRead h offset length s
  | .cmdRecFlightRelease _ => cmdRecFlightRelease s
  | .cmdRecNote _ bytes => cmdRecNote bytes s
  | .cmdRedHandover _ => cmdRedHandover s
  | .cmdRedInhibit _ on => cmdRedInhibit on s
  | .cmdTieRequest _ port power => cmdTieRequest port power s
  | .cmdTieRelease _ port => cmdTieRelease port s
  | .cmdTiePortSet _ port mask values => cmdTiePortSet port mask values s
  | .cmdCanePortSet _ port on => cmdCanePortSet port on s
  | .cmdCaneNodeRetry _ port node => cmdCaneNodeRetry port node s
  | .cmdPmbRecover h port => cmdPmbRecover h port s
  | .cmdPmbTransact h port address kind code pec data => cmdPmbTransact h port address kind code pec data s
  | .cmdBchBegin _ version count digest => cmdBchBegin version count digest s
  | .cmdBchChunk h index piece crc data => cmdBchChunk h index piece crc data s
  | .cmdBchAbandon _ => cmdBchAbandon s
  | .cmdBchStatus _ => cmdBchStatus s
  | .cmdBchActivate h version digest => cmdBchActivate h version digest s
  | .cmdBchRootRevoke h root => cmdBchRootRevoke h root s
  | .cmdMemBistSlice h target => cmdMemBistSlice h target s
  | .cmdMemBistFull _ => cmdMemBistFull s
  | _ => done s

/-- CMD_CHIP_IDENT accepted at the frame boundary that is due or under way (R61, R477). -/
def execCmdChipIdent (h : CmdHeader) (s : State) : Out :=
  acceptAlone h 0x0001 (payloadOf (.cmdChipIdent h)) (cmdChipIdent) s

/-- CMD_SYS_RESET accepted at the frame boundary that is due or under way (R61, R477). -/
def execCmdSysReset (h : CmdHeader) (s : State) : Out :=
  acceptAlone h 0x0101 (payloadOf (.cmdSysReset h)) (cmdSysReset) s

/-- CMD_SYS_LIFECYCLE accepted at the frame boundary that is due or under way (R61, R477). -/
def execCmdSysLifecycle (h : CmdHeader) (target : Nat) (s : State) : Out :=
  acceptAlone h 0x0102 (payloadOf (.cmdSysLifecycle h target)) (cmdSysLifecycle h target) s

/-- CMD_SYS_KEY_PROGRAM accepted at the frame boundary that is due or under way (R61, R477). -/
def execCmdSysKeyProgram (h : CmdHeader) (slot : Nat) (key : List Byte) (s : State) : Out :=
  acceptAlone h 0x0103 (payloadOf (.cmdSysKeyProgram h slot key)) (cmdSysKeyProgram h slot key) s

/-- CMD_SYS_ROOT_PROGRAM accepted at the frame boundary that is due or under way (R61, R477). -/
def execCmdSysRootProgram (h : CmdHeader) (root : Nat) (hash : List Byte) (s : State) : Out :=
  acceptAlone h 0x0104 (payloadOf (.cmdSysRootProgram h root hash)) (cmdSysRootProgram h root hash) s

/-- CMD_CHASSIS_TIME_SET accepted at the frame boundary that is due or under way (R61, R477). -/
def execCmdChassisTimeSet (h : CmdHeader) (seconds : Nat) (s : State) : Out :=
  acceptAlone h 0x0201 (payloadOf (.cmdChassisTimeSet h seconds)) (cmdChassisTimeSet seconds) s

/-- CMD_HST_NOP accepted at the frame boundary that is due or under way (R61, R477). -/
def execCmdHstNop (h : CmdHeader) (payload : List Byte) (s : State) : Out :=
  acceptAlone h 0x0301 (payloadOf (.cmdHstNop h payload)) (cmdHstNop payload) s

/-- CMD_FLT_REACTION_SET accepted at the frame boundary that is due or under way (R61, R477). -/
def execCmdFltReactionSet (h : CmdHeader) (block : Nat) (kind : Nat) (reactions : Byte) (s : State) : Out :=
  acceptAlone h 0x0401 (payloadOf (.cmdFltReactionSet h block kind reactions)) (cmdFltReactionSet block kind reactions) s

/-- CMD_FLT_LOST_CLEAR accepted at the frame boundary that is due or under way (R61, R477). -/
def execCmdFltLostClear (h : CmdHeader) (s : State) : Out :=
  acceptAlone h 0x0402 (payloadOf (.cmdFltLostClear h)) (cmdFltLostClear) s

/-- CMD_PEAK_CLEAR accepted at the frame boundary that is due or under way (R61, R477). -/
def execCmdPeakClear (h : CmdHeader) (first : Nat) (count : Nat) (s : State) : Out :=
  acceptAlone h 0x0501 (payloadOf (.cmdPeakClear h first count)) (cmdPeakClear first count) s

/-- CMD_WM_SET accepted at the frame boundary that is due or under way (R61, R477). -/
def execCmdWmSet (h : CmdHeader) (mon : Nat) (mask : Byte) (lower : Nat) (upper : Nat) (hyst : Nat) (uv : Byte) (ov : Byte) (s : State) : Out :=
  acceptAlone h 0x0502 (payloadOf (.cmdWmSet h mon mask lower upper hyst uv ov)) (cmdWmSet mon mask lower upper hyst uv ov) s

/-- CMD_LOOP_ENABLE accepted at the frame boundary that is due or under way (R61, R477). -/
def execCmdLoopEnable (h : CmdHeader) (changed : BitVec 8) (value : BitVec 8) (s : State) : Out :=
  acceptAlone h 0x0601 (payloadOf (.cmdLoopEnable h changed value)) (cmdLoopEnable changed value) s

/-- CMD_LOOP_RESTORE accepted at the frame boundary that is due or under way (R61, R477). -/
def execCmdLoopRestore (h : CmdHeader) (loop : Nat) (s : State) : Out :=
  acceptAlone h 0x0602 (payloadOf (.cmdLoopRestore h loop)) (cmdLoopRestore loop) s

/-- CMD_STAGE_ENABLE accepted at the frame boundary that is due or under way (R61, R477). -/
def execCmdStageEnable (h : CmdHeader) (stage : Nat) (on : Bool) (s : State) : Out :=
  acceptAlone h 0x0701 (payloadOf (.cmdStageEnable h stage on)) (cmdStageEnable stage on) s

/-- CMD_STAGE_MODE_SET accepted at the frame boundary that is due or under way (R61, R477). -/
def execCmdStageModeSet (h : CmdHeader) (stage : Nat) (mode : Nat) (s : State) : Out :=
  acceptAlone h 0x0702 (payloadOf (.cmdStageModeSet h stage mode)) (cmdStageModeSet stage mode) s

/-- CMD_STAGE_REF_SET accepted at the frame boundary that is due or under way (R61, R477). -/
def execCmdStageRefSet (h : CmdHeader) (stage : Nat) (target : Nat) (value : Int) (s : State) : Out :=
  acceptAlone h 0x0703 (payloadOf (.cmdStageRefSet h stage target value)) (cmdStageRefSet stage target value) s

/-- CMD_STAGE_OV_CLEAR accepted at the frame boundary that is due or under way (R61, R477). -/
def execCmdStageOvClear (h : CmdHeader) (stage : Nat) (s : State) : Out :=
  acceptAlone h 0x0704 (payloadOf (.cmdStageOvClear h stage)) (cmdStageOvClear stage) s

/-- CMD_PHASE_UNMASK accepted at the frame boundary that is due or under way (R61, R477). -/
def execCmdPhaseUnmask (h : CmdHeader) (phase : Nat) (s : State) : Out :=
  acceptAlone h 0x0705 (payloadOf (.cmdPhaseUnmask h phase)) (cmdPhaseUnmask phase) s

/-- CMD_RECT_PARK_SET accepted at the frame boundary that is due or under way (R61, R477). -/
def execCmdRectParkSet (h : CmdHeader) (rect : Nat) (setting : Nat) (s : State) : Out :=
  acceptAlone h 0x0801 (payloadOf (.cmdRectParkSet h rect setting)) (cmdRectParkSet rect setting) s

/-- CMD_RECT_RETURN accepted at the frame boundary that is due or under way (R61, R477). -/
def execCmdRectReturn (h : CmdHeader) (rect : Nat) (s : State) : Out :=
  acceptAlone h 0x0802 (payloadOf (.cmdRectReturn h rect)) (cmdRectReturn rect) s

/-- CMD_SHED_RELEASE accepted at the frame boundary that is due or under way (R61, R477). -/
def execCmdShedRelease (h : CmdHeader) (s : State) : Out :=
  acceptAlone h 0x0803 (payloadOf (.cmdShedRelease h)) (cmdShedRelease) s

/-- CMD_DOMAIN_ENABLE accepted at the frame boundary that is due or under way (R61, R477). -/
def execCmdDomainEnable (h : CmdHeader) (dom : Nat) (on : Bool) (s : State) : Out :=
  acceptAlone h 0x0901 (payloadOf (.cmdDomainEnable h dom on)) (cmdDomainEnable dom on) s

/-- CMD_DOMAIN_SET accepted at the frame boundary that is due or under way (R61, R477). -/
def execCmdDomainSet (h : CmdHeader) (dom : Nat) (mask : Byte) (priority : Nat) (ceiling : Nat) (weight : Nat) (s : State) : Out :=
  acceptAlone h 0x0902 (payloadOf (.cmdDomainSet h dom mask priority ceiling weight)) (cmdDomainSet dom mask priority ceiling weight) s

/-- CMD_GRANT_SET accepted at the frame boundary that is due or under way (R61, R477). -/
def execCmdGrantSet (h : CmdHeader) (dom : Nat) (pin : Bool) (value : Nat) (s : State) : Out :=
  acceptAlone h 0x0903 (payloadOf (.cmdGrantSet h dom pin value)) (cmdGrantSet dom pin value) s

/-- CMD_LEHR_CAP_SET accepted at the frame boundary that is due or under way (R61, R477). -/
def execCmdLehrCapSet (h : CmdHeader) (cap : Nat) (s : State) : Out :=
  acceptAlone h 0x0904 (payloadOf (.cmdLehrCapSet h cap)) (cmdLehrCapSet cap) s

/-- CMD_BAT_SOC_SET accepted at the frame boundary that is due or under way (R61, R477). -/
def execCmdBatSocSet (h : CmdHeader) (string : Nat) (soc : Nat) (conf : Nat) (s : State) : Out :=
  acceptAlone h 0x0A01 (payloadOf (.cmdBatSocSet h string soc conf)) (cmdBatSocSet string soc conf) s

/-- CMD_BAT_RELEARN accepted at the frame boundary that is due or under way (R61, R477). -/
def execCmdBatRelearn (h : CmdHeader) (string : Nat) (s : State) : Out :=
  acceptAlone h 0x0A02 (payloadOf (.cmdBatRelearn h string)) (cmdBatRelearn string) s

/-- CMD_BAT_CYCLES_SET accepted at the frame boundary that is due or under way (R61, R477). -/
def execCmdBatCyclesSet (h : CmdHeader) (string : Nat) (count : Nat) (s : State) : Out :=
  acceptAlone h 0x0A03 (payloadOf (.cmdBatCyclesSet h string count)) (cmdBatCyclesSet string count) s

/-- CMD_BAT_ZTABLE_RESET accepted at the frame boundary that is due or under way (R61, R477). -/
def execCmdBatZtableReset (h : CmdHeader) (module : Nat) (s : State) : Out :=
  acceptAlone h 0x0A04 (payloadOf (.cmdBatZtableReset h module)) (cmdBatZtableReset module) s

/-- CMD_BAT_ZTABLE_READ accepted at the frame boundary that is due or under way (R61, R477). -/
def execCmdBatZtableRead (h : CmdHeader) (module : Nat) (s : State) : Out :=
  acceptAlone h 0x0A05 (payloadOf (.cmdBatZtableRead h module)) (cmdBatZtableRead h module) s

/-- CMD_HSW_SET accepted at the frame boundary that is due or under way (R61, R477). -/
def execCmdHswSet (h : CmdHeader) (chan : Nat) (on : Bool) (s : State) : Out :=
  acceptAlone h 0x0B01 (payloadOf (.cmdHswSet h chan on)) (cmdHswSet chan on) s

/-- CMD_HSW_TOGGLE accepted at the frame boundary that is due or under way (R61, R477). -/
def execCmdHswToggle (h : CmdHeader) (chan : Nat) (s : State) : Out :=
  acceptAlone h 0x0B02 (payloadOf (.cmdHswToggle h chan)) (cmdHswToggle chan) s

/-- CMD_HSW_LIMIT_SET accepted at the frame boundary that is due or under way (R61, R477). -/
def execCmdHswLimitSet (h : CmdHeader) (chan : Nat) (limit : Nat) (s : State) : Out :=
  acceptAlone h 0x0B03 (payloadOf (.cmdHswLimitSet h chan limit)) (cmdHswLimitSet chan limit) s

/-- CMD_HSW_FAIL_CLEAR accepted at the frame boundary that is due or under way (R61, R477). -/
def execCmdHswFailClear (h : CmdHeader) (chan : Nat) (s : State) : Out :=
  acceptAlone h 0x0B04 (payloadOf (.cmdHswFailClear h chan)) (cmdHswFailClear chan) s

/-- CMD_SEQ_GROUP_SET accepted at the frame boundary that is due or under way (R61, R477). -/
def execCmdSeqGroupSet (h : CmdHeader) (group : Nat) (up : Bool) (s : State) : Out :=
  acceptAlone h 0x0C01 (payloadOf (.cmdSeqGroupSet h group up)) (cmdSeqGroupSet group (b2n up)) s

/-- CMD_SEQ_CLEAR accepted at the frame boundary that is due or under way (R61, R477). -/
def execCmdSeqClear (h : CmdHeader) (group : Nat) (s : State) : Out :=
  acceptAlone h 0x0C02 (payloadOf (.cmdSeqClear h group)) (cmdSeqClear group) s

/-- CMD_SEQ_LOG_READ accepted at the frame boundary that is due or under way (R61, R477). -/
def execCmdSeqLogRead (h : CmdHeader) (first : Nat) (s : State) : Out :=
  acceptAlone h 0x0C03 (payloadOf (.cmdSeqLogRead h first)) (cmdSeqLogRead h first) s

/-- CMD_SEQ_LOG_CLEAR accepted at the frame boundary that is due or under way (R61, R477). -/
def execCmdSeqLogClear (h : CmdHeader) (s : State) : Out :=
  acceptAlone h 0x0C04 (payloadOf (.cmdSeqLogClear h)) (cmdSeqLogClear) s

/-- CMD_REC_FLUSH accepted at the frame boundary that is due or under way (R61, R477). -/
def execCmdRecFlush (h : CmdHeader) (s : State) : Out :=
  acceptAlone h 0x0D01 (payloadOf (.cmdRecFlush h)) (cmdRecFlush) s

/-- CMD_REC_FREEZE accepted at the frame boundary that is due or under way (R61, R477). -/
def execCmdRecFreeze (h : CmdHeader) (log : Nat) (s : State) : Out :=
  acceptAlone h 0x0D02 (payloadOf (.cmdRecFreeze h log)) (cmdRecFreeze h log) s

/-- CMD_REC_THAW accepted at the frame boundary that is due or under way (R61, R477). -/
def execCmdRecThaw (h : CmdHeader) (log : Nat) (s : State) : Out :=
  acceptAlone h 0x0D03 (payloadOf (.cmdRecThaw h log)) (cmdRecThaw h log) s

/-- CMD_REC_OPEN_CLEAR accepted at the frame boundary that is due or under way (R61, R477). -/
def execCmdRecOpenClear (h : CmdHeader) (s : State) : Out :=
  acceptAlone h 0x0D04 (payloadOf (.cmdRecOpenClear h)) (cmdRecOpenClear h) s

/-- CMD_REC_SEALED_OPEN accepted at the frame boundary that is due or under way (R61, R477). -/
def execCmdRecSealedOpen (h : CmdHeader) (s : State) : Out :=
  acceptAlone h 0x0D05 (payloadOf (.cmdRecSealedOpen h)) (cmdRecSealedOpen h) s

/-- CMD_REC_SEALED_CLOSE accepted at the frame boundary that is due or under way (R61, R477). -/
def execCmdRecSealedClose (h : CmdHeader) (s : State) : Out :=
  acceptAlone h 0x0D06 (payloadOf (.cmdRecSealedClose h)) (cmdRecSealedClose h) s

/-- CMD_REC_SEALED_CLEAR accepted at the frame boundary that is due or under way (R61, R477). -/
def execCmdRecSealedClear (h : CmdHeader) (s : State) : Out :=
  acceptAlone h 0x0D07 (payloadOf (.cmdRecSealedClear h)) (cmdRecSealedClear h) s

/-- CMD_REC_FLIGHT_TRIGGER accepted at the frame boundary that is due or under way (R61, R477). -/
def execCmdRecFlightTrigger (h : CmdHeader) (s : State) : Out :=
  acceptAlone h 0x0D08 (payloadOf (.cmdRecFlightTrigger h)) (cmdRecFlightTrigger) s

/-- CMD_REC_FLIGHT_READ accepted at the frame boundary that is due or under way (R61, R477). -/
def execCmdRecFlightRead (h : CmdHeader) (offset : Nat) (length : Nat) (s : State) : Out :=
  acceptAlone h 0x0D09 (payloadOf (.cmdRecFlightRead h offset length)) (cmdRecFlightRead h offset length) s

/-- CMD_REC_FLIGHT_RELEASE accepted at the frame boundary that is due or under way (R61, R477). -/
def execCmdRecFlightRelease (h : CmdHeader) (s : State) : Out :=
  acceptAlone h 0x0D0A (payloadOf (.cmdRecFlightRelease h)) (cmdRecFlightRelease) s

/-- CMD_REC_NOTE accepted at the frame boundary that is due or under way (R61, R477). -/
def execCmdRecNote (h : CmdHeader) (bytes : List Byte) (s : State) : Out :=
  acceptAlone h 0x0D0B (payloadOf (.cmdRecNote h bytes)) (cmdRecNote bytes) s

/-- CMD_RED_HANDOVER accepted at the frame boundary that is due or under way (R61, R477). -/
def execCmdRedHandover (h : CmdHeader) (s : State) : Out :=
  acceptAlone h 0x0E01 (payloadOf (.cmdRedHandover h)) (cmdRedHandover) s

/-- CMD_RED_INHIBIT accepted at the frame boundary that is due or under way (R61, R477). -/
def execCmdRedInhibit (h : CmdHeader) (on : Bool) (s : State) : Out :=
  acceptAlone h 0x0E02 (payloadOf (.cmdRedInhibit h on)) (cmdRedInhibit on) s

/-- CMD_TIE_REQUEST accepted at the frame boundary that is due or under way (R61, R477). -/
def execCmdTieRequest (h : CmdHeader) (port : Nat) (power : Nat) (s : State) : Out :=
  acceptAlone h 0x0F01 (payloadOf (.cmdTieRequest h port power)) (cmdTieRequest port power) s

/-- CMD_TIE_RELEASE accepted at the frame boundary that is due or under way (R61, R477). -/
def execCmdTieRelease (h : CmdHeader) (port : Nat) (s : State) : Out :=
  acceptAlone h 0x0F02 (payloadOf (.cmdTieRelease h port)) (cmdTieRelease port) s

/-- CMD_TIE_PORT_SET accepted at the frame boundary that is due or under way (R61, R477). -/
def execCmdTiePortSet (h : CmdHeader) (port : Nat) (mask : Byte) (values : Byte) (s : State) : Out :=
  acceptAlone h 0x0F03 (payloadOf (.cmdTiePortSet h port mask values)) (cmdTiePortSet port mask values) s

/-- CMD_CANE_PORT_SET accepted at the frame boundary that is due or under way (R61, R477). -/
def execCmdCanePortSet (h : CmdHeader) (port : Nat) (on : Bool) (s : State) : Out :=
  acceptAlone h 0x1001 (payloadOf (.cmdCanePortSet h port on)) (cmdCanePortSet port on) s

/-- CMD_CANE_NODE_RETRY accepted at the frame boundary that is due or under way (R61, R477). -/
def execCmdCaneNodeRetry (h : CmdHeader) (port : Nat) (node : Nat) (s : State) : Out :=
  acceptAlone h 0x1002 (payloadOf (.cmdCaneNodeRetry h port node)) (cmdCaneNodeRetry port node) s

/-- CMD_PMB_RECOVER accepted at the frame boundary that is due or under way (R61, R477). -/
def execCmdPmbRecover (h : CmdHeader) (port : Nat) (s : State) : Out :=
  acceptAlone h 0x1101 (payloadOf (.cmdPmbRecover h port)) (cmdPmbRecover h port) s

/-- CMD_PMB_TRANSACT accepted at the frame boundary that is due or under way (R61, R477). -/
def execCmdPmbTransact (h : CmdHeader) (port : Nat) (address : Nat) (kind : Nat) (code : Nat) (pec : Bool) (data : Nat) (s : State) : Out :=
  acceptAlone h 0x1102 (payloadOf (.cmdPmbTransact h port address kind code pec data)) (cmdPmbTransact h port address kind code pec data) s

/-- CMD_BCH_BEGIN accepted at the frame boundary that is due or under way (R61, R477). -/
def execCmdBchBegin (h : CmdHeader) (version : Nat) (count : Nat) (digest : List Byte) (s : State) : Out :=
  acceptAlone h 0x1201 (payloadOf (.cmdBchBegin h version count digest)) (cmdBchBegin version count digest) s

/-- CMD_BCH_CHUNK accepted at the frame boundary that is due or under way (R61, R477). -/
def execCmdBchChunk (h : CmdHeader) (index : Nat) (piece : Nat) (crc : Nat) (data : List Byte) (s : State) : Out :=
  acceptAlone h 0x1202 (payloadOf (.cmdBchChunk h index piece crc data)) (cmdBchChunk h index piece crc data) s

/-- CMD_BCH_ABANDON accepted at the frame boundary that is due or under way (R61, R477). -/
def execCmdBchAbandon (h : CmdHeader) (s : State) : Out :=
  acceptAlone h 0x1203 (payloadOf (.cmdBchAbandon h)) (cmdBchAbandon) s

/-- CMD_BCH_STATUS accepted at the frame boundary that is due or under way (R61, R477). -/
def execCmdBchStatus (h : CmdHeader) (s : State) : Out :=
  acceptAlone h 0x1204 (payloadOf (.cmdBchStatus h)) (cmdBchStatus) s

/-- CMD_BCH_ACTIVATE accepted at the frame boundary that is due or under way (R61, R477). -/
def execCmdBchActivate (h : CmdHeader) (version : Nat) (digest : List Byte) (s : State) : Out :=
  acceptAlone h 0x1205 (payloadOf (.cmdBchActivate h version digest)) (cmdBchActivate h version digest) s

/-- CMD_BCH_ROOT_REVOKE accepted at the frame boundary that is due or under way (R61, R477). -/
def execCmdBchRootRevoke (h : CmdHeader) (root : Nat) (s : State) : Out :=
  acceptAlone h 0x1206 (payloadOf (.cmdBchRootRevoke h root)) (cmdBchRootRevoke h root) s

/-- CMD_MEM_BIST_SLICE accepted at the frame boundary that is due or under way (R61, R477). -/
def execCmdMemBistSlice (h : CmdHeader) (target : Nat) (s : State) : Out :=
  acceptAlone h 0x1301 (payloadOf (.cmdMemBistSlice h target)) (cmdMemBistSlice h target) s

/-- CMD_MEM_BIST_FULL accepted at the frame boundary that is due or under way (R61, R477). -/
def execCmdMemBistFull (h : CmdHeader) (s : State) : Out :=
  acceptAlone h 0x1302 (payloadOf (.cmdMemBistFull h)) (cmdMemBistFull) s

end Sys2Proof.Machine
end

