-- ==== Sys2Proof/Machine/Boundary.lean ====
section
/-! DEFINITION. Tick boundaries, frame boundaries and the assertion of PFI: the order of Tables 2.6 and 2.7 (R68, R69), the work
that a frame opens with and the commands that a frame boundary accepts (R61 to R67). -/
namespace Sys2Proof.Machine

/-! ### The tick boundary (R68, Table 2.6) -/

/-- A new period takes the held one's place at a tick boundary (Table 2.2). -/
def takePeriod (t : Tim) : Tim :=
  match t.newPeriod with
  | some p => { t with held := p, measured := p, newPeriod := none }
  | none => t

/-- Levels that the boundary samples for every device, in control or not (Table 2.4, R436). -/
def levelSamples (inp : TickInputs) (s : State) : State :=
  pmbTick inp.alerts { s with pin := { s.pin with
    pfi := inp.pfi, pfiAny := s.pin.pfiAny || inp.pfi, pfiSeen := s.pin.pfiSeen && inp.pfi, wake := inp.wake } }

/-- What a device that is not in control senses of the channels, SEQF_N and the cables: their samples and levels alone. -/
def senseOnly (inp : TickInputs) (s : State) : State :=
  let one := fun (s : State) (c : Nat) =>
    let k := inp.chans.get c
    chanSamples c (setChan c (fun x => { takeCodes k x with seatS := isSlot c && bvGet inp.seats c }) s)
  let s1 := s.chansUsed.foldl one s
  let run := if inp.seqfLow then min (s1.seq.seqfRun + 1) 255 else 0
  let s2 := setSeq (fun q => { q with seqfLow := inp.seqfLow, seqfRun := run, seqfSeen := decide (run ≥ s1.cfg.seqfTicks) }) s1
  let cable := fun p : Nat => (monWith s2.cfg (.tiePresence p)).any fun m => !bvGet s2.msr.ovS m
  let s3 := [0, 1].foldl (fun s p => setTie p (fun x => { x with cable := cable p, cableAll := x.cableAll && cable p }) s) s2
  { s3 with hsw := { s3.hsw with vinMv := inp.vinMv } }

/-- A hold-up entry inside a service pause ends the pause at that boundary (R495). -/
def pauseCut (s : State) : State :=
  if s.bch.inPause && s.shr.hold.st = .holdup then
    setBch (fun b => { b with pauseEnd := decide (s.tim.tick + 1 ≥ s.frameTicks) }) (endPause s)
  else s

/-- What the device in control does at a boundary with the levels it samples there: channels, hold-up, modes, sequencer, ties. -/
def controlTick (inp : TickInputs) (s : State) : State :=
  let s1 := pauseCut (keepersTick inp.vinMv (holdupTick (chansTick inp s)))
  let s2 := if s1.bch.inPause then s1 else stageModes s1
  tieTick 1 (tieTick 0 (seqTick (s2.absTick + 1) inp.seqfLow s2))

/-- Step 1 for the tick that ends: the tick's samples and captures, then results of earlier evaluations, levels and reflex states. -/
def stepOne (inp : TickInputs) (s0 : State) : State :=
  let s1 := setTim (fun t => takePeriod (endTickTime inp.dtNs t)) s0
  let slow := s1.slowFresh
  let loss := (List.range 16).any fun u => decide (0 < (s1.msr.caps.get u).tickLoss)
  let s2 := stagePoints (captureSamples (captureItem (monitorSamples (slowBoundary (converterSamples s1)))))
  let s3 := if s2.bch.inPause then s2 else loopsAtBoundary inp.loopsDone inp.skips s2
  let s4 := levelSamples inp (stagesAtBoundary s3)
  let s5 := if s4.drives then channelItem s4 (controlTick inp s4) else senseOnly inp s4
  let s6 := holdTick inp.holdLow s5
  let s7 := if s6.red.st = .holder && s6.tim.tick = 1 then setRed (fun r => { r with holdPull := false }) s6 else s6
  setTim (fun t => { t with lastTransition := false })
    (setRun (fun x => { x with ticks := x.ticks ++ [tickEntryInputs slow loss s7] }) s7)

/-- Steps 2 to 6 on the inputs of the tick that ended: the loops, the tick's flight entry, the stage controller. What is sent to
the power die takes effect at the next boundary. -/
def stepsTwoToSix (s : State) : State :=
  if s.bch.inPause then tickEntryDone s
  else
    let s1 := tickEntryDone (loopRound (policyStops s))
    if s1.drives then stageController s1 else s1

/-- A tick boundary inside a frame, or the last one of a frame, whose later steps follow the frame boundary's (R69). -/
def tickBoundary (inp : TickInputs) (s : State) : State :=
  let s1 := stepOne inp s
  let last := decide (s.tim.tick + 1 ≥ s.frameTicks)
  let s2 := { s1 with
    tim := { s1.tim with periods := s1.tim.periods - s.cfg.tickPeriods, frameDue := last
                         tick := if last then s1.tim.tick else s1.tim.tick + 1 }
    pin := { s1.pin with tickInputs := s1.pin.tickInputs + 1 }
    mem := { s1.mem with degTick := s1.mem.degraded } }
  ibrSettle (if last then s2 else stepsTwoToSix (if s2.tim.tick = 1 then flightOpen s2 else s2))

/-- TICK_BOUNDARY (R68): due once tick_periods periods have passed; a frame boundary that is due comes first. With logical time
standing it is a tick of the power die alone (R279; DEDUCED, log entry 52) over which chassis time, which survives a reset, runs on
(R53; DEDUCED, log entry 49). -/
def execTickBoundary (inp : TickInputs) (s : State) : Out :=
  whenDue (!s.timeRuns || (!s.atBoundary && decide (s.cfg.tickPeriods ≤ s.tim.periods))) s
    (if s.timeRuns then tickBoundary inp else fun s => pdTick inp (setTim (endTickTime inp.dtNs) s))

/-! ### Commands at a frame boundary (R61 to R67) -/

/-- Place of a port in port_order (R65). -/
def State.portRank (s : State) (p : PortId) : Nat := (s.cfg.portOrder.findIdx? (· = p)).getD 3

/-- A command that a boundary takes, with what became of it. -/
structure Taken where
  /-- header -/
  hdr : CmdHeader := {}
  /-- opcode -/
  op : Nat := 0
  /-- payload -/
  payload : List Byte := []
  /-- the block's header bytes -/
  bytes : List Byte := []
  /-- a register write, which has no reply (R64) -/
  isReg : Bool := false

/-- A waiting command; a write of LOP_ENABLE counts as the loop-enable command that names every declared loop and every loop
written 1 (R64, log entry 34). -/
def takenOf (s : State) (q : Queued) : Taken :=
  if q.isReg then
    let v : BitVec 8 := BitVec.ofNat 8 q.regVal
    let c := bvOf 8 fun l => s.loopDeclared l || bvGet v l
    let p : List Byte := [c, v]
    { hdr := { port := q.port, mbox := q.mbox }, op := 0x0601, payload := p
      bytes := leBytes 2 0x0601 ++ leBytes 2 0 ++ leBytes 2 2 ++ List.replicate 10 0, isReg := true }
  else
    let b : Block := { port := q.port, origin := q.port, mbox := q.mbox, order := q.order, bytes := q.block }
    { hdr := b.hdr, op := b.op, payload := b.payload, bytes := slice q.block 0 16 }

/-- The commands that the boundary accepts: of those that the mirror lets through, the first 48 in the order of verification, in
execution order (R62, R65, R384). -/
def State.accepted (s : State) : List Queued :=
  if s.bch.inPause then []
  else
    let ok := (s.hst.queue.filter fun q => s.mirrored (takenOf s q).hdr).take (48 - s.tim.taken)
    sortBy (fun a b => decide (s.portRank a.port < s.portRank b.port ∨ (s.portRank a.port = s.portRank b.port ∧ a.order < b.order))) ok

/-- Commands execute one after another; the objects that each wrote stay beside it (R65, R67). -/
def runAll : List Taken → State → List (Taken × Nat × List Byte × List (Nat × Nat × Nat) × Bool) × State
  | [], s => ([], s)
  | t :: rest, s =>
    let o := executeCmd t.hdr t.op (fun s => match decodeCmd t.hdr t.op t.payload with
      | some i => runCmd i s
      | none => done s) s
    let (l, s1) := runAll rest o.st
    ((t, o.status, o.reply, o.objs, o.deferred) :: l, s1)

/-- Records and replies, a command whose object a later one wrote answering SUPERSEDED (R66). -/
def concludeAll : List (Taken × Nat × List Byte × List (Nat × Nat × Nat) × Bool) → State → State
  | [], s => s
  | (t, status, reply, objs, deferred) :: rest, s =>
    let exceeds := objs.any fun x => rest.any fun r => r.2.2.2.1.contains x
    let o : CmdOut := { st := s, status := status, reply := reply, objs := objs, deferred := deferred }
    let s1 := if t.isReg then
        addRecord (commandRecord s t.hdr t.op (if status = 0 && exceeds then 1 else status) t.payload) s
      else concludeCmd t.hdr t.op t.payload o exceeds
    concludeAll rest s1

/-- Step 2 of Table 2.7; the current frame is the acceptance frame. The flight window takes the commands in. -/
def acceptCommands (s : State) : State :=
  let l := s.accepted
  let ts := l.map (takenOf s)
  let s0 := { s with hst := { s.hst with queue := s.hst.queue.filter fun q => !l.contains q } }
  let (r, s1) := runAll ts s0
  let s2 := concludeAll r s1
  { s2 with recd := { s2.recd with cmdItems := s2.recd.cmdItems ++ ts.map fun t => commandItem t.bytes t.payload t.op } }

/-! ### Steps 3 and 4 -/

/-- Grants that are all sent again when control is taken with a mirrored state (Table 13.6). -/
def regrant (s : State) : State :=
  if !s.red.grantsAll then s
  else
    let l := s.domsUsed.filter fun d => (s.leh.cur.doms.get d).live
    let all := l ++ s.leh.grantsDue.filter fun d => !l.contains d
    { setRed (fun r => { r with grantsAll := false }) s with leh := { s.leh with grantsDue := all } }

/-- The engines of the frame that opens, in the order of Table 2.7 and each but a late one; background work alone where the device
is not in control (R206, R224). An engine is late at the boundary that ends its frame, so FRAME_OVERRUN is set in the flight block
of the frame that the boundary opens (R75; DESIGN CHOICE, log entry 49). -/
def engines (late : List Nat) (s : State) : State :=
  let clear := fun started : Bool => { jobsOpen s with
    eng := { started := started, overrun := !late.isEmpty }, pin := { s.pin with pfiAny := false } }
  if s.sys.crucible || s.bch.inPause then clear false
  else if !s.drives then (List.range 6).foldl (fun s j => jobStep j s) (clear false)
  else
    let pfi := s.pin.pfiAny
    let run := fun (b : Nat) (f : State → State) (s : State) => if late.contains b then s else f s
    run 0x09 lehrFrame (run 0x0C (sequencerFrame pfi) (run 0x0A estimatorFrame (run 0x08 (fun s => holdupFrame (marverFrame s))
      (clear true))))

/-- PMBus at the opening of a frame: replies, polls that fall due, the next transactions. -/
def pmbusOpen (s : State) : State :=
  let s1 := pmbReplies s
  if s1.sys.crucible || !s1.drives then s1 else portsNext (s1.pmbPorts.foldl (fun s p => pmbOpen p s) s1)

/-- The recorder at the opening of a frame: the writes of the flush that fall in it, the copy of a frozen flight window, the ended
frame's place in the ring (R313, R326, R328). -/
def recorderFrame (late : List Nat) (s : State) : State := flightClose (flightCopyStep (flushFrame (late.contains 0x0D) s))

/-- VIN_HV once a frame is the bus voltage of the marver (Table 6.9). -/
def busVoltage (inp : FrameInputs) (s : State) : State :=
  match inp.supplies with
  | v :: _ => sample 0x380 v s
  | [] => s

/-- What the sequencer shows at a frame boundary, whatever its engine does: the records of the ended frame are written, the group
states stand as of the boundary, and the points of the frame are sampled (R291, R302, R306). -/
def seqShow (s : State) : State :=
  let codes : Tab Nat := (List.range 64).foldl (fun t g => t.put g (groupCode (s.groupCur g).st)) []
  seqPoints (setSeq (fun q => { q with recs := recordsDone q.recs, shown := codes }) s)

/-- What a frame opens with besides its commands: nodes, orders, grants, the mirror, restarts, engines. -/
def openWork (late : List Nat) (s : State) : State :=
  let (accepts, s1) := nodesFrame (seqShow s)
  let s2 := if s1.drives && !s1.bch.inPause then remoteEdges (stageRestarts s1) else s1
  let s3 := mirrorFrame (caneQueues accepts (regrant s2))
  peerPump (pmbusOpen (engines late s3))

/-- The service pause counts its frames (R494). -/
def pauseStep (s : State) : State :=
  if s.bch.inPause then setBch (fun b => { b with pause := max 1 (b.pause - 1) }) s else s

/-- The frame stamp is latched after the commands of the boundary, and every mark that the boundary has brought forth carries it
(R54, R569). -/
def latchStamp (s : State) : State :=
  let c := s.tim.chassis
  let u := s.tim.unreferenced
  let w := s.recd.waiting.map fun w => if w.isMark && w.frame = s.tim.frame then { w with stamp := c, unref := u } else w
  { s with tim := { s.tim with stamp := c, stampUnref := u, begun := false }, recd := { s.recd with waiting := w } }

/-- The rest of a frame boundary that is under way: the waiting commands, then the work of the frame (R69, Table 2.7). -/
def finishBoundary (inp : FrameInputs) (s0 : State) : State :=
  let s1 := latchStamp (acceptCommands s0)
  let s2 := openWork s1.eng.late (busVoltage inp (thermalConversion inp s1))
  let s3 := stepsTwoToSix (pauseStep s2)
  ibrSettle (tryCommit (keepFramePoints (recorderFrame s1.eng.late s3)))

/-- A frame boundary (R69, Table 2.7) of a device that runs; a command reset that waits for it takes its place. -/
def frameBoundary (inp : FrameInputs) (s : State) : State :=
  let s1 := beginBoundary s
  if s1.tim.begun then finishBoundary inp s1 else s1

/-- The boundary that opens the first frame of logical time (step 7 of Table 19.4): nothing is closed there, and a device that adopts
sends its first pulse on HOLD_N at the next one (R512). -/
def firstBoundary (inp : FrameInputs) (s : State) : State :=
  let s1 := setTim (fun t => { t with stamp := t.chassis, stampUnref := t.unreferenced }) (stepSeven s)
  keepFramePoints (busVoltage inp (thermalConversion inp (caneQueues [] (seqShow s1))))

/-- FRAME_BOUNDARY (R69): due after the frame's last tick boundary, and at the start of logical time; one that a command has begun
goes on. -/
def execFrameBoundary (inp : FrameInputs) (s : State) : Out :=
  whenTime s.atBoundary s fun s =>
    if s.sys.bootStage = .punty then firstBoundary inp s else frameBoundary inp s

/-! ### PFI (R226, R247, R299, R324, R330) -/

/-- The queue of estimator-table writes is dropped and counted (R247). -/
def dropTables (s : State) : State :=
  match s.bat.zq with
  | [] => s
  | w :: _ =>
    raiseIf (!s.bat.zDropRaised) kZtableDrop (if w.isCell then 64 + w.index else w.index) 0
      { s with bat := { s.bat with zq := [], zDropped := add32 s.bat.zDropped s.bat.zq.length, zDropRaised := true } }

/-- PFI first sampled asserted: the power-fail commit, a cut flight copy, the groups frozen, background work held, the frame
number saved (R46, R226, R299, R324, R330). -/
def pfiWork (s : State) : State :=
  let s1 := flightCut (dropTables s)
  let s2 := if s1.drives then freezeGroups s1 else s1
  let s3 := pfiCommit { s2 with leh := { s2.leh with pfiHold := true }, pin := { s2.pin with pfiSeen := true } }
  setTim (fun t => { t with savedFrame := t.frame }) s3

/-- PFI_ASSERT: PFI was sampled asserted after a boundary at which it was not. -/
def execPfiAssert (s : State) : Out := whenTime (s.pin.pfi && !s.pin.pfiSeen) s pfiWork

end Sys2Proof.Machine
end

