-- ==== Sys2Proof/Machine/Dispatch.lean ====
section
/-! DEFINITION. The meaning of every command, one arm per row of the table. -/
namespace Sys2Proof.Machine

/-- What one command does to everything but the queue. -/
def exec (i : Instr) (s : State) : Host.Outcome State Fault Refusal :=
  match i with
  | .cmdChipIdent h => Sys2Proof.Machine.execCmdChipIdent h s
  | .cmdSysReset h => Sys2Proof.Machine.execCmdSysReset h s
  | .cmdSysLifecycle h target => Sys2Proof.Machine.execCmdSysLifecycle h target s
  | .cmdSysKeyProgram h slot key => Sys2Proof.Machine.execCmdSysKeyProgram h slot key s
  | .cmdSysRootProgram h root hash => Sys2Proof.Machine.execCmdSysRootProgram h root hash s
  | .cmdChassisTimeSet h seconds => Sys2Proof.Machine.execCmdChassisTimeSet h seconds s
  | .cmdHstNop h payload => Sys2Proof.Machine.execCmdHstNop h payload s
  | .cmdFltReactionSet h block kind reactions => Sys2Proof.Machine.execCmdFltReactionSet h block kind reactions s
  | .cmdFltLostClear h => Sys2Proof.Machine.execCmdFltLostClear h s
  | .cmdPeakClear h first count => Sys2Proof.Machine.execCmdPeakClear h first count s
  | .cmdWmSet h mon mask lower upper hyst uv ov => Sys2Proof.Machine.execCmdWmSet h mon mask lower upper hyst uv ov s
  | .cmdLoopEnable h changed value => Sys2Proof.Machine.execCmdLoopEnable h changed value s
  | .cmdLoopRestore h loop => Sys2Proof.Machine.execCmdLoopRestore h loop s
  | .cmdStageEnable h stage on => Sys2Proof.Machine.execCmdStageEnable h stage on s
  | .cmdStageModeSet h stage mode => Sys2Proof.Machine.execCmdStageModeSet h stage mode s
  | .cmdStageRefSet h stage target value => Sys2Proof.Machine.execCmdStageRefSet h stage target value s
  | .cmdStageOvClear h stage => Sys2Proof.Machine.execCmdStageOvClear h stage s
  | .cmdPhaseUnmask h phase => Sys2Proof.Machine.execCmdPhaseUnmask h phase s
  | .cmdRectParkSet h rect setting => Sys2Proof.Machine.execCmdRectParkSet h rect setting s
  | .cmdRectReturn h rect => Sys2Proof.Machine.execCmdRectReturn h rect s
  | .cmdShedRelease h => Sys2Proof.Machine.execCmdShedRelease h s
  | .cmdDomainEnable h dom on => Sys2Proof.Machine.execCmdDomainEnable h dom on s
  | .cmdDomainSet h dom mask priority ceiling weight => Sys2Proof.Machine.execCmdDomainSet h dom mask priority ceiling weight s
  | .cmdGrantSet h dom pin value => Sys2Proof.Machine.execCmdGrantSet h dom pin value s
  | .cmdLehrCapSet h cap => Sys2Proof.Machine.execCmdLehrCapSet h cap s
  | .cmdBatSocSet h string soc conf => Sys2Proof.Machine.execCmdBatSocSet h string soc conf s
  | .cmdBatRelearn h string => Sys2Proof.Machine.execCmdBatRelearn h string s
  | .cmdBatCyclesSet h string count => Sys2Proof.Machine.execCmdBatCyclesSet h string count s
  | .cmdBatZtableReset h module => Sys2Proof.Machine.execCmdBatZtableReset h module s
  | .cmdBatZtableRead h module => Sys2Proof.Machine.execCmdBatZtableRead h module s
  | .cmdHswSet h chan on => Sys2Proof.Machine.execCmdHswSet h chan on s
  | .cmdHswToggle h chan => Sys2Proof.Machine.execCmdHswToggle h chan s
  | .cmdHswLimitSet h chan limit => Sys2Proof.Machine.execCmdHswLimitSet h chan limit s
  | .cmdHswFailClear h chan => Sys2Proof.Machine.execCmdHswFailClear h chan s
  | .cmdSeqGroupSet h group up => Sys2Proof.Machine.execCmdSeqGroupSet h group up s
  | .cmdSeqClear h group => Sys2Proof.Machine.execCmdSeqClear h group s
  | .cmdSeqLogRead h first => Sys2Proof.Machine.execCmdSeqLogRead h first s
  | .cmdSeqLogClear h => Sys2Proof.Machine.execCmdSeqLogClear h s
  | .cmdRecFlush h => Sys2Proof.Machine.execCmdRecFlush h s
  | .cmdRecFreeze h log => Sys2Proof.Machine.execCmdRecFreeze h log s
  | .cmdRecThaw h log => Sys2Proof.Machine.execCmdRecThaw h log s
  | .cmdRecOpenClear h => Sys2Proof.Machine.execCmdRecOpenClear h s
  | .cmdRecSealedOpen h => Sys2Proof.Machine.execCmdRecSealedOpen h s
  | .cmdRecSealedClose h => Sys2Proof.Machine.execCmdRecSealedClose h s
  | .cmdRecSealedClear h => Sys2Proof.Machine.execCmdRecSealedClear h s
  | .cmdRecFlightTrigger h => Sys2Proof.Machine.execCmdRecFlightTrigger h s
  | .cmdRecFlightRead h offset length => Sys2Proof.Machine.execCmdRecFlightRead h offset length s
  | .cmdRecFlightRelease h => Sys2Proof.Machine.execCmdRecFlightRelease h s
  | .cmdRecNote h bytes => Sys2Proof.Machine.execCmdRecNote h bytes s
  | .cmdRedHandover h => Sys2Proof.Machine.execCmdRedHandover h s
  | .cmdRedInhibit h on => Sys2Proof.Machine.execCmdRedInhibit h on s
  | .cmdTieRequest h port power => Sys2Proof.Machine.execCmdTieRequest h port power s
  | .cmdTieRelease h port => Sys2Proof.Machine.execCmdTieRelease h port s
  | .cmdTiePortSet h port mask values => Sys2Proof.Machine.execCmdTiePortSet h port mask values s
  | .cmdCanePortSet h port on => Sys2Proof.Machine.execCmdCanePortSet h port on s
  | .cmdCaneNodeRetry h port node => Sys2Proof.Machine.execCmdCaneNodeRetry h port node s
  | .cmdPmbRecover h port => Sys2Proof.Machine.execCmdPmbRecover h port s
  | .cmdPmbTransact h port address kind code pec data => Sys2Proof.Machine.execCmdPmbTransact h port address kind code pec data s
  | .cmdBchBegin h version count digest => Sys2Proof.Machine.execCmdBchBegin h version count digest s
  | .cmdBchChunk h index piece crc data => Sys2Proof.Machine.execCmdBchChunk h index piece crc data s
  | .cmdBchAbandon h => Sys2Proof.Machine.execCmdBchAbandon h s
  | .cmdBchStatus h => Sys2Proof.Machine.execCmdBchStatus h s
  | .cmdBchActivate h version digest => Sys2Proof.Machine.execCmdBchActivate h version digest s
  | .cmdBchRootRevoke h root => Sys2Proof.Machine.execCmdBchRootRevoke h root s
  | .cmdMemBistSlice h target => Sys2Proof.Machine.execCmdMemBistSlice h target s
  | .cmdMemBistFull h => Sys2Proof.Machine.execCmdMemBistFull h s
  | .commandVerified => Sys2Proof.Machine.execCommandVerified s
  | .lockoutEnd port => Sys2Proof.Machine.execLockoutEnd port s
  | .authCountRestart port => Sys2Proof.Machine.execAuthCountRestart port s
  | .fuseBlowComplete ok => Sys2Proof.Machine.execFuseBlowComplete ok s
  | .deferredMramReadComplete mbox => Sys2Proof.Machine.execDeferredMramReadComplete mbox s
  | .chunkWriteComplete => Sys2Proof.Machine.execChunkWriteComplete s
  | .doorbellNormal port => Sys2Proof.Machine.execDoorbellNormal port s
  | .doorbellUrgent port => Sys2Proof.Machine.execDoorbellUrgent port s
  | .replyReadyClear port urgent => Sys2Proof.Machine.execReplyReadyClear port urgent s
  | .busyRingClear port urgent => Sys2Proof.Machine.execBusyRingClear port urgent s
  | .lopEnableWrite port value => Sys2Proof.Machine.execLopEnableWrite port value s
  | .sysLockSet port => Sys2Proof.Machine.execSysLockSet port s
  | .timFrameLoRead port => Sys2Proof.Machine.execTimFrameLoRead port s
  | .timChassisLoRead port => Sys2Proof.Machine.execTimChassisLoRead port s
  | .timSlackWorstRead port => Sys2Proof.Machine.execTimSlackWorstRead port s
  | .fltIntOvfRead port => Sys2Proof.Machine.execFltIntOvfRead port s
  | .msrCapOvfRead port => Sys2Proof.Machine.execMsrCapOvfRead port s
  | .fltIntData3Read port => Sys2Proof.Machine.execFltIntData3Read port s
  | .msrCapData3Read port => Sys2Proof.Machine.execMsrCapData3Read port s
  | .fltErrClearWrite value => Sys2Proof.Machine.execFltErrClearWrite value s
  | .fltNmaCauseClear mask => Sys2Proof.Machine.execFltNmaCauseClear mask s
  | .wmEventClear reg mask => Sys2Proof.Machine.execWmEventClear reg mask s
  | .batLevelEventClear mask => Sys2Proof.Machine.execBatLevelEventClear mask s
  | .hswTripEventClear reg mask => Sys2Proof.Machine.execHswTripEventClear reg mask s
  | .lehDomSelWrite port value => Sys2Proof.Machine.execLehDomSelWrite port value s
  | .hswChSelWrite port value => Sys2Proof.Machine.execHswChSelWrite port value s
  | .seqRailSelWrite port value => Sys2Proof.Machine.execSeqRailSelWrite port value s
  | .tieMarkerSelWrite port value => Sys2Proof.Machine.execTieMarkerSelWrite port value s
  | .pntNodeSelWrite port value => Sys2Proof.Machine.execPntNodeSelWrite port value s
  | .pmbPortSelWrite port value => Sys2Proof.Machine.execPmbPortSelWrite port value s
  | .fltReactSelWrite port value => Sys2Proof.Machine.execFltReactSelWrite port value s
  | .hstKeySelWrite port value => Sys2Proof.Machine.execHstKeySelWrite port value s
  | .peekEntryRead port entry => Sys2Proof.Machine.execPeekEntryRead port entry s
  | .registerWrite port addr data => Sys2Proof.Machine.execRegisterWrite port addr data s
  | .mgtWriteTransaction target bytes => Sys2Proof.Machine.execMgtWriteTransaction target bytes s
  | .mgtReadTransaction target count => Sys2Proof.Machine.execMgtReadTransaction target count s
  | .mgtStartStopAbandon start ackSlot => Sys2Proof.Machine.execMgtStartStopAbandon start ackSlot s
  | .sdaReleased => Sys2Proof.Machine.execSdaReleased s
  | .inBandRequest cut => Sys2Proof.Machine.execInBandRequest cut s
  | .fhpWrite addr data crc => Sys2Proof.Machine.execFhpWrite addr data crc s
  | .fhpRead addr length crc cut => Sys2Proof.Machine.execFhpRead addr length crc cut s
  | .fhpQuadRead addr length crc cut => Sys2Proof.Machine.execFhpQuadRead addr length crc cut s
  | .fhpStatus => Sys2Proof.Machine.execFhpStatus s
  | .hostNvWriteComplete => Sys2Proof.Machine.execHostNvWriteComplete s
  | .syncEdgeAccepted interval err => Sys2Proof.Machine.execSyncEdgeAccepted interval err s
  | .syncEdgeEarly => Sys2Proof.Machine.execSyncEdgeEarly s
  | .syncEdgeMissed => Sys2Proof.Machine.execSyncEdgeMissed s
  | .syncAcquireTimeout => Sys2Proof.Machine.execSyncAcquireTimeout s
  | .tickBoundary inp => Sys2Proof.Machine.execTickBoundary inp s
  | .frameBoundary inp => Sys2Proof.Machine.execFrameBoundary inp s
  | .frameNumberSave => Sys2Proof.Machine.execFrameNumberSave s
  | .trefLoss => Sys2Proof.Machine.execTrefLoss s
  | .trefMeasurementComplete ppm => Sys2Proof.Machine.execTrefMeasurementComplete ppm s
  | .trefLock => Sys2Proof.Machine.execTrefLock s
  | .ppsEdge => Sys2Proof.Machine.execPpsEdge s
  | .ppsLoss => Sys2Proof.Machine.execPpsLoss s
  | .fastConversion conv entry code => Sys2Proof.Machine.execFastConversion conv entry code s
  | .slowConversionComplete conv code => Sys2Proof.Machine.execSlowConversionComplete conv code s
  | .wmComparatorEdge mon ov asserted timeHalfNs vinMv => Sys2Proof.Machine.execWmComparatorEdge mon ov asserted timeHalfNs vinMv s
  | .wmNarrowStep mon => Sys2Proof.Machine.execWmNarrowStep mon s
  | .sensorRestored sensor => Sys2Proof.Machine.execSensorRestored sensor s
  | .thermSubwindowEnd => Sys2Proof.Machine.execThermSubwindowEnd s
  | .overtempShutdown core => Sys2Proof.Machine.execOvertempShutdown core s
  | .overtempRelease core => Sys2Proof.Machine.execOvertempRelease core s
  | .blendEnd loop => Sys2Proof.Machine.execBlendEnd loop s
  | .residual loop input => Sys2Proof.Machine.execResidual loop input s
  | .onTimeStart phase => Sys2Proof.Machine.execOnTimeStart phase s
  | .blankingEnd phase => Sys2Proof.Machine.execBlankingEnd phase s
  | .peakComparatorTrip trip => Sys2Proof.Machine.execPeakComparatorTrip trip s
  | .cycleLimitTrip phase senseUv => Sys2Proof.Machine.execCycleLimitTrip phase senseUv s
  | .maxDutyClamp phase => Sys2Proof.Machine.execMaxDutyClamp phase s
  | .cycleLimit phase => Sys2Proof.Machine.execCycleLimit phase s
  | .shedStart stage => Sys2Proof.Machine.execShedStart stage s
  | .phaseShed stage => Sys2Proof.Machine.execPhaseShed stage s
  | .phaseOpen phase => Sys2Proof.Machine.execPhaseOpen phase s
  | .pmbPoll port => Sys2Proof.Machine.execPmbPoll port s
  | .pmbTransactionComplete port result => Sys2Proof.Machine.execPmbTransactionComplete port result s
  | .pmbAlert port => Sys2Proof.Machine.execPmbAlert port s
  | .pmbStretchTimeout port => Sys2Proof.Machine.execPmbStretchTimeout port s
  | .pmbBusHung port freed => Sys2Proof.Machine.execPmbBusHung port freed s
  | .pmbRecoveryRetry port freed => Sys2Proof.Machine.execPmbRecoveryRetry port freed s
  | .rectNoAck rect => Sys2Proof.Machine.execRectNoAck rect s
  | .rectSilent rect => Sys2Proof.Machine.execRectSilent rect s
  | .rectUnparkTimeout rect => Sys2Proof.Machine.execRectUnparkTimeout rect s
  | .rectServing rect => Sys2Proof.Machine.execRectServing rect s
  | .shareTol rect => Sys2Proof.Machine.execShareTol rect s
  | .rectPark => Sys2Proof.Machine.execRectPark s
  | .handbackStart => Sys2Proof.Machine.execHandbackStart s
  | .shedInterval vinMv => Sys2Proof.Machine.execShedInterval vinMv s
  | .demandSilent dom => Sys2Proof.Machine.execDemandSilent dom s
  | .grantRefresh dom => Sys2Proof.Machine.execGrantRefresh dom s
  | .startupGrantHoldEnd => Sys2Proof.Machine.execStartupGrantHoldEnd s
  | .grantOverdraw dom => Sys2Proof.Machine.execGrantOverdraw dom s
  | .enforceStart slot => Sys2Proof.Machine.execEnforceStart slot s
  | .enforceEnd slot => Sys2Proof.Machine.execEnforceEnd slot s
  | .bgResume => Sys2Proof.Machine.execBgResume s
  | .recorderHousekeeping => Sys2Proof.Machine.execRecorderHousekeeping s
  | .sramScrubStripe upsets => Sys2Proof.Machine.execSramScrubStripe upsets s
  | .mramScrubLine upsets => Sys2Proof.Machine.execMramScrubLine upsets s
  | .bistSlice first second => Sys2Proof.Machine.execBistSlice first second s
  | .pointCompaction => Sys2Proof.Machine.execPointCompaction s
  | .ztableWrite => Sys2Proof.Machine.execZtableWrite s
  | .integrationStepClose string => Sys2Proof.Machine.execIntegrationStepClose string s
  | .restCorrection string => Sys2Proof.Machine.execRestCorrection string s
  | .voltageCorrection string => Sys2Proof.Machine.execVoltageCorrection string s
  | .chargeTermination string => Sys2Proof.Machine.execChargeTermination string s
  | .chargeTimeout string => Sys2Proof.Machine.execChargeTimeout string s
  | .inhibitClear string => Sys2Proof.Machine.execInhibitClear string s
  | .eodReached string => Sys2Proof.Machine.execEodReached string s
  | .endClear string => Sys2Proof.Machine.execEndClear string s
  | .impedanceUpdate module => Sys2Proof.Machine.execImpedanceUpdate module s
  | .cycleRecordQueue string => Sys2Proof.Machine.execCycleRecordQueue string s
  | .moduleSilent module => Sys2Proof.Machine.execModuleSilent module s
  | .currentLimitEngage m => Sys2Proof.Machine.execCurrentLimitEngage m s
  | .timerTrip m => Sys2Proof.Machine.execTimerTrip m s
  | .gatePulldownDelay chan => Sys2Proof.Machine.execGatePulldownDelay chan s
  | .breakerTrip chan => Sys2Proof.Machine.execBreakerTrip chan s
  | .seatDebounceComplete slot => Sys2Proof.Machine.execSeatDebounceComplete slot s
  | .coolDownEnd chan => Sys2Proof.Machine.execCoolDownEnd chan s
  | .gateStuck chan => Sys2Proof.Machine.execGateStuck chan s
  | .fetShort chan => Sys2Proof.Machine.execFetShort chan s
  | .keeperInsertDelayEnd keeper => Sys2Proof.Machine.execKeeperInsertDelayEnd keeper s
  | .keeperVinOv keeper => Sys2Proof.Machine.execKeeperVinOv keeper s
  | .ewAssert keeper => Sys2Proof.Machine.execEwAssert keeper s
  | .railEdge rail => Sys2Proof.Machine.execRailEdge rail s
  | .riseTimeout rail => Sys2Proof.Machine.execRiseTimeout rail s
  | .fallTimeout rail => Sys2Proof.Machine.execFallTimeout rail s
  | .railUv rail => Sys2Proof.Machine.execRailUv rail s
  | .railOv rail => Sys2Proof.Machine.execRailOv rail s
  | .retryClear rail => Sys2Proof.Machine.execRetryClear rail s
  | .seqfSeen => Sys2Proof.Machine.execSeqfSeen s
  | .minOffEnd group => Sys2Proof.Machine.execMinOffEnd group s
  | .groupUnfreeze group => Sys2Proof.Machine.execGroupUnfreeze group s
  | .flushComplete => Sys2Proof.Machine.execFlushComplete s
  | .sealedSessionExpiry port => Sys2Proof.Machine.execSealedSessionExpiry port s
  | .freezeLapsed log => Sys2Proof.Machine.execFreezeLapsed log s
  | .pfiAssert => Sys2Proof.Machine.execPfiAssert s
  | .powerFailFlushComplete => Sys2Proof.Machine.execPowerFailFlushComplete s
  | .flightPostEnd => Sys2Proof.Machine.execFlightPostEnd s
  | .flightCopyComplete => Sys2Proof.Machine.execFlightCopyComplete s
  | .faultMessage index => Sys2Proof.Machine.execFaultMessage index s
  | .faultDispatch => Sys2Proof.Machine.execFaultDispatch s
  | .chipReset => Sys2Proof.Machine.execChipReset s
  | .errPulseEnd => Sys2Proof.Machine.execErrPulseEnd s
  | .alertPinMinLowEnd err => Sys2Proof.Machine.execAlertPinMinLowEnd err s
  | .bypass => Sys2Proof.Machine.execBypass s
  | .samplePreload preload => Sys2Proof.Machine.execSamplePreload preload s
  | .extest => Sys2Proof.Machine.execExtest s
  | .idcode => Sys2Proof.Machine.execIdcode s
  | .clamp => Sys2Proof.Machine.execClamp s
  | .highz => Sys2Proof.Machine.execHighz s
  | .intScan => Sys2Proof.Machine.execIntScan s
  | .intMbist => Sys2Proof.Machine.execIntMbist s
  | .intMemacc => Sys2Proof.Machine.execIntMemacc s
  | .holdNPulse => Sys2Proof.Machine.execHoldNPulse s
  | .peerLiveTimeout => Sys2Proof.Machine.execPeerLiveTimeout s
  | .peerAck seq => Sys2Proof.Machine.execPeerAck seq s
  | .peerHello p pairOrd digest frame role => Sys2Proof.Machine.execPeerHello p pairOrd digest frame role s
  | .peerRenew p frame lease => Sys2Proof.Machine.execPeerRenew p frame lease s
  | .peerMirror p slice data => Sys2Proof.Machine.execPeerMirror p slice data s
  | .peerMirrorEnd p frame count crc => Sys2Proof.Machine.execPeerMirrorEnd p frame count crc s
  | .peerCounter p slot counter => Sys2Proof.Machine.execPeerCounter p slot counter s
  | .peerCounterAck p slot counter => Sys2Proof.Machine.execPeerCounterAck p slot counter s
  | .peerForward p mbox block => Sys2Proof.Machine.execPeerForward p mbox block s
  | .peerForwardReply p mbox reply => Sys2Proof.Machine.execPeerForwardReply p mbox reply s
  | .peerGuard p chan => Sys2Proof.Machine.execPeerGuard p chan s
  | .peerGuardAck p chan => Sys2Proof.Machine.execPeerGuardAck p chan s
  | .peerYield p reason => Sys2Proof.Machine.execPeerYield p reason s
  | .peerCrcDiscard => Sys2Proof.Machine.execPeerCrcDiscard s
  | .peerRetransmit => Sys2Proof.Machine.execPeerRetransmit s
  | .renewSend => Sys2Proof.Machine.execRenewSend s
  | .holdSilent => Sys2Proof.Machine.execHoldSilent s
  | .peerSilent => Sys2Proof.Machine.execPeerSilent s
  | .puntyClaim gates ens => Sys2Proof.Machine.execPuntyClaim gates ens s
  | .claimDrive => Sys2Proof.Machine.execClaimDrive s
  | .displaced => Sys2Proof.Machine.execDisplaced s
  | .guardTrip chan => Sys2Proof.Machine.execGuardTrip chan s
  | .irlerAck port ident => Sys2Proof.Machine.execIrlerAck port ident s
  | .irlerHello port ident ordinal flags role agreed lease => Sys2Proof.Machine.execIrlerHello port ident ordinal flags role agreed lease s
  | .irlerRequest port ident swap power bus => Sys2Proof.Machine.execIrlerRequest port ident swap power bus s
  | .irlerOffer port ident power lease bus => Sys2Proof.Machine.execIrlerOffer port ident power lease bus s
  | .irlerAccept port ident power bus => Sys2Proof.Machine.execIrlerAccept port ident power bus s
  | .irlerRefuse port ident reason => Sys2Proof.Machine.execIrlerRefuse port ident reason s
  | .irlerCollision port ident winner => Sys2Proof.Machine.execIrlerCollision port ident winner s
  | .irlerMatch port ident bus => Sys2Proof.Machine.execIrlerMatch port ident bus s
  | .irlerClosed port ident power => Sys2Proof.Machine.execIrlerClosed port ident power s
  | .irlerRenew port ident power lease => Sys2Proof.Machine.execIrlerRenew port ident power lease s
  | .irlerRelease port ident reason => Sys2Proof.Machine.execIrlerRelease port ident reason s
  | .irlerMarkerData port ident rated length temp identity => Sys2Proof.Machine.execIrlerMarkerData port ident rated length temp identity s
  | .irlerCrc port => Sys2Proof.Machine.execIrlerCrc port s
  | .irlerRetransmit port => Sys2Proof.Machine.execIrlerRetransmit port s
  | .irlerLineCollision port => Sys2Proof.Machine.execIrlerLineCollision port s
  | .irlerBackoffEnd port => Sys2Proof.Machine.execIrlerBackoffEnd port s
  | .irlerSendStart port => Sys2Proof.Machine.execIrlerSendStart port s
  | .offerTimeout port => Sys2Proof.Machine.execOfferTimeout port s
  | .tieMatchFail port => Sys2Proof.Machine.execTieMatchFail port s
  | .farEndSilent port => Sys2Proof.Machine.execFarEndSilent port s
  | .tieLeaseExpiry port => Sys2Proof.Machine.execTieLeaseExpiry port s
  | .tieRenewSend port => Sys2Proof.Machine.execTieRenewSend port s
  | .releaseDeadline port => Sys2Proof.Machine.execReleaseDeadline port s
  | .markerReadInterval port => Sys2Proof.Machine.execMarkerReadInterval port s
  | .resumeWindowExpiry port => Sys2Proof.Machine.execResumeWindowExpiry port s
  | .caneLinkUp port => Sys2Proof.Machine.execCaneLinkUp port s
  | .caneLinkDown port => Sys2Proof.Machine.execCaneLinkDown port s
  | .caneAck node seq => Sys2Proof.Machine.execCaneAck node seq s
  | .canePointUpdate node seq entries => Sys2Proof.Machine.execCanePointUpdate node seq entries s
  | .caneDemand node seq entries => Sys2Proof.Machine.execCaneDemand node seq entries s
  | .caneFaultNote node seq code context => Sys2Proof.Machine.execCaneFaultNote node seq code context s
  | .caneNodeInfo port hop node ident domains highest => Sys2Proof.Machine.execCaneNodeInfo port hop node ident domains highest s
  | .caneCrc port => Sys2Proof.Machine.execCaneCrc port s
  | .caneRetransmit node => Sys2Proof.Machine.execCaneRetransmit node s
  | .nodeQuery port => Sys2Proof.Machine.execNodeQuery port s
  | .nodeLost node => Sys2Proof.Machine.execNodeLost node s
  | .activationVerifyComplete => Sys2Proof.Machine.execActivationVerifyComplete s
  | .activationLoadComplete => Sys2Proof.Machine.execActivationLoadComplete s
  | .commitMarkerWritten => Sys2Proof.Machine.execCommitMarkerWritten s
  | .activationSwitch => Sys2Proof.Machine.execActivationSwitch s
  | .activationPauseEnd => Sys2Proof.Machine.execActivationPauseEnd s
  | .activationDone => Sys2Proof.Machine.execActivationDone s
  | .warmerPeriod inp => Sys2Proof.Machine.execWarmerPeriod inp s
  | .coreRelease => Sys2Proof.Machine.execCoreRelease s
  | .supplyOutOfRange supply => Sys2Proof.Machine.execSupplyOutOfRange supply s
  | .supplySettleTimeout => Sys2Proof.Machine.execSupplySettleTimeout s
  | .offMinEnd => Sys2Proof.Machine.execOffMinEnd s
  | .powerOnCold => Sys2Proof.Machine.execPowerOnCold s
  | .powerOn => Sys2Proof.Machine.execPowerOn s
  | .pinReset => Sys2Proof.Machine.execPinReset s
  | .boot inp => Sys2Proof.Machine.execBoot inp s
  | .dieLinkWordSend => Sys2Proof.Machine.execDieLinkWordSend s
  | .coreDieAbsent => Sys2Proof.Machine.execCoreDieAbsent s
  | .dieLinkLoss => Sys2Proof.Machine.execDieLinkLoss s
  | .dieLinkError core => Sys2Proof.Machine.execDieLinkError core s
  | .freeRunPhaseZero => Sys2Proof.Machine.execFreeRunPhaseZero s
  | .syncOutEdge rise => Sys2Proof.Machine.execSyncOutEdge rise s
  | .currentLimitRelease m => Sys2Proof.Machine.execCurrentLimitRelease m s
  | .pullCountedAsToggle slot => Sys2Proof.Machine.execPullCountedAsToggle slot s
  | .supplyInRange supply => Sys2Proof.Machine.execSupplyInRange supply s
  | .loopEvaluationComplete loop slack times => Sys2Proof.Machine.execLoopEvaluationComplete loop slack times s
  | .frameWorkComplete engine => Sys2Proof.Machine.execFrameWorkComplete engine s
  | .fhpInvalidFrame => Sys2Proof.Machine.execFhpInvalidFrame s

end Sys2Proof.Machine
end

