-- ==== Sys2Proof/Safety.lean ====
section
/-! DEFINITION. The words that claims about the block use: a step that goes on, what an accepted command leaves in the host
ports and the recorder, and the canonical form of the tables. -/
namespace Sys2Proof.Machine

/-- A step that goes on. -/
def Out.goes (o : Out) : Prop := ∃ t, o = .next t

/-- A state from which the next step goes on. -/
def State.safe (s : State) : Prop := Out.goes (step s)

/-- The state as a command finds it at the boundary that takes it: counted among the 48 of the boundary and noted for the flight
window (R62, Table 11.8), and its own counter written (R469). -/
def State.accepting (s : State) (h : CmdHeader) (op : Nat) (payload : List Byte) : State :=
  spendCounter h (noteTaken h op payload s)

/-- The reply of an accepted command; the frame that the boundary has opened is its acceptance frame (R61, R465). -/
def State.replyTo (s : State) (h : CmdHeader) (op status : Nat) (body : List Byte) : List Byte :=
  replyBytes s op status s.tim.frame h.counter h.key body

/-- The counters after an accepted command: the slot of its MAC holds its counter (R469). -/
def State.countersAfter (s : State) (h : CmdHeader) : Tab Nat :=
  match h.key with
  | none => s.hst.accCtr
  | some k => s.hst.accCtr.put k h.counter

/-- What an accepted command leaves in the recorder and in the count of its boundary: its COMMAND record joins those of its
acceptance frame (R309), its header and payload those of the flight window (Table 11.8), and it is one of the boundary's 48
(R62). -/
def Recorded (h : CmdHeader) (op status : Nat) (payload : List Byte) (s t : State) : Prop :=
  t.recd.frameRecs = s.recd.frameRecs ++ [{ commandRecord s h op status payload with frame := s.tim.frame }] ∧
  t.recd.cmdItems = s.recd.cmdItems ++ [commandItem (headerBytes h op payload.length) payload op] ∧
  t.tim.taken = s.tim.taken + 1

/-- What an answered command leaves in the ports: its counter, its reply in its mailbox or, for the peer, in FORWARD_REPLY
(R387, R461, R465); and nothing else there. -/
def Replied (h : CmdHeader) (op status : Nat) (body : List Byte) (s t : State) : Prop :=
  (h.port = .peer →
    t.hst = { s.hst with accCtr := s.countersAfter h } ∧
    t.red = { s.red with sent := s.red.sent ++ [.forwardReply (h.mbox - 4) (s.replyTo h op status body)] }) ∧
  (h.port ≠ .peer →
    t.hst = { s.hst with
      accCtr := s.countersAfter h
      mboxes := s.hst.mboxes.modify h.mbox fun m =>
        { m with st := .done, ready := true, reply := s.replyTo h op status body } } ∧
    t.red = s.red)

/-- The record and the reply of an answered command. -/
def Answered (h : CmdHeader) (op status : Nat) (payload body : List Byte) (s t : State) : Prop :=
  Recorded h op status payload s t ∧ Replied h op status body s t

/-- A command whose reply comes later: a record is made and the reply is noted with its acceptance frame; the ports are
otherwise those of w, in which the command's own effect there stands (R480). -/
def PutOff (h : CmdHeader) (op : Nat) (payload : List Byte) (w : Hst) (s t : State) : Prop :=
  Recorded h op 0 payload s t ∧ t.red = s.red ∧
  t.hst = { w with
    accCtr := s.countersAfter h
    deferred := s.hst.deferred ++ [{ port := h.port, mbox := h.mbox, opcode := op, frame := s.tim.frame
                                     counter := h.counter, key := h.key }] }

/-- What the commits of waiting frames may touch in the recorder: the records on their way and the staging ring, with its
counts; in the two logs the count of records that a freeze has dropped. -/
def Rec.committed (r q : Rec) : Rec :=
  { r with
    frameRecs := q.frameRecs, waiting := q.waiting, staging := q.staging, stageNext := q.stageNext, seqNo := q.seqNo
    lostNext := q.lostNext, stageOvf := q.stageOvf, ovfRaised := q.ovfRaised, flushing := q.flushing
    freezeOvf := q.freezeOvf, flushFree := q.flushFree
    sealedLog := { r.sealedLog with frozeDrop := q.sealedLog.frozeDrop }
    openLog := { r.openLog with frozeDrop := q.openLog.frozeDrop } }

/-- What an accepted command may touch outside its own block: the running frame's records and flight items, its boundary's count,
the host ports and the peer's queue. The components of t are those of u but for these. -/
def OnlyPorts (u t : State) : Prop :=
  t = { u with recd := { u.recd with frameRecs := t.recd.frameRecs, cmdItems := t.recd.cmdItems }
               tim := { u.tim with taken := t.tim.taken }, hst := t.hst, red := { u.red with sent := t.red.sent } }

/-- State of a stage after its enable is commanded (Table 5.6): a start is held in a shutdown of the power die, and finds the
stage without an unmasked phase HALTED. -/
def stageAfterEnable (st : StageState) (on shut bare : Bool) : StageState :=
  match st with
  | .off => if on && !shut then (if bare then .halted else .running) else .off
  | .running => if on then .running else .stopping
  | .stopping => if on then .running else .stopping
  | .halted => if on then .halted else .off
  | .ovLatched => .ovLatched

/-- State of a domain after its enable is commanded (Table 7.4): a disable takes an ACTIVE or HELD domain out; an enabled one is
ACTIVE where a demand has come within the demand time-out, else HELD. -/
def domAfterEnable (x : Domain) (on : Bool) (timeout : Nat) : DomState :=
  if !on && x.live then .disabled
  else if on && x.st = .disabled then
    (if x.demandCur || (x.demanded && decide (x.demandAge < timeout)) then .active else .held)
  else x.st

/-- State of a slot or keeper after it is commanded on or off at the boundary that opens frame f (Tables 9.3 and 9.4). -/
def chanAfterSet (c : Nat) (x : Channel) (on : Bool) (insertFrames f : Nat) : ChState :=
  match x.st, on with
  | .disabled, true =>
    if isKeeper c then (if decide (x.vinRun < insertFrames) || x.cooling f then .empty else .starting)
    else if !x.seatS then .empty else if x.cooling f then .seating else .starting
  | .starting, false => .disabled
  | .on, false => .disabled
  | .seating, false => if x.pending then .disabled else .seating
  | st, _ => st

/-- State of a TRIPPED channel after a toggle at the boundary that opens frame f (Tables 9.3 and 9.4, R278). -/
def chanAfterToggle (c : Nat) (x : Channel) (insertFrames f : Nat) : ChState :=
  if isTie c then (if x.cooling f then .tripped else .empty)
  else if isSlot c && !x.seatS then .empty
  else if x.cooling f then .tripped
  else if isKeeper c && decide (x.vinRun < insertFrames) then .empty
  else .starting

end Sys2Proof.Machine
end

