-- ==== Sys2Proof/WellFormed.lean ====
section
/-! DEFINITION. Which operands a command can carry: every payload field within its width (Tables 17.4 to 17.6), every index
within the objects that the spec gives the device. -/
namespace Sys2Proof

/-- A number that fits in n bytes. -/
def fitsBytes (n v : Nat) : Bool := decide (v < 256 ^ n)

/-- A mailbox of the port: 0 and 1 on MGT, 2 and 3 on FHP, 4 to 7 for the four mailboxes of a peer's FORWARD. -/
def CmdHeader.mboxOk (h : CmdHeader) : Bool :=
  match h.port with
  | .mgt => decide (h.mbox < 2)
  | .fhp => decide (2 ≤ h.mbox ∧ h.mbox < 4)
  | .peer => decide (4 ≤ h.mbox ∧ h.mbox < 8)

/-- A header: a mailbox of its port, a 32-bit counter, one of the four key slots (Tables 16.6, 16.8). -/
def CmdHeader.wf (h : CmdHeader) : Bool :=
  h.mboxOk && fitsBytes 4 h.counter && h.key.all (fun k => decide (k < 4))

/-- Operands within what the command's encoding or the device's objects admit. -/
def Instr.wf (i : Instr) : Bool :=
  match i with
  | .cmdChipIdent h => h.wf
  | .cmdSysReset h => h.wf
  | .cmdSysLifecycle h x1 => h.wf && fitsBytes 1 x1
  | .cmdSysKeyProgram h x1 x2 => h.wf && fitsBytes 1 x1 && decide (x2.length = 32)
  | .cmdSysRootProgram h x1 x2 => h.wf && fitsBytes 1 x1 && decide (x2.length = 48)
  | .cmdChassisTimeSet h x1 => h.wf && fitsBytes 8 x1
  | .cmdHstNop h x1 => h.wf && decide (x1.length ≤ 64)
  | .cmdFltReactionSet h x1 x2 _ => h.wf && fitsBytes 1 x1 && fitsBytes 1 x2
  | .cmdFltLostClear h => h.wf
  | .cmdPeakClear h x1 x2 => h.wf && fitsBytes 4 x1 && fitsBytes 1 x2
  | .cmdWmSet h x1 _ x3 x4 x5 _ _ => h.wf && fitsBytes 1 x1 && fitsBytes 2 x3 && fitsBytes 2 x4 && fitsBytes 1 x5
  | .cmdLoopEnable h _ _ => h.wf
  | .cmdLoopRestore h x1 => h.wf && fitsBytes 1 x1
  | .cmdStageEnable h x1 _ => h.wf && fitsBytes 1 x1
  | .cmdStageModeSet h x1 x2 => h.wf && fitsBytes 1 x1 && fitsBytes 1 x2
  | .cmdStageRefSet h x1 x2 x3 => h.wf && fitsBytes 1 x1 && fitsBytes 1 x2 && decide (-2147483648 ≤ x3 ∧ x3 < 2147483648)
  | .cmdStageOvClear h x1 => h.wf && fitsBytes 1 x1
  | .cmdPhaseUnmask h x1 => h.wf && fitsBytes 1 x1
  | .cmdRectParkSet h x1 x2 => h.wf && fitsBytes 1 x1 && fitsBytes 1 x2
  | .cmdRectReturn h x1 => h.wf && fitsBytes 1 x1
  | .cmdShedRelease h => h.wf
  | .cmdDomainEnable h x1 _ => h.wf && fitsBytes 2 x1
  | .cmdDomainSet h x1 _ x3 x4 x5 => h.wf && fitsBytes 2 x1 && fitsBytes 1 x3 && fitsBytes 4 x4 && fitsBytes 1 x5
  | .cmdGrantSet h x1 _ x3 => h.wf && fitsBytes 2 x1 && fitsBytes 4 x3
  | .cmdLehrCapSet h x1 => h.wf && fitsBytes 4 x1
  | .cmdBatSocSet h x1 x2 x3 => h.wf && fitsBytes 1 x1 && fitsBytes 4 x2 && fitsBytes 4 x3
  | .cmdBatRelearn h x1 => h.wf && fitsBytes 1 x1
  | .cmdBatCyclesSet h x1 x2 => h.wf && fitsBytes 1 x1 && fitsBytes 4 x2
  | .cmdBatZtableReset h x1 => h.wf && fitsBytes 1 x1
  | .cmdBatZtableRead h x1 => h.wf && fitsBytes 1 x1
  | .cmdHswSet h x1 _ => h.wf && fitsBytes 1 x1
  | .cmdHswToggle h x1 => h.wf && fitsBytes 1 x1
  | .cmdHswLimitSet h x1 x2 => h.wf && fitsBytes 1 x1 && fitsBytes 4 x2
  | .cmdHswFailClear h x1 => h.wf && fitsBytes 1 x1
  | .cmdSeqGroupSet h x1 _ => h.wf && fitsBytes 1 x1
  | .cmdSeqClear h x1 => h.wf && fitsBytes 1 x1
  | .cmdSeqLogRead h x1 => h.wf && fitsBytes 4 x1
  | .cmdSeqLogClear h => h.wf
  | .cmdRecFlush h => h.wf
  | .cmdRecFreeze h x1 => h.wf && fitsBytes 1 x1
  | .cmdRecThaw h x1 => h.wf && fitsBytes 1 x1
  | .cmdRecOpenClear h => h.wf
  | .cmdRecSealedOpen h => h.wf
  | .cmdRecSealedClose h => h.wf
  | .cmdRecSealedClear h => h.wf
  | .cmdRecFlightTrigger h => h.wf
  | .cmdRecFlightRead h x1 x2 => h.wf && fitsBytes 4 x1 && fitsBytes 2 x2
  | .cmdRecFlightRelease h => h.wf
  | .cmdRecNote h x1 => h.wf && decide (x1.length = 32)
  | .cmdRedHandover h => h.wf
  | .cmdRedInhibit h _ => h.wf
  | .cmdTieRequest h x1 x2 => h.wf && fitsBytes 1 x1 && fitsBytes 4 x2
  | .cmdTieRelease h x1 => h.wf && fitsBytes 1 x1
  | .cmdTiePortSet h x1 _ _ => h.wf && fitsBytes 1 x1
  | .cmdCanePortSet h x1 _ => h.wf && fitsBytes 1 x1
  | .cmdCaneNodeRetry h x1 x2 => h.wf && fitsBytes 1 x1 && fitsBytes 1 x2
  | .cmdPmbRecover h x1 => h.wf && fitsBytes 1 x1
  | .cmdPmbTransact h x1 x2 x3 x4 _ x6 => h.wf && fitsBytes 1 x1 && fitsBytes 1 x2 && fitsBytes 1 x3 && fitsBytes 1 x4 && fitsBytes 2 x6
  | .cmdBchBegin h x1 x2 x3 => h.wf && fitsBytes 4 x1 && fitsBytes 2 x2 && decide (x3.length = 48)
  | .cmdBchChunk h x1 x2 x3 x4 => h.wf && fitsBytes 2 x1 && fitsBytes 1 x2 && fitsBytes 4 x3 && decide (x4.length = 512)
  | .cmdBchAbandon h => h.wf
  | .cmdBchStatus h => h.wf
  | .cmdBchActivate h x1 x2 => h.wf && fitsBytes 4 x1 && decide (x2.length = 48)
  | .cmdBchRootRevoke h x1 => h.wf && fitsBytes 1 x1
  | .cmdMemBistSlice h x1 => h.wf && fitsBytes 1 x1
  | .cmdMemBistFull h => h.wf
  | .commandVerified => true
  | .lockoutEnd _ => true
  | .authCountRestart _ => true
  | .fuseBlowComplete _ => true
  | .deferredMramReadComplete _ => true
  | .chunkWriteComplete => true
  | .doorbellNormal _ => true
  | .doorbellUrgent _ => true
  | .replyReadyClear _ _ => true
  | .busyRingClear _ _ => true
  | .lopEnableWrite _ _ => true
  | .sysLockSet _ => true
  | .timFrameLoRead _ => true
  | .timChassisLoRead _ => true
  | .timSlackWorstRead _ => true
  | .fltIntOvfRead _ => true
  | .msrCapOvfRead _ => true
  | .fltIntData3Read _ => true
  | .msrCapData3Read _ => true
  | .fltErrClearWrite _ => true
  | .fltNmaCauseClear _ => true
  | .wmEventClear x0 _ => decide (x0 < 8)
  | .batLevelEventClear _ => true
  | .hswTripEventClear x0 _ => decide (x0 < 2)
  | .lehDomSelWrite _ x1 => fitsBytes 4 x1
  | .hswChSelWrite _ x1 => fitsBytes 4 x1
  | .seqRailSelWrite _ x1 => fitsBytes 4 x1
  | .tieMarkerSelWrite _ x1 => fitsBytes 4 x1
  | .pntNodeSelWrite _ x1 => fitsBytes 4 x1
  | .pmbPortSelWrite _ x1 => fitsBytes 4 x1
  | .fltReactSelWrite _ x1 => fitsBytes 4 x1
  | .hstKeySelWrite _ x1 => fitsBytes 4 x1
  | .peekEntryRead _ x1 => decide (x1 < 256)
  | .registerWrite _ x1 x2 => decide (x1 < 65536) && decide (1 ≤ x2.length)
  | .mgtWriteTransaction x0 _ => decide (x0 < 128)
  | .mgtReadTransaction x0 _ => decide (x0 < 128)
  | .mgtStartStopAbandon _ _ => true
  | .sdaReleased => true
  | .inBandRequest _ => true
  | .fhpWrite x0 x1 x2 => fitsBytes 4 x0 && decide (1 ≤ x1.length ∧ x1.length ≤ 4096) && fitsBytes 2 x2
  | .fhpRead x0 x1 x2 _ => fitsBytes 4 x0 && fitsBytes 2 x1 && fitsBytes 2 x2
  | .fhpQuadRead x0 x1 x2 _ => fitsBytes 4 x0 && fitsBytes 2 x1 && fitsBytes 2 x2
  | .fhpStatus => true
  | .hostNvWriteComplete => true
  | .syncEdgeAccepted _ _ => true
  | .syncEdgeEarly => true
  | .syncEdgeMissed => true
  | .syncAcquireTimeout => true
  | .tickBoundary _ => true
  | .frameBoundary _ => true
  | .frameNumberSave => true
  | .trefLoss => true
  | .trefMeasurementComplete _ => true
  | .trefLock => true
  | .ppsEdge => true
  | .ppsLoss => true
  | .fastConversion x0 x1 _ => decide (x0 < 8) && decide (x1 < 16)
  | .slowConversionComplete x0 _ => decide (x0 < 2)
  | .wmComparatorEdge x0 _ _ _ _ => decide (x0 < 128)
  | .wmNarrowStep x0 => decide (x0 < 128)
  | .sensorRestored x0 => decide (x0 < 20)
  | .thermSubwindowEnd => true
  | .overtempShutdown _ => true
  | .overtempRelease _ => true
  | .blendEnd x0 => decide (x0 < 8)
  | .residual x0 x1 => decide (x0 < 8) && decide (x1 < 8)
  | .onTimeStart x0 => decide (x0 < 24)
  | .blankingEnd x0 => decide (x0 < 24)
  | .peakComparatorTrip x0 => decide (x0.phase < 24)
  | .cycleLimitTrip x0 _ => decide (x0 < 24)
  | .maxDutyClamp x0 => decide (x0 < 24)
  | .cycleLimit x0 => decide (x0 < 24)
  | .shedStart x0 => decide (x0 < 6)
  | .phaseShed x0 => decide (x0 < 6)
  | .phaseOpen x0 => decide (x0 < 24)
  | .pmbPoll x0 => decide (x0 < 8)
  | .pmbTransactionComplete x0 _ => decide (x0 < 8)
  | .pmbAlert x0 => decide (x0 < 8)
  | .pmbStretchTimeout x0 => decide (x0 < 8)
  | .pmbBusHung x0 _ => decide (x0 < 8)
  | .pmbRecoveryRetry x0 _ => decide (x0 < 8)
  | .rectNoAck x0 => decide (x0 < 36)
  | .rectSilent x0 => decide (x0 < 36)
  | .rectUnparkTimeout x0 => decide (x0 < 36)
  | .rectServing x0 => decide (x0 < 36)
  | .shareTol x0 => decide (x0 < 36)
  | .rectPark => true
  | .handbackStart => true
  | .shedInterval _ => true
  | .demandSilent x0 => decide (x0 < 512)
  | .grantRefresh x0 => decide (x0 < 512)
  | .startupGrantHoldEnd => true
  | .grantOverdraw x0 => decide (x0 < 512)
  | .enforceStart x0 => decide (x0 < 48)
  | .enforceEnd x0 => decide (x0 < 48)
  | .bgResume => true
  | .recorderHousekeeping => true
  | .sramScrubStripe _ => true
  | .mramScrubLine _ => true
  | .bistSlice _ _ => true
  | .pointCompaction => true
  | .ztableWrite => true
  | .integrationStepClose x0 => decide (x0 < 6)
  | .restCorrection x0 => decide (x0 < 6)
  | .voltageCorrection x0 => decide (x0 < 6)
  | .chargeTermination x0 => decide (x0 < 6)
  | .chargeTimeout x0 => decide (x0 < 6)
  | .inhibitClear x0 => decide (x0 < 6)
  | .eodReached x0 => decide (x0 < 6)
  | .endClear x0 => decide (x0 < 6)
  | .impedanceUpdate x0 => decide (x0 < 64)
  | .cycleRecordQueue x0 => decide (x0 < 6)
  | .moduleSilent x0 => decide (x0 < 64)
  | .currentLimitEngage x0 => decide (x0.chan < 54)
  | .timerTrip x0 => decide (x0.chan < 54)
  | .gatePulldownDelay x0 => decide (x0 < 54)
  | .breakerTrip x0 => decide (x0 < 54)
  | .seatDebounceComplete x0 => decide (x0 < 48)
  | .coolDownEnd x0 => decide (x0 < 54)
  | .gateStuck x0 => decide (x0 < 54)
  | .fetShort x0 => decide (x0 < 54)
  | .keeperInsertDelayEnd x0 => decide (x0 < 4)
  | .keeperVinOv x0 => decide (x0 < 4)
  | .ewAssert x0 => decide (x0 < 4)
  | .railEdge x0 => decide (x0 < 4096)
  | .riseTimeout x0 => decide (x0 < 4096)
  | .fallTimeout x0 => decide (x0 < 4096)
  | .railUv x0 => decide (x0 < 4096)
  | .railOv x0 => decide (x0 < 4096)
  | .retryClear x0 => decide (x0 < 4096)
  | .seqfSeen => true
  | .minOffEnd x0 => decide (x0 < 64)
  | .groupUnfreeze x0 => decide (x0 < 64)
  | .flushComplete => true
  | .sealedSessionExpiry _ => true
  | .freezeLapsed x0 => decide (x0 < 2)
  | .pfiAssert => true
  | .powerFailFlushComplete => true
  | .flightPostEnd => true
  | .flightCopyComplete => true
  | .faultMessage _ => true
  | .faultDispatch => true
  | .chipReset => true
  | .errPulseEnd => true
  | .alertPinMinLowEnd _ => true
  | .bypass => true
  | .samplePreload _ => true
  | .extest => true
  | .idcode => true
  | .clamp => true
  | .highz => true
  | .intScan => true
  | .intMbist => true
  | .intMemacc => true
  | .holdNPulse => true
  | .peerLiveTimeout => true
  | .peerAck x0 => decide (x0 < 65536)
  | .peerHello _ _ _ _ _ => true
  | .peerRenew _ _ _ => true
  | .peerMirror _ x1 x2 => fitsBytes 2 x1 && decide (x2.length ≤ 272)
  | .peerMirrorEnd _ _ _ _ => true
  | .peerCounter _ x1 x2 => decide (x1 < 4) && fitsBytes 4 x2
  | .peerCounterAck _ x1 x2 => decide (x1 < 4) && fitsBytes 4 x2
  | .peerForward _ x1 x2 => decide (x1 < 4) && decide (x2.length ≤ 1024)
  | .peerForwardReply _ x1 x2 => decide (x1 < 4) && decide (x2.length ≤ 1024)
  | .peerGuard _ x1 => decide (x1 < 54)
  | .peerGuardAck _ x1 => decide (x1 < 54)
  | .peerYield _ _ => true
  | .peerCrcDiscard => true
  | .peerRetransmit => true
  | .renewSend => true
  | .holdSilent => true
  | .peerSilent => true
  | .puntyClaim _ _ => true
  | .claimDrive => true
  | .displaced => true
  | .guardTrip x0 => decide (x0 < 54)
  | .irlerAck x0 x1 => decide (x0 < 2) && decide (x1 < 256)
  | .irlerHello x0 x1 _ _ _ _ _ => decide (x0 < 2) && decide (x1 < 256)
  | .irlerRequest x0 x1 _ _ _ => decide (x0 < 2) && decide (x1 < 256)
  | .irlerOffer x0 x1 _ _ _ => decide (x0 < 2) && decide (x1 < 256)
  | .irlerAccept x0 x1 _ _ => decide (x0 < 2) && decide (x1 < 256)
  | .irlerRefuse x0 x1 _ => decide (x0 < 2) && decide (x1 < 256)
  | .irlerCollision x0 x1 _ => decide (x0 < 2) && decide (x1 < 256)
  | .irlerMatch x0 x1 _ => decide (x0 < 2) && decide (x1 < 256)
  | .irlerClosed x0 x1 _ => decide (x0 < 2) && decide (x1 < 256)
  | .irlerRenew x0 x1 _ _ => decide (x0 < 2) && decide (x1 < 256)
  | .irlerRelease x0 x1 _ => decide (x0 < 2) && decide (x1 < 256)
  | .irlerMarkerData x0 x1 _ _ _ _ => decide (x0 < 2) && decide (x1 < 256)
  | .irlerCrc x0 => decide (x0 < 2)
  | .irlerRetransmit x0 => decide (x0 < 2)
  | .irlerLineCollision x0 => decide (x0 < 2)
  | .irlerBackoffEnd x0 => decide (x0 < 2)
  | .irlerSendStart x0 => decide (x0 < 2)
  | .offerTimeout x0 => decide (x0 < 2)
  | .tieMatchFail x0 => decide (x0 < 2)
  | .farEndSilent x0 => decide (x0 < 2)
  | .tieLeaseExpiry x0 => decide (x0 < 2)
  | .tieRenewSend x0 => decide (x0 < 2)
  | .releaseDeadline x0 => decide (x0 < 2)
  | .markerReadInterval x0 => decide (x0 < 2)
  | .resumeWindowExpiry x0 => decide (x0 < 2)
  | .caneLinkUp x0 => decide (x0 < 16)
  | .caneLinkDown x0 => decide (x0 < 16)
  | .caneAck x0 x1 => decide (x0 < 64) && decide (x1 < 65536)
  | .canePointUpdate x0 x1 _ => decide (x0 < 64) && decide (x1 < 65536)
  | .caneDemand x0 x1 _ => decide (x0 < 64) && decide (x1 < 65536)
  | .caneFaultNote x0 x1 _ _ => decide (x0 < 64) && decide (x1 < 65536)
  | .caneNodeInfo x0 _ x2 _ _ _ => decide (x0 < 16) && decide (x2 < 64)
  | .caneCrc x0 => decide (x0 < 16)
  | .caneRetransmit x0 => decide (x0 < 64)
  | .nodeQuery x0 => decide (x0 < 16)
  | .nodeLost x0 => decide (x0 < 64)
  | .activationVerifyComplete => true
  | .activationLoadComplete => true
  | .commitMarkerWritten => true
  | .activationSwitch => true
  | .activationPauseEnd => true
  | .activationDone => true
  | .warmerPeriod _ => true
  | .coreRelease => true
  | .supplyOutOfRange x0 => decide (x0 < 9)
  | .supplySettleTimeout => true
  | .offMinEnd => true
  | .powerOnCold => true
  | .powerOn => true
  | .pinReset => true
  | .boot _ => true
  | .dieLinkWordSend => true
  | .coreDieAbsent => true
  | .dieLinkLoss => true
  | .dieLinkError _ => true
  | .freeRunPhaseZero => true
  | .syncOutEdge _ => true
  | .currentLimitRelease x0 => decide (x0.chan < 54)
  | .pullCountedAsToggle x0 => decide (x0 < 48)
  | .supplyInRange x0 => decide (x0 < 9)
  | .loopEvaluationComplete x0 _ _ => decide (x0 < 8)
  | .frameWorkComplete _ => true
  | .fhpInvalidFrame => true

end Sys2Proof
end

