-- ==== Sys2Proof/Certificates/Slice0/Obligations.lean ====
section
/-! DEFINITION. The statements for the provers. Where a statement names what an accepted command leaves, its acceptance frame is
the frame that the boundary opens (R61), and Answered, PutOff and OnlyPorts (Safety.lean) say what stands in the host ports
and that every other component stands. -/
open Sys2Proof Sys2Proof.Machine

/-- Queries and fuses of the catalogue (from R339, R480, R482, R487, R488, R497, R516, R517): each query answers OK with the bytes
of its row of Tables 17.4 and 17.6 and changes nothing but the ports and the records, FLT_LOST_CLEAR answering the count it
clears; a row that ends in a blow of fuses joins the blows in progress where the slot, root or transition permits it, its reply
deferred. The slot that BCH_STATUS answers where none is active is a free
value. Where a clause rests on the model's reading, see log entries 7, 8 and 33. -/
def Obligations.QueryAndFuseCommands : Prop :=
  (∀ h s, s.takes = true → ∃ t, exec (.cmdChipIdent h) s = .next t ∧
    Answered h 0x0001 0 (payloadOf (.cmdChipIdent h)) (leBytes 4 0x3AB09400 ++ leBytes 8 s.otp.serial ++ leBytes 1 (lifeCode s.otp.lifecycle) ++
      leBytes 1 (puntyCode s.red.st) ++ leBytes 1 (b2n s.sys.crucible) ++ [0] ++ s.identDigest ++
      leBytes 4 s.identVersion) s t ∧ OnlyPorts s t) ∧
  (∀ h bytes s, s.takes = true → ∃ t, exec (.cmdHstNop h bytes) s = .next t ∧
    Answered h 0x0301 0 (payloadOf (.cmdHstNop h bytes)) bytes s t ∧ OnlyPorts s t) ∧
  (∀ h s, s.takes = true → ∃ t, exec (.cmdFltLostClear h) s = .next t ∧
    Answered h 0x0402 0 (payloadOf (.cmdFltLostClear h)) (leBytes 4 s.flt.lost) s t ∧ OnlyPorts { s with flt := { s.flt with lost := 0 } } t) ∧
  (∀ h s k, s.takes = true → s.bch.active = some k → ∃ t, exec (.cmdBchStatus h) s = .next t ∧
    Answered h 0x1204 0 (payloadOf (.cmdBchStatus h)) (leBytes 1 (if !s.bch.staging then 0 else if s.bch.running then 3 else
        if s.bch.complete then 2 else 1) ++ leBytes 1 k ++ leBytes 2 s.bch.written ++ leBytes 4 s.bch.stVersion ++
      leBytes 4 s.bch.version ++ leBytes 4 s.bch.floorVersion ++ bitBytes 128 s.bch.bitmap.get) s t ∧ OnlyPorts s t) ∧
  (∀ h s, s.takes = true → s.bch.active = none → ∃ t b, exec (.cmdBchStatus h) s = .next t ∧
    Answered h 0x1204 0 (payloadOf (.cmdBchStatus h)) (leBytes 1 (if !s.bch.staging then 0 else if s.bch.running then 3 else
        if s.bch.complete then 2 else 1) ++ [b] ++ leBytes 2 s.bch.written ++ leBytes 4 s.bch.stVersion ++
      leBytes 4 s.bch.version ++ leBytes 4 s.bch.floorVersion ++ bitBytes 128 s.bch.bitmap.get) s t ∧
    OnlyPorts { s with free := s.free + 1 } t) ∧
  (∀ h target s, s.takes = true → s.lifePermits target = true → s.blowing 0 0 = false → ∃ t, exec (.cmdSysLifecycle h target) s = .next t ∧
      PutOff h 0x0102 (payloadOf (.cmdSysLifecycle h target))
        { s.hst with fuse := s.hst.fuse ++ [(0, 0, [BitVec.ofNat 8 target], h.mbox)] } s t ∧ OnlyPorts s t) ∧
  (∀ h slot key s, s.takes = true → s.otp.lifecycle = .blank ∨ s.otp.lifecycle = .provisioned → slot ≤ 3 →
    bvGet s.otp.keyBlown slot = false → s.blowing 1 slot = false → ∃ t, exec (.cmdSysKeyProgram h slot key) s = .next t ∧
      PutOff h 0x0103 (payloadOf (.cmdSysKeyProgram h slot key))
        { s.hst with fuse := s.hst.fuse ++ [(1, slot, padTo 32 key, h.mbox)] } s t ∧ OnlyPorts s t) ∧
  (∀ h root hash s, s.takes = true → s.otp.lifecycle = .blank ∨ s.otp.lifecycle = .provisioned → root ≤ 3 →
    bvGet s.otp.rootBlown root = false → s.blowing 2 root = false → ∃ t, exec (.cmdSysRootProgram h root hash) s = .next t ∧
      PutOff h 0x0104 (payloadOf (.cmdSysRootProgram h root hash))
        { s.hst with fuse := s.hst.fuse ++ [(2, root, padTo 48 hash, h.mbox)] } s t ∧ OnlyPorts s t) ∧
  (∀ h root s, s.takes = true → root ≤ 3 → ¬ (s.bch.active.isSome = true ∧ s.bch.root = root) →
    (∃ r, r < 4 ∧ r ≠ root ∧ bvGet s.otp.rootBlown r = true ∧ bvGet s.otp.revoked r = false) →
    ∃ t, exec (.cmdBchRootRevoke h root) s = .next t ∧
      PutOff h 0x1206 (payloadOf (.cmdBchRootRevoke h root))
        { s.hst with fuse := s.hst.fuse ++ [(3, root, [], h.mbox)] } s t ∧ OnlyPorts s t)


/-- The rows of the SYS_, TIM_ and MEM_ blocks that act on the whole device (from R53, R314, R363, R514): a command reset is asked
for with its acceptance frame, and a running flush then runs without its quota; chassis time is set at the next PPS edge, or at
once where PPS is not enabled; a self-test slice waits for its turn and its reply for the slice. Where a clause rests on the
model's reading, see log entry 7. -/
def Obligations.SystemCommands : Prop :=
  (∀ h s, s.takes = true → ∃ t, exec (.cmdSysReset h) s = .next t ∧
    Answered h 0x0101 0 (payloadOf (.cmdSysReset h)) [] s t ∧
    OnlyPorts { s with
      sys := { s.sys with resetPending := some 4, resetAt := s.tim.frame }
      recd := if s.recd.flushing then { s.recd with flushFree := true } else s.recd } t) ∧
  (∀ h s, s.takes = true → s.otp.lifecycle = .blank ∨ s.otp.lifecycle = .returned → s.anyLive = false →
    ∃ t, exec (.cmdMemBistFull h) s = .next t ∧
    Answered h 0x1302 0 (payloadOf (.cmdMemBistFull h)) [] s t ∧
    OnlyPorts { s with
      sys := { s.sys with resetPending := some 4, resetAt := s.tim.frame }
      mem := { s.mem with bistFull := true }
      recd := if s.recd.flushing then { s.recd with flushFree := true } else s.recd } t) ∧
  (∀ h target s, s.takes = true → target ≤ 90 → ¬ (target = 90 ∧ s.romFailed = true) →
    ∃ t, exec (.cmdMemBistSlice h target) s = .next t ∧
    PutOff h 0x1301 (payloadOf (.cmdMemBistSlice h target)) s.hst s t ∧
    OnlyPorts { s with mem := { s.mem with bistAsk := s.mem.bistAsk ++ [(target, h.mbox)] } } t) ∧
  (∀ h seconds s, s.takes = true → s.sys.crucible = false → seconds ≤ 18446744073 → s.cfg.ppsEn = true →
    ∃ t, exec (.cmdChassisTimeSet h seconds) s = .next t ∧
    Answered h 0x0201 0 (payloadOf (.cmdChassisTimeSet h seconds)) [] s t ∧
    OnlyPorts { s with tim := { s.tim with setPending := some seconds } } t) ∧
  (∀ h seconds s, s.takes = true → s.sys.crucible = false → seconds ≤ 18446744073 → s.cfg.ppsEn = false →
    ∃ t, exec (.cmdChassisTimeSet h seconds) s = .next t ∧
    Answered h 0x0201 0 (payloadOf (.cmdChassisTimeSet h seconds)) [] s t ∧
    OnlyPorts { s with tim := { s.tim with
      chassis := seconds * 1000000000, timeSet := true, setPending := none, chassisDebt := 0, frac := 0 } } t)

/-- CMD_FLT_REACTION_SET writes one entry of the reaction table, which holds the ROM defaults where no batch table is live, and
answers its old value (from R340, R347); CMD_WM_SET replaces the fields that its mask selects, and of a band that moves it takes
the widening threshold first and leaves the narrowing one to the next tick boundary (from R95); CMD_PEAK_CLEAR answers the
extremes of its points and lets them start anew (from R88). Where a clause rests on the model's reading, see log entries 7 and 17.
-/
def Obligations.TableCommands : Prop :=
  (∀ h block kind reactions s, s.takes = true → kindExists block kind = true → bvGet reactions 7 = false →
    ¬ (bvGet reactions 2 = true ∧ resettable block = false) →
    ∃ t, exec (.cmdFltReactionSet h block kind reactions) s = .next t ∧
    Answered h 0x0401 0 (payloadOf (.cmdFltReactionSet h block kind reactions))
      [reactionOf s.flt.live s.flt.react block kind] s t ∧
    (∀ b k, b < 64 → k < 32 → reactionOf t.flt.live t.flt.react b k =
      if b = block ∧ k = kind then reactions else reactionOf s.flt.live s.flt.react b k) ∧
    OnlyPorts { s with flt := { s.flt with react := t.flt.react, live := true } } t) ∧
  (∀ h mon mask lower upper hyst uv ov s, s.takes = true → s.sys.crucible = false → s.monOn mon = true →
    (bvGet mask 0 = true → lower ≤ 1023) → (bvGet mask 1 = true → upper ≤ 1023) → (bvGet mask 2 = true → hyst ≤ 31) →
    ∃ t, exec (.cmdWmSet h mon mask lower upper hyst uv ov) s = .next t ∧
    Answered h 0x0502 0 (payloadOf (.cmdWmSet h mon mask lower upper hyst uv ov)) [] s t ∧
    OnlyPorts { s with msr := { s.msr with mons := s.msr.mons.modify mon fun x =>
      let rises := bvGet mask 0 && bvGet mask 1 && decide (x.lower < lower ∧ x.upper < upper)
      let falls := bvGet mask 0 && bvGet mask 1 && decide (lower < x.lower ∧ upper < x.upper)
      { x with
        lower := if bvGet mask 0 && !rises then lower else x.lower
        upper := if bvGet mask 1 && !falls then upper else x.upper
        narrowLower := if rises then some lower else if bvGet mask 0 then none else x.narrowLower
        narrowUpper := if falls then some upper else if bvGet mask 1 then none else x.narrowUpper
        hyst := if bvGet mask 2 then hyst else x.hyst
        uvRoute := if bvGet mask 3 then routeOf uv else x.uvRoute
        ovRoute := if bvGet mask 3 then routeOf ov else x.ovRoute } } } t) ∧
  (∀ h first count s, s.takes = true → s.sys.crucible = false → first < 262144 → 0 < count → count ≤ 120 →
    first / 4096 = (first + count - 1) / 4096 →
    ∃ t, exec (.cmdPeakClear h first count) s = .next t ∧
    Answered h 0x0501 0 (payloadOf (.cmdPeakClear h first count))
      (((List.range count).map (first + ·)).flatMap fun id =>
        leInt 4 (s.pnt.shadow.get id).maxv ++ leInt 4 (s.pnt.shadow.get id).minv) s t ∧
    OnlyPorts { s with pnt := { s.pnt with
      shadow := s.pnt.shadow.modifyAll (((List.range count).map (first + ·)).filter fun id => ptType s.cfg id ≠ 0)
        fun _ p => { p with maxv := p.value, minv := p.value }
      acc := s.pnt.acc.modifyAll (((List.range count).map (first + ·)).filter fun id => ptType s.cfg id ≠ 0)
        fun _ a => { a with peakArm := true } } } t)

/-- The LOP_ and STG_ rows of the catalogue (from R133, R135, R157, R159, R160, R161, R166, R174, Table 5.6), for every operand
that they do not refuse: what each leaves of its object, with every other component of the device as it was. Where a clause rests
on the model's reading, see log entries 7, 23 and 46. -/
def Obligations.LoopStageCommands : Prop :=
  (∀ h changed value s, s.takes = true → s.sys.crucible = false →
    (∀ l, l < 8 → bvGet changed l = true → s.loopDeclared l = true) →
    (0 < s.lanes ∨ ∀ l, l < 8 → bvGet changed l = true → bvGet value l = false) →
    ∃ t, exec (.cmdLoopEnable h changed value) s = .next t ∧
      Answered h 0x0601 0 (payloadOf (.cmdLoopEnable h changed value)) [] s t ∧
      (∀ l, l < 8 → (t.loop l).enabled = if bvGet changed l then bvGet value l else (s.loop l).enabled) ∧
      OnlyPorts { s with lop := t.lop, stg := t.stg, flt := { s.flt with inflight := t.flt.inflight } } t) ∧
  (∀ h loop s, s.takes = true → s.sys.crucible = false → loop < 8 → (s.loop loop).rset ≠ 0 →
    (s.loop loop).stopped = false → (s.loop loop).enabled = true →
    ∃ t, exec (.cmdLoopRestore h loop) s = .next t ∧
      Answered h 0x0602 0 (payloadOf (.cmdLoopRestore h loop)) [] s t ∧
      (t.loop loop).rset = 0 ∧ (t.loop loop).running = true ∧ (t.loop loop).enabled = true ∧
      (t.loop loop).xh = List.replicate (s.cfg.loops.get loop).n 0 ∧ (t.loop loop).policySet = none ∧
      (∀ m, m ≠ loop → t.loop m = s.loop m) ∧ OnlyPorts { s with lop := t.lop } t) ∧
  (∀ h stage on s, s.takes = true → s.sys.crucible = false → s.stageUsed stage = true →
    ∃ t, exec (.cmdStageEnable h stage on) s = .next t ∧
      Answered h 0x0701 0 (payloadOf (.cmdStageEnable h stage on)) [] s t ∧
      (t.stage stage).enabled = on ∧
      (t.stage stage).st = stageAfterEnable (s.stage stage).st on s.sys.pdShutSampled (s.unmasked stage).isEmpty ∧
      (∀ m, m ≠ stage → t.stage m = s.stage m) ∧
      OnlyPorts { s with lop := t.lop, stg := t.stg, flt := { s.flt with inflight := t.flt.inflight } } t) ∧
  (∀ h stage mode s, s.takes = true → s.sys.crucible = false → s.stageUsed stage = true →
    StageCfgPermits (s.cfg.stages.get stage) mode = true → s.chargeOwned stage = false →
    ¬ (mode = 2 ∧ s.stageEnded stage = true) →
    ∃ t, exec (.cmdStageModeSet h stage mode) s = .next t ∧
      Answered h 0x0702 0 (payloadOf (.cmdStageModeSet h stage mode)) [] s t ∧
      (t.stage stage).cmdMode = some (modeOf mode) ∧ (t.stage stage).st = (s.stage stage).st ∧
      (t.stage stage).mode = (if s.stageEnded stage then .idle
        else if (s.cfg.stages.get stage).battery && (s.stage stage).st = .running && (s.stage stage).inHoldup then .discharge
        else modeOf mode) ∧
      OnlyPorts { s with lop := t.lop, stg := t.stg, flt := { s.flt with inflight := t.flt.inflight } } t) ∧
  (∀ h stage target value s, s.takes = true → s.sys.crucible = false → s.stageUsed stage = true →
    s.chargeOwned stage = false →
    (target = 0 ∧ (s.cfg.stages.get stage).vMin ≤ value ∧ value ≤ (s.cfg.stages.get stage).vMax ∨
     target = 1 ∧ 0 ≤ value ∧ (value ≤ (s.cfg.stages.get stage).iChgMax ∨ value ≤ (s.cfg.stages.get stage).iDisMax)) →
    ∃ t, exec (.cmdStageRefSet h stage target value) s = .next t ∧
      Answered h 0x0703 0 (payloadOf (.cmdStageRefSet h stage target value)) [] s t ∧
      OnlyPorts { s with stg := { s.stg with stages := s.stg.stages.modify stage fun x =>
        if target = 0 then { x with vTarget := value } else { x with iTarget := value } } } t) ∧
  (∀ h stage s, s.takes = true → s.sys.crucible = false → s.stageUsed stage = true →
    (s.stage stage).st = .ovLatched → s.roleOv (.stageOv stage) = false →
    ∃ t, exec (.cmdStageOvClear h stage) s = .next t ∧
      Answered h 0x0704 0 (payloadOf (.cmdStageOvClear h stage)) [] s t ∧
      (t.stage stage).ovLatch = false ∧
      (t.stage stage).st = (if (s.stage stage).enabled then
        (if (s.unmasked stage).isEmpty then .halted else .running) else .off) ∧
      OnlyPorts { s with lop := t.lop, stg := t.stg, flt := { s.flt with inflight := t.flt.inflight } } t) ∧
  (∀ h phase s, s.takes = true → s.sys.crucible = false → phase < 24 → (s.phase phase).masked = true →
    ¬ (s.stageOf phase < 6 ∧ (s.cfg.phases.get phase).loopInput < 8 ∧
      bvGet ((s.cfg.loops.get (s.stageOf phase)).excludes.get
        ((s.loop (s.stageOf phase)).policySet.getD (s.loop (s.stageOf phase)).rset))
        (s.cfg.phases.get phase).loopInput = true) →
    ∃ t, exec (.cmdPhaseUnmask h phase) s = .next t ∧
      Answered h 0x0705 0 (payloadOf (.cmdPhaseUnmask h phase)) [] s t ∧
      (t.phase phase).masked = false ∧ (t.phase phase).active = (t.stage (s.stageOf phase)).live ∧
      OnlyPorts { s with lop := t.lop, stg := t.stg, flt := { s.flt with inflight := t.flt.inflight } } t)

/-- The rows of the marver and the hold-up unit (from R183, R190, R201): a rectifier's park setting or return is noted for the
work of the frame, a park being refused where the park test fails; a release ends every standing shed limit and answers their
number. Where a clause rests on the model's reading, see log entries 7 and 36. -/
def Obligations.SharingCommands : Prop :=
  (∀ h rect setting s, s.takes = true → s.sys.crucible = false → s.rectUsed rect = true → setting ≤ 2 →
    (setting = 1 → s.parkTest rect = true) →
    ∃ t, exec (.cmdRectParkSet h rect setting) s = .next t ∧
      Answered h 0x0801 0 (payloadOf (.cmdRectParkSet h rect setting)) [] s t ∧
      OnlyPorts { s with shr := { s.shr with
        cur := { s.shr.cur with rects := s.shr.cur.rects.modify rect fun y => { y with
          park := if setting = 1 then .park else if setting = 2 then .unpark else .auto, parkNow := setting = 1 } }
        nxt := { s.shr.nxt with rects := s.shr.nxt.rects.modify rect fun y => { y with
          park := if setting = 1 then .park else if setting = 2 then .unpark else .auto, parkNow := setting = 1 } } } } t) ∧
  (∀ h rect s, s.takes = true → s.sys.crucible = false → s.rectUsed rect = true → (s.rectCur rect).st = .faulted →
    ∃ t, exec (.cmdRectReturn h rect) s = .next t ∧
      Answered h 0x0802 0 (payloadOf (.cmdRectReturn h rect)) [] s t ∧
      OnlyPorts { s with shr := { s.shr with
        cur := { s.shr.cur with rects := s.shr.cur.rects.modify rect fun y => { y with returnNow := true } }
        nxt := { s.shr.nxt with rects := s.shr.nxt.rects.modify rect fun y => { y with returnNow := true } } } } t) ∧
  (∀ h s, s.takes = true → s.sys.crucible = false →
    ∃ t, exec (.cmdShedRelease h) s = .next t ∧
      Answered h 0x0803 0 (payloadOf (.cmdShedRelease h)) (leBytes 1 s.shr.hold.standing.length) s t ∧
      (∀ c, (t.chan c).shed = if c ∈ s.shr.hold.standing then none else (s.chan c).shed) ∧
      (∀ c, c ∉ s.shr.hold.standing → t.chan c = s.chan c) ∧
      OnlyPorts { s with
        hsw := { s.hsw with chans := t.hsw.chans }
        flt := { s.flt with inflight := t.flt.inflight }
        shr := { s.shr with hold := { s.shr.hold with standing := [], trippedUnder := t.shr.hold.trippedUnder } } } t)

/-- The LEH_ rows (from R208, R212, R221, Table 7.4): they write a domain's enable, its priority, ceiling and weight, its pin, and
the host heat cap, in the results in effect and in the work of the frame alike. A lowered ceiling clamps the pin. Where a clause
rests on the model's reading, see log entry 7. -/
def Obligations.LehrCommands : Prop :=
  (∀ h dom on s, s.takes = true → s.sys.crucible = false → s.domUsed dom = true →
    ∃ t, exec (.cmdDomainEnable h dom on) s = .next t ∧
      Answered h 0x0901 0 (payloadOf (.cmdDomainEnable h dom on)) [] s t ∧
      (∀ d, ((t.leh.nxt.doms.get d).enabled, (t.leh.nxt.doms.get d).st) =
        if d = dom then (on, domAfterEnable (s.dom d) on s.cfg.lehr.demandTimeout)
        else ((s.dom d).enabled, (s.dom d).st)) ∧
      (∀ d, ((t.leh.cur.doms.get d).enabled, (t.leh.cur.doms.get d).st) =
        if d = dom then (on, domAfterEnable (s.leh.cur.doms.get d) on s.cfg.lehr.demandTimeout)
        else ((s.leh.cur.doms.get d).enabled, (s.leh.cur.doms.get d).st)) ∧
      OnlyPorts { s with leh := { s.leh with
        cur := { s.leh.cur with doms := t.leh.cur.doms }, nxt := { s.leh.nxt with doms := t.leh.nxt.doms } } } t) ∧
  (∀ h dom mask prio (ceiling : Nat) weight s, s.takes = true → s.sys.crucible = false → s.domUsed dom = true →
    (bvGet mask 0 = true → prio ≤ 15) →
    (bvGet mask 1 = true → (s.cfg.doms.get dom).floor ≤ (ceiling : Int) ∧ (ceiling : Int) ≤ (s.cfg.doms.get dom).ceiling) →
    (bvGet mask 2 = true → weight ≠ 0) →
    ∃ t, exec (.cmdDomainSet h dom mask prio ceiling weight) s = .next t ∧
      Answered h 0x0902 0 (payloadOf (.cmdDomainSet h dom mask prio ceiling weight)) [] s t ∧
      (let f := fun x : Domain => { x with
        prio := if bvGet mask 0 then prio else x.prio
        ceiling := if bvGet mask 1 then (ceiling : Int) else x.ceiling
        pin := if bvGet mask 1 then x.pin.map (fun p => min p (ceiling : Int)) else x.pin
        weight := if bvGet mask 2 then weight else x.weight }
      OnlyPorts { s with leh := { s.leh with
        cur := { s.leh.cur with doms := s.leh.cur.doms.modify dom f }
        nxt := { s.leh.nxt with doms := s.leh.nxt.doms.modify dom f } } } t)) ∧
  (∀ h dom pin (value : Nat) s, s.takes = true → s.sys.crucible = false → s.domUsed dom = true →
    (pin = true → (s.cfg.doms.get dom).floor ≤ (value : Int) ∧ (value : Int) ≤ (s.dom dom).ceiling) →
    ∃ t, exec (.cmdGrantSet h dom pin value) s = .next t ∧
      Answered h 0x0903 0 (payloadOf (.cmdGrantSet h dom pin value)) [] s t ∧
      OnlyPorts { s with leh := { s.leh with
        cur := { s.leh.cur with doms := s.leh.cur.doms.modify dom fun x => { x with pin := if pin then some (value : Int) else none } }
        nxt := { s.leh.nxt with doms := s.leh.nxt.doms.modify dom fun x => { x with pin := if pin then some (value : Int) else none } } } } t) ∧
  (∀ h cap s, s.takes = true → s.sys.crucible = false → cap ≤ 2147483647 →
    ∃ t, exec (.cmdLehrCapSet h cap) s = .next t ∧
      Answered h 0x0904 0 (payloadOf (.cmdLehrCapSet h cap)) [] s t ∧
      OnlyPorts { s with leh := { s.leh with
        cur := { s.leh.cur with hostCap := cap }, nxt := { s.leh.nxt with hostCap := cap } } } t)

/-- The BAT_ rows (from R242, R248, R249, R252): the state of charge and its confidence, a relearn, the cycle count with its
record for battery memory, and a module's impedance table, whose read is deferred. Where a clause rests on the model's reading,
see log entries 7 and 37. -/
def Obligations.BatteryCommands : Prop :=
  (∀ h string soc conf s, s.takes = true → s.sys.crucible = false → s.strUsed string = true → soc ≤ 1000000 →
    conf ≤ 1000000 →
    ∃ t, exec (.cmdBatSocSet h string soc conf) s = .next t ∧
      Answered h 0x0A01 0 (payloadOf (.cmdBatSocSet h string soc conf)) [] s t ∧
      (t.str string).qRem = divRhe ((soc : Int) * (s.str string).fccNas) 1000000 ∧ (t.str string).k = conf ∧
      (t.str string).init = false ∧
      (t.bat.cur.strings.get string).qRem = divRhe ((soc : Int) * (s.bat.cur.strings.get string).fccNas) 1000000 ∧
      (∀ n, n ≠ string → t.str n = s.str n ∧ t.bat.cur.strings.get n = s.bat.cur.strings.get n) ∧
      OnlyPorts { s with bat := { s.bat with
        cur := { s.bat.cur with strings := t.bat.cur.strings }, nxt := { s.bat.nxt with strings := t.bat.nxt.strings } } } t) ∧
  (∀ h string s, s.takes = true → s.sys.crucible = false → s.strUsed string = true →
    ∃ t, exec (.cmdBatRelearn h string) s = .next t ∧
      Answered h 0x0A02 0 (payloadOf (.cmdBatRelearn h string)) [] s t ∧
      OnlyPorts { s with bat := { s.bat with
        cur := { s.bat.cur with strings := s.bat.cur.strings.modify string fun x => { x with relearn := true } }
        nxt := { s.bat.nxt with strings := s.bat.nxt.strings.modify string fun x => { x with relearn := true } } } } t) ∧
  (∀ h string count s, s.takes = true → s.sys.crucible = false → s.strUsed string = true →
    ∃ t, exec (.cmdBatCyclesSet h string count) s = .next t ∧
      Answered h 0x0A03 0 (payloadOf (.cmdBatCyclesSet h string count))
        (leBytes 4 (s.bat.cur.strings.get string).cycles) s t ∧
      (t.str string).cycles = count ∧ (t.str string).disAcc = 0 ∧ (t.bat.cur.strings.get string).cycles = count ∧
      (∀ n, n ≠ string → t.str n = s.str n ∧ t.bat.cur.strings.get n = s.bat.cur.strings.get n) ∧
      t.bat.zq = (if s.bat.zq.length < 64 then s.bat.zq ++ [{ isCell := false, index := string, crec :=
        { cycles := count, disAcc := 0, fccMah := (s.str string).fccMah, relearn := (s.str string).relearn } }]
        else s.bat.zq) ∧
      OnlyPorts { s with flt := { s.flt with inflight := t.flt.inflight }, bat := { s.bat with
        cur := { s.bat.cur with strings := t.bat.cur.strings }, nxt := { s.bat.nxt with strings := t.bat.nxt.strings }
        zq := t.bat.zq, zDropped := t.bat.zDropped, zDropRaised := t.bat.zDropRaised } } t) ∧
  (∀ h module s, s.takes = true → s.sys.crucible = false → s.modUsed module = true →
    ∃ t, exec (.cmdBatZtableReset h module) s = .next t ∧
      Answered h 0x0A04 0 (payloadOf (.cmdBatZtableReset h module)) [] s t ∧
      (∀ k, t.bat.ztab.get k = if 128 * module ≤ k ∧ k < 128 * module + 128
        then { z := nth (s.cfg.strings.get (s.cfg.modules.get module).string).zDefault (k - 128 * module), n := 0 }
        else s.bat.ztab.get k) ∧
      (∀ k, t.bat.zlive.get k = if 128 * module ≤ k ∧ k < 128 * module + 128
        then { z := nth (s.cfg.strings.get (s.cfg.modules.get module).string).zDefault (k - 128 * module), n := 0 }
        else s.bat.zlive.get k) ∧
      OnlyPorts { s with bat := { s.bat with
        ztab := t.bat.ztab, zlive := t.bat.zlive, zq := t.bat.zq, zpend := t.bat.zpend } } t) ∧
  (∀ h module s, s.takes = true → s.sys.crucible = false → s.modUsed module = true →
    ∃ t, exec (.cmdBatZtableRead h module) s = .next t ∧
      PutOff h 0x0A05 (payloadOf (.cmdBatZtableRead h module)) { s.hst with
        defData := s.hst.defData.put h.mbox ((List.range 128).flatMap fun k =>
          leBytes 4 (natOf (s.bat.ztab.get (128 * module + k)).z % 16777216 +
            16777216 * (s.bat.ztab.get (128 * module + k)).n)) } s t ∧ OnlyPorts s t)

/-- The HSW_ rows (from Tables 9.3 and 9.4, R278, R280): the state that each leaves the channel in, with every other channel as it
was; a limit answers the code it takes effect as, and a cleared failure leaves the channel EMPTY with its gate off. Where a clause
rests on the model's reading, see log entries 7, 45 and 52. -/
def Obligations.ChannelCommands : Prop :=
  (∀ h chan on s, s.takes = true → s.sys.crucible = false → s.chanUsed chan = true → isTie chan = false →
    ∃ t, exec (.cmdHswSet h chan on) s = .next t ∧
      Answered h 0x0B01 0 (payloadOf (.cmdHswSet h chan on)) [] s t ∧
      (t.chan chan).enabled = on ∧ (t.chan chan).st = chanAfterSet chan (s.chan chan) on (s.cfg.chans.get chan).insertFrames s.tim.frame ∧
      (∀ c, c ≠ chan → t.chan c = s.chan c) ∧
      OnlyPorts { s with hsw := { s.hsw with chans := t.hsw.chans }, flt := { s.flt with inflight := t.flt.inflight } } t) ∧
  (∀ h chan s, s.takes = true → s.sys.crucible = false → chan < 54 → (s.chan chan).st = .tripped →
    (s.chan chan).pending = false →
    ∃ t, exec (.cmdHswToggle h chan) s = .next t ∧
      Answered h 0x0B02 0 (payloadOf (.cmdHswToggle h chan)) [] s t ∧
      (t.chan chan).st = chanAfterToggle chan (s.chan chan) (s.cfg.chans.get chan).insertFrames s.tim.frame ∧
      ((t.chan chan).st = .tripped → (t.chan chan).pending = true) ∧
      ((t.chan chan).st ≠ .tripped → (t.chan chan).pending = false) ∧
      ((t.chan chan).st ≠ .tripped → s.sys.pdShutdown = false → (s.chan chan).tripSeen = true →
        (t.chan chan).latched = none) ∧
      (∀ c, c ≠ chan → t.chan c = s.chan c) ∧
      OnlyPorts { s with hsw := { s.hsw with chans := t.hsw.chans }, flt := { s.flt with inflight := t.flt.inflight } } t) ∧
  (∀ h chan (limit : Nat) s, s.takes = true → s.sys.crucible = false → s.chanUsed chan = true → isTie chan = false →
    10 ≤ limRaw limit (s.cfg.chans.get chan).rSense → limRaw limit (s.cfg.chans.get chan).rSense ≤ 200 →
    (s.cfg.chans.get chan).limStart ≤ (limit : Int) →
    ∃ t, exec (.cmdHswLimitSet h chan limit) s = .next t ∧
      Answered h 0x0B03 0 (payloadOf (.cmdHswLimitSet h chan limit)) (leBytes 1 (t.effCode chan)) s t ∧
      OnlyPorts { s with hsw := { s.hsw with
        chans := s.hsw.chans.modify chan fun x => { x with limRun := some limit } } } t) ∧
  (∀ h chan s, s.takes = true → s.sys.crucible = false → chan < 54 → (s.chan chan).st = .failed →
    ∃ t, exec (.cmdHswFailClear h chan) s = .next t ∧
      Answered h 0x0B04 0 (payloadOf (.cmdHswFailClear h chan)) [] s t ∧
      OnlyPorts { s with hsw := { s.hsw with chans := s.hsw.chans.modify chan fun x => { x with
        gate := false, pg := false, pgRun := 0, limit := false, pullDue := false, gateUp := false
        held := none, st := .empty, latched := none, shutLatch := false, tripSeen := false, pending := false } } } t)

/-- The SEQ_ rows (from R296, R297, R302, Table 10.8): a group's target; a clear, which takes a LATCHED group to OFF, gives its
rails their retries back and releases SEQF_N with the last own failure; the log's deferred read, and its clear. Where a clause
rests on the model's reading, see log entries 7, 39 and 54. -/
def Obligations.SequencerCommands : Prop :=
  (∀ h group up s, s.takes = true → s.sys.crucible = false → s.groupUsed group = true →
    (up = true → (s.groupCur group).st ≠ .latched) →
    ∃ t, exec (.cmdSeqGroupSet h group up) s = .next t ∧
      Answered h 0x0C01 0 (payloadOf (.cmdSeqGroupSet h group up)) [] s t ∧
      OnlyPorts { s with seq := { s.seq with
        cur := s.seq.cur.modify group fun x => { x with target := up }
        nxt := s.seq.nxt.modify group fun x => { x with target := up } } } t) ∧
  (∀ h group s, s.takes = true → s.sys.crucible = false → s.groupUsed group = true →
    (s.groupCur group).st = .latched →
    ¬ ((s.cfg.groups.get group).cooperate = true ∧ s.seq.seqfSeen = true ∧ s.seq.seqfDrive = false) →
    ∃ t, exec (.cmdSeqClear h group) s = .next t ∧
      Answered h 0x0C02 0 (payloadOf (.cmdSeqClear h group)) [] s t ∧
      (t.groupCur group).st = .off ∧ (t.group group).st = .off ∧ (t.groupCur group).latching = false ∧
      (∀ g, g ≠ group → t.groupCur g = s.groupCur g ∧ t.group g = s.group g) ∧
      (∀ i, i ∈ s.groupRails group → (t.seq.rails.get i).retries = 0) ∧
      (∀ i, i ∉ s.groupRails group → t.seq.rails.get i = s.seq.rails.get i) ∧
      t.seq.seqfDrive = (s.seq.seqfDrive && s.groupsUsed.any fun g => decide (g ≠ group) &&
        (s.cfg.groups.get g).cooperate && (s.groupCur g).ownFail && (s.groupCur g).latching) ∧
      OnlyPorts { s with seq := { s.seq with
        cur := t.seq.cur, nxt := t.seq.nxt, rails := t.seq.rails, seqfDrive := t.seq.seqfDrive } } t) ∧
  (∀ h first s, s.takes = true → s.sys.crucible = false →
    ∃ t, exec (.cmdSeqLogRead h first) s = .next t ∧
      (let (l, last) := takeRecs 15 none (s.seq.recs.filter fun r => decide (first ≤ r.seq))
       let next := (last.map fun r => (r.seq + 1) % 4294967296).getD first
       PutOff h 0x0C03 (payloadOf (.cmdSeqLogRead h first)) { s.hst with
         defData := s.hst.defData.put h.mbox (leBytes 4 next ++ (l.map SeqRec.bytes).flatten) } s t) ∧ OnlyPorts s t) ∧
  (∀ h s, s.takes = true → s.sys.crucible = false →
    ∃ t, exec (.cmdSeqLogClear h) s = .next t ∧
      Answered h 0x0C04 0 (payloadOf (.cmdSeqLogClear h)) [] s t ∧
      OnlyPorts { s with seq := { s.seq with recs := [], nextSlot := 0 } } t)

/-- The REC_ rows (from R312, R320 to R323, R328, R329, R569, Tables 11.2 and 17.6): a flush cuts every unwritten record up to the
frame that the boundary ends, and a chip reset that is due waits for it; a freeze stands from its acceptance frame and an earlier
one keeps its own; a thaw answers the records that it dropped; a clear empties its log's pointers and releases the staged copies;
each but the flush commits its mark; a sealed session runs for sealed_lease frames, and the sealed log answers only a port with a session;
a flight trigger in RECORDING with the area free sets the trigger frame, any other is counted; a read of a held area is deferred;
a release frees it; a note joins the records of its acceptance frame ahead of its own COMMAND record. Where a clause rests on the
model's reading, see log entries 7 and 34. -/
def Obligations.RecorderCommands : Prop :=
  (∀ h s, s.takes = true →
    ∃ t, exec (.cmdRecFlush h) s = .next t ∧ Answered h 0x0D01 0 (payloadOf (.cmdRecFlush h)) [] s t ∧
      (∀ k, t.recd.staging.get k = { s.recd.staging.get k with
        inCut := (s.recd.staging.get k).inCut ||
          ((s.recd.staging.get k).unwritten && decide ((s.recd.staging.get k).record.frame ≤ s.tim.frame - 1)) }) ∧
      t.recd.flushFree = (s.recd.flushFree || decide (s.flt.chipDue = some (s.tim.frame - 1 + 1))) ∧
      t.flt.chipWait = (s.flt.chipWait || decide (s.flt.chipDue = some (s.tim.frame - 1 + 1))) ∧
      OnlyPorts { s with flt := { s.flt with chipWait := t.flt.chipWait }, recd := { s.recd with
        flushing := true, cutFrame := some (max (s.recd.cutFrame.getD 0) (s.tim.frame - 1))
        staging := t.recd.staging, flushFree := t.recd.flushFree } } t) ∧
  (∀ h log s, s.takes = true → log ≤ 1 → (log = 0 → ∃ last, s.recd.session.get (portCode h.port) = some last ∧ s.tim.frame ≤ last) →
    ∃ t, exec (.cmdRecFreeze h log) s = .next t ∧ Answered h 0x0D02 0 (payloadOf (.cmdRecFreeze h log)) [] s t ∧
      (let l := s.recd.log log
       let mark := (commitMark 3 [BitVec.ofNat 8 log, BitVec.ofNat 8 (portCode h.port)] s).recd.waiting
       OnlyPorts { s with recd := { s.recd.setLog log { l with
           frozenFrom := some (l.frozenFrom.getD s.tim.frame), frozeDrop := if l.frozenFrom.isSome then l.frozeDrop else 0 } with
         waiting := if l.frozenFrom.isSome then s.recd.waiting else mark } } t)) ∧
  (∀ h log s, s.takes = true → log ≤ 1 → (log = 0 → ∃ last, s.recd.session.get (portCode h.port) = some last ∧ s.tim.frame ≤ last) →
    s.recd.frozen log = true →
    ∃ t, exec (.cmdRecThaw h log) s = .next t ∧
      Answered h 0x0D03 0 (payloadOf (.cmdRecThaw h log)) (leBytes 4 (s.recd.log log).frozeDrop) s t ∧
      OnlyPorts { s with recd := { s.recd.setLog log { s.recd.log log with frozenFrom := none } with
        waiting := (commitMark 4 ([BitVec.ofNat 8 log, 0, 0] ++ leBytes 4 (s.recd.log log).frozeDrop) s).recd.waiting } } t) ∧
  (∀ h s, s.takes = true →
    ∃ t, exec (.cmdRecOpenClear h) s = .next t ∧ Answered h 0x0D04 0 (payloadOf (.cmdRecOpenClear h)) [] s t ∧
      (∀ k, t.recd.staging.get k = { s.recd.staging.get k with needOpen := false }) ∧
      t.recd.waiting = (s.recd.waiting.map fun w => { w with relOpen := true }) ++
        [{ frame := s.tim.frame, isMark := true, stamp := s.tim.chassis, unref := s.tim.unreferenced
           recs := [{ markRecord s.tim.frame 2 [1, BitVec.ofNat 8 (portCode h.port)] with
             stamp := s.tim.chassis, unref := s.tim.unreferenced }] }] ∧
      OnlyPorts { s with recd := { s.recd with
        staging := t.recd.staging, waiting := t.recd.waiting, openLog := { s.recd.openLog with
          permUsed := 0, circHead := 0, circFull := false, overwritten := 0 } } } t) ∧
  (∀ h s, s.takes = true →
    ∃ t, exec (.cmdRecSealedOpen h) s = .next t ∧
      Answered h 0x0D05 0 (payloadOf (.cmdRecSealedOpen h)) (leBytes 6 (s.tim.frame + s.cfg.sealedLease - 1)) s t ∧
      OnlyPorts { s with recd := { s.recd with
        session := s.recd.session.put (portCode h.port) (some (s.tim.frame + s.cfg.sealedLease - 1)) } } t) ∧
  (∀ h s last, s.takes = true → s.recd.session.get (portCode h.port) = some last → s.tim.frame ≤ last →
    ∃ t, exec (.cmdRecSealedClose h) s = .next t ∧ Answered h 0x0D06 0 (payloadOf (.cmdRecSealedClose h)) [] s t ∧
      OnlyPorts { s with recd := { s.recd with session := s.recd.session.put (portCode h.port) none } } t) ∧
  (∀ h s, s.takes = true →
    ∃ t, exec (.cmdRecSealedClear h) s = .next t ∧ Answered h 0x0D07 0 (payloadOf (.cmdRecSealedClear h)) [] s t ∧
      (∀ k, t.recd.staging.get k = { s.recd.staging.get k with needSealed := false }) ∧
      t.recd.waiting = (s.recd.waiting.map fun w => { w with relSealed := true }) ++
        [{ frame := s.tim.frame, isMark := true, stamp := s.tim.chassis, unref := s.tim.unreferenced
           recs := [{ markRecord s.tim.frame 2 [0, BitVec.ofNat 8 (portCode h.port)] with
             stamp := s.tim.chassis, unref := s.tim.unreferenced }] }] ∧
      OnlyPorts { s with recd := { s.recd with
        staging := t.recd.staging, waiting := t.recd.waiting, sealedLog := { s.recd.sealedLog with
          permUsed := 0, circHead := 0, circFull := false, overwritten := 0 } } } t) ∧
  (∀ h s, s.takes = true → s.recd.flight = .recording → s.recd.areaHeld = false →
    ∃ t, exec (.cmdRecFlightTrigger h) s = .next t ∧
      Answered h 0x0D08 0 (payloadOf (.cmdRecFlightTrigger h)) ([1, 0] ++ leBytes 6 s.tim.frame) s t ∧
      OnlyPorts { s with recd := { s.recd with
        flight := .post, trigFrame := s.tim.frame, trigCause := 1, ignRaised := false } } t) ∧
  (∀ h s, s.takes = true → ¬ (s.recd.flight = .recording ∧ s.recd.areaHeld = false) →
    ∃ t, exec (.cmdRecFlightTrigger h) s = .next t ∧
      Answered h 0x0D08 0 (payloadOf (.cmdRecFlightTrigger h)) ([0, 0] ++ leBytes 6 s.recd.trigFrame) s t ∧
      OnlyPorts { s with flt := { s.flt with inflight := t.flt.inflight }, recd := { s.recd with
        flightIgn := inc32 s.recd.flightIgn, ignRaised := true } } t) ∧
  (∀ h offset length s, s.takes = true → s.recd.areaHeld = true → 0 < length → length ≤ 960 → offset + length ≤ 2097152 →
    ∃ t, exec (.cmdRecFlightRead h offset length) s = .next t ∧
      PutOff h 0x0D09 (payloadOf (.cmdRecFlightRead h offset length)) { s.hst with
        defData := s.hst.defData.put h.mbox (leBytes 4 offset ++ s.areaBytes offset length) } s t ∧ OnlyPorts s t) ∧
  (∀ h s, s.takes = true → s.recd.areaHeld = true →
    ∃ t, exec (.cmdRecFlightRelease h) s = .next t ∧ Answered h 0x0D0A 0 (payloadOf (.cmdRecFlightRelease h)) [] s t ∧
      OnlyPorts { s with recd := { s.recd with areaHeld := false } } t) ∧
  (∀ h bytes s, s.takes = true →
    ∃ t, exec (.cmdRecNote h bytes) s = .next t ∧
      t.recd.frameRecs = s.recd.frameRecs ++
        [{ typ := 6, opened := true, block := 0x0D, inst := 2, body := trimZeros (padTo 32 bytes), frame := s.tim.frame },
         { commandRecord s h 0x0D0B 0 (payloadOf (.cmdRecNote h bytes)) with frame := s.tim.frame }] ∧
      t.recd.cmdItems = s.recd.cmdItems ++ [commandItem (headerBytes h 0x0D0B (payloadOf (.cmdRecNote h bytes)).length)
        (payloadOf (.cmdRecNote h bytes)) 0x0D0B] ∧ t.tim.taken = s.tim.taken + 1 ∧
      Replied h 0x0D0B 0 [] s t ∧ OnlyPorts s t)


/-- The RED_ and TIE_ rows (from R380, R397, R410, Table 13.3): a handover needs a complete mirror without a mismatch and no
hold-up event, and sends YIELD; a request or release joins what the port sends; a port disabled while its tie is closed first
releases it, in any other state it becomes DETACHED. Where a clause rests on the model's reading, see log entries 7 and 43. -/
def Obligations.PairAndTieCommands : Prop :=
  (∀ h s, s.takes = true → s.sys.crucible = false → s.red.st = .holder → s.red.mirComplete = true →
    s.red.mismatch = false → s.shr.hold.st = .normal →
    ∃ t, exec (.cmdRedHandover h) s = .next t ∧
      (let r := (peerPump (peerSend (.yieldMsg 0) { s with red := { s.red with st := .standby, aligned := false } })).red
       Recorded h 0x0E01 0 (payloadOf (.cmdRedHandover h)) s t ∧ Replied h 0x0E01 0 [] { s with red := r } t ∧
       OnlyPorts { s with red := r } t)) ∧
  (∀ h on s, s.takes = true → s.sys.crucible = false →
    ∃ t, exec (.cmdRedInhibit h on) s = .next t ∧
      (let r := { s.red with inhibit := on }
       Recorded h 0x0E02 0 (payloadOf (.cmdRedInhibit h on)) s t ∧ Replied h 0x0E02 0 [] { s with red := r } t ∧
       OnlyPorts { s with red := r } t)) ∧
  (∀ h port power s, s.takes = true → s.sys.crucible = false → port < 2 → (s.tiePort port).st = .idle →
    ∃ t, exec (.cmdTieRequest h port power) s = .next t ∧
      Answered h 0x0F01 0 (payloadOf (.cmdTieRequest h port power)) [] s t ∧
      OnlyPorts { s with tie := { s.tie with
        ports := s.tie.ports.modify port fun x => { x with wantReq := some (power : Int) } } } t) ∧
  (∀ h port s, s.takes = true → s.sys.crucible = false → port < 2 → (s.tiePort port).st ≠ .detached →
    (s.tiePort port).st ≠ .linking → (s.tiePort port).st ≠ .silent → (s.tiePort port).st ≠ .idle →
    ∃ t, exec (.cmdTieRelease h port) s = .next t ∧
      Answered h 0x0F02 0 (payloadOf (.cmdTieRelease h port)) [] s t ∧
      OnlyPorts { s with tie := { s.tie with
        ports := s.tie.ports.modify port fun x => { x with relDue := some 8 } } } t) ∧
  (∀ h port mask values s, s.takes = true → s.sys.crucible = false → port < 2 →
    ∃ t, exec (.cmdTiePortSet h port mask values) s = .next t ∧
      Answered h 0x0F03 0 (payloadOf (.cmdTiePortSet h port mask values)) [] s t ∧
      (let x := { s.tiePort port with
        supplyEn := if bvGet mask 1 then bvGet values 1 else (s.tiePort port).supplyEn }
       (bvGet mask 0 = false → t.tiePort port = x ∧ t.tieCh port = s.tieCh port) ∧
       (bvGet mask 0 = true → bvGet values 0 = true →
         t.tiePort port = { x with portEn := true, disable := false } ∧ t.tieCh port = s.tieCh port) ∧
       (bvGet mask 0 = true → bvGet values 0 = false → (x.st = .closed ∨ s.tieShut port = true) →
         t.tiePort port = { x with disable := true, relDue := some 8 } ∧ t.tieCh port = s.tieCh port) ∧
       (bvGet mask 0 = true → bvGet values 0 = false → x.st ≠ .closed → s.tieShut port = false →
         (t.tiePort port).portEn = false ∧ (t.tiePort port).st = .detached ∧ (t.tieCh port).st ≠ .on ∧
         (t.tieCh port).st ≠ .starting)) ∧
      (∀ p, p ≠ port → t.tiePort p = s.tiePort p) ∧ (∀ c, c ≠ 52 + port → t.chan c = s.chan c) ∧
      OnlyPorts { s with tie := { s.tie with ports := t.tie.ports }, hsw := { s.hsw with chans := t.hsw.chans } } t)

/-- The CANE_ and PMB_ rows (from R418, R424, R425, R434, R456): a port disabled discards its queue, counted, and loses its joined
nodes; a retry drops a standing rejection; a recovery and a transaction queue at their port and answer later. Where a clause rests
on the model's reading, see log entries 7 and 41. -/
def Obligations.LinkCommands : Prop :=
  (∀ h port s, s.takes = true → s.sys.crucible = false → port < 16 →
    ∃ t, exec (.cmdCanePortSet h port true) s = .next t ∧
      Answered h 0x1001 0 (payloadOf (.cmdCanePortSet h port true)) [] s t ∧
      OnlyPorts { s with pnt := { s.pnt with ports := s.pnt.ports.modify port fun x => { x with enabled := true } } } t) ∧
  (∀ h port s, s.takes = true → s.sys.crucible = false → port < 16 →
    ∃ t, exec (.cmdCanePortSet h port false) s = .next t ∧
      Answered h 0x1001 0 (payloadOf (.cmdCanePortSet h port false)) [] s t ∧
      (t.cane port).enabled = false ∧ (t.cane port).txq = [] ∧
      t.pnt.queueDiscard = add32 s.pnt.queueDiscard (s.cane port).txq.length ∧
      (∀ n, n ∈ s.portNodes port → (s.node n).joined = true → (t.node n).joined = false ∧ (t.node n).unacked = []) ∧
      (∀ n, n ∉ s.portNodes port ∨ (s.node n).joined = false → t.node n = s.node n) ∧
      (∀ p, p ≠ port → t.cane p = s.cane p) ∧
      OnlyPorts { s with
        pnt := { s.pnt with ports := t.pnt.ports, nodes := t.pnt.nodes, queueDiscard := t.pnt.queueDiscard }
        leh := { s.leh with
          cur := { s.leh.cur with doms := t.leh.cur.doms }, nxt := { s.leh.nxt with doms := t.leh.nxt.doms } }
        flt := { s.flt with inflight := t.flt.inflight } } t) ∧
  (∀ h port node s, s.takes = true → s.sys.crucible = false → port < 16 → node ∈ (s.cane port).rejected →
    ∃ t, exec (.cmdCaneNodeRetry h port node) s = .next t ∧
      Answered h 0x1002 0 (payloadOf (.cmdCaneNodeRetry h port node)) [] s t ∧
      OnlyPorts { s with pnt := { s.pnt with
        ports := s.pnt.ports.modify port fun x => { x with rejected := x.rejected.filter fun n => decide (n ≠ node) } } } t) ∧
  (∀ h port s, s.takes = true → s.sys.crucible = false → port ≤ 7 →
    ∃ t, exec (.cmdPmbRecover h port) s = .next t ∧
      PutOff h 0x1101 (payloadOf (.cmdPmbRecover h port)) s.hst s t ∧
      OnlyPorts { s with pmb := { s.pmb with
        ports := s.pmb.ports.modify port fun x => { x with recoverMbox := x.recoverMbox ++ [h.mbox] } } } t) ∧
  (∀ h port address kind code pec data s, s.takes = true → s.sys.crucible = false → port ≤ 7 → address ≤ 127 → kind ≤ 5 →
    (kind = 0 ∨ kind = 2 ∨ kind = 4 → s.pmbPos port address = none) →
    ∃ t, exec (.cmdPmbTransact h port address kind code pec data) s = .next t ∧
      PutOff h 0x1102 (payloadOf (.cmdPmbTransact h port address kind code pec data)) s.hst s t ∧
      OnlyPorts { s with pmb := { s.pmb with
        ports := s.pmb.ports.modify port fun x => { x with
          hostq := x.hostq ++ [{ port := port, addr := address, kind := kind, code := code, pec := pec, data := data
                                 mbox := h.mbox, opcode := 0x1102 }] } } } t)

/-- The BCH_ rows of a delivery (from R483, R490, Table 18.5): a begin empties the staging slot; a piece joins its chunk, and the
piece that completes it starts the chunk's write where its CRC holds, else the chunk is discarded and the command fails; an
abandoned delivery keeps nothing; an activation that finds the image it names runs. Where a clause rests on the model's reading,
see log entries 7 and 30. -/
def Obligations.BatchCommands : Prop :=
  (∀ h version count digest s, s.takes = true → s.bch.running = false →
    1 ≤ count → count ≤ 1024 →
    ∃ t, exec (.cmdBchBegin h version count digest) s = .next t ∧
      Answered h 0x1201 0 (payloadOf (.cmdBchBegin h version count digest)) [BitVec.ofNat 8 s.bch.stagingSlot] s t ∧
      OnlyPorts { s with bch := { (endStaging s.bch).setSlot s.bch.stagingSlot [] with
        staging := true, stVersion := version, stCount := count, stDigest := digest } } t) ∧
  (∀ h chunk piece crc data s, s.takes = true → s.bch.staging = true → chunk < s.bch.stCount → piece ≤ 7 →
    (let b := takePiece chunk piece crc data s.bch
     (s.bch.bitmap.get chunk = true →
       ∃ t, exec (.cmdBchChunk h chunk piece crc data) s = .next t ∧
         Answered h 0x1202 0 (payloadOf (.cmdBchChunk h chunk piece crc data)) (chunkReply s.bch chunk true) s t ∧
         OnlyPorts s t) ∧
     (s.bch.bitmap.get chunk = false → (b.held chunk).length < 8 →
       ∃ t, exec (.cmdBchChunk h chunk piece crc data) s = .next t ∧
         Answered h 0x1202 0 (payloadOf (.cmdBchChunk h chunk piece crc data)) (chunkReply b chunk false) s t ∧
         OnlyPorts { s with bch := b } t) ∧
     (s.bch.bitmap.get chunk = false → (b.held chunk).length = 8 → crc32c (b.chunkBytes chunk) = crc →
       ∃ t, exec (.cmdBchChunk h chunk piece crc data) s = .next t ∧
         PutOff h 0x1202 (payloadOf (.cmdBchChunk h chunk piece crc data)) s.hst s t ∧
         OnlyPorts { s with bch := { dropPieces chunk b with
           writing := b.writing ++ [(chunk, b.chunkBytes chunk, h.mbox)] } } t) ∧
     (s.bch.bitmap.get chunk = false → (b.held chunk).length = 8 → crc32c (b.chunkBytes chunk) ≠ crc →
       ∃ t, exec (.cmdBchChunk h chunk piece crc data) s = .next t ∧
         Answered h 0x1202 2 (payloadOf (.cmdBchChunk h chunk piece crc data))
           (chunkReply (dropPieces chunk b) chunk false) s t ∧
         OnlyPorts { s with bch := dropPieces chunk b, flt := { s.flt with inflight := t.flt.inflight } } t))) ∧
  (∀ h s, s.takes = true → s.bch.running = false →
    ∃ t, exec (.cmdBchAbandon h) s = .next t ∧ Answered h 0x1203 0 (payloadOf (.cmdBchAbandon h)) [] s t ∧
      OnlyPorts { s with bch := endStaging s.bch } t) ∧
  (∀ h version digest s, s.takes = true → s.bch.complete = true → s.bch.running = false → version = s.bch.stVersion →
    padTo 48 digest = padTo 48 s.bch.stDigest →
    ∃ t, exec (.cmdBchActivate h version digest) s = .next t ∧
      PutOff h 0x1205 (payloadOf (.cmdBchActivate h version digest)) s.hst s t ∧
      OnlyPorts { s with bch := { s.bch with running := true, journal := 0, actMbox := h.mbox, switchReset := false } } t)

/-- The reference chain's edges and the generator's own phase 0 (from R42, R48 to R50, R79, R155, R164, Table 2.2): while the
generator acquires or runs free an edge gives its interval to the sixteen that decide; while it is locked or coasting an edge in
the window is phase 0 and locks; an early edge is only counted; of missed edges the first coasts and the fourth ends in FALLBACK
with SYNC_LOSS. A phase 0 of its own counts a period, ends every rest at mid-level, that of a latched phase in a core-die reset
too, and, in a slew, drops the conversions not yet started and takes 1/256 of a period off the phase error or locks. Where a
clause rests on the model's reading, see log entries 49 and 51. -/
def Obligations.PhaseReference : Prop :=
  (∀ (interval : Nat) (err : Int) s, s.timeRuns = true → s.tim.gen = .locked → inWindow interval s.tim.measured = true →
    ∃ u, u = { s with tim := { s.tim with intervals := (interval :: s.tim.intervals).take 16 } } ∧
      exec (.syncEdgeAccepted interval err) s =
        .next (phaseZero true { u with tim := { u.tim with measured := u.tim.imean } })) ∧
  (∀ (interval : Nat) (err : Int) s, s.timeRuns = true → s.tim.gen = .coasting → inWindow interval s.tim.measured = true →
    exec (.syncEdgeAccepted interval err) s =
      .next (phaseZero true { s with tim := { s.tim with gen := .locked, lastTransition := true, miss := 0 } })) ∧
  (∀ (interval : Nat) (err : Int) s, s.timeRuns = true →
    (let u := { s.tim with intervals := (interval :: s.tim.intervals).take 16 }
     let whole := decide (u.intervals.length = 16) && u.agree
     (s.tim.gen = .acquiring → exec (.syncEdgeAccepted interval err) s = .next { s with tim :=
        if (whole && u.intervals.all fun i => decide (256000 ≤ i ∧ i ≤ 2560000)) = true then
          { u with measured := u.imean, miss := 0, gen := .locked, lastTransition := true }
        else u }) ∧
     (s.tim.gen = .fallback → (whole && u.intervals.all fun i => inWindow i u.held) = true →
        exec (.syncEdgeAccepted interval err) s = .next { s with tim := { u with
          newPeriod := some u.imean, phaseErr := err, outside := 0, intervals := [], gen := .slewing, lastTransition := true } }) ∧
     (s.tim.gen = .fallback → (whole && u.intervals.all fun i => !inWindow i u.held) = true →
        exec (.syncEdgeAccepted interval err) s = .next (raiseT kSyncRange 0 0 { s with tim := { u with intervals := [] } })) ∧
     (s.tim.gen = .fallback → (whole && (u.intervals.all (fun i => inWindow i u.held) ||
          u.intervals.all fun i => !inWindow i u.held)) = false →
        exec (.syncEdgeAccepted interval err) s = .next { s with tim := u }))) ∧
  (∀ (interval : Nat) (err : Int) s, s.timeRuns = true → s.tim.gen = .slewing →
    (inWindow interval s.tim.measured = true →
      exec (.syncEdgeAccepted interval err) s = .next { s with tim := { s.tim with phaseErr := err, outside := 0 } }) ∧
    (inWindow interval s.tim.measured = false → s.tim.outside < 3 →
      exec (.syncEdgeAccepted interval err) s = .next { s with tim := { s.tim with outside := s.tim.outside + 1 } }) ∧
    (inWindow interval s.tim.measured = false → 3 ≤ s.tim.outside →
      exec (.syncEdgeAccepted interval err) s = .next (raiseT kSyncLoss 0 0 { s with tim := { s.tim with
        gen := .fallback, lastTransition := true, held := s.tim.measured, intervals := [], miss := 0, outside := 0 } }))) ∧
  (∀ s, s.timeRuns = true → s.tim.gen = .locked ∨ s.tim.gen = .coasting →
    exec .syncEdgeEarly s = .next { s with tim := { s.tim with glitches := min (s.tim.glitches + 1) 65535 } }) ∧
  (∀ s, s.timeRuns = true →
    (s.tim.gen = .locked → exec .syncEdgeMissed s =
      .next (phaseZero false { s with tim := { s.tim with gen := .coasting, lastTransition := true, miss := 1 } })) ∧
    (s.tim.gen = .coasting → s.tim.miss < 3 → exec .syncEdgeMissed s =
      .next (phaseZero false { s with tim := { s.tim with miss := s.tim.miss + 1 } })) ∧
    (s.tim.gen = .coasting → 3 ≤ s.tim.miss → exec .syncEdgeMissed s =
      .next (phaseZero false (raiseT kSyncLoss 0 0 { s with tim := { s.tim with
        gen := .fallback, lastTransition := true, held := s.tim.measured, intervals := [], miss := 0, outside := 0 } })))) ∧
  (∀ s, s.timeRuns = true → s.tim.gen = .acquiring →
    ∃ t, exec .syncAcquireTimeout s = .next t ∧ t.tim.gen = .fallback ∧ t.tim.held = s.cfg.nominalNs * 256 ∧
      t.tim.measured = s.cfg.nominalNs * 256 ∧ t.tim.intervals = [] ∧
      t = { (raiseT kSyncLoss 0 0 s) with tim := { s.tim with
        gen := .fallback, lastTransition := true, held := s.cfg.nominalNs * 256, measured := s.cfg.nominalNs * 256
        intervals := [], miss := 0, outside := 0 } }) ∧
  (∀ s, s.timeRuns = false ∨ s.tim.gen = .fallback ∨ s.tim.gen = .slewing →
    ∃ t, exec .freeRunPhaseZero s = .next t ∧
      (s.stg.phases.wf = true → ∀ i, i ∈ tabKeys s.stg.phases →
        t.stg.phases.get i = phaseRestEnd s i (s.stg.phases.get i)) ∧
      (s.timeRuns = false → t = { s with stg := { s.stg with phases := t.stg.phases } }) ∧
      (s.timeRuns = true → t = { s with
        tim := t.tim, msr := t.msr, flt := t.flt, stg := { s.stg with phases := t.stg.phases } }) ∧
      (s.timeRuns = true → s.tim.gen = .fallback → t.flt = s.flt ∧ t.msr = { s.msr with slotNext := [], slotMissed := add32 s.msr.slotMissed 0 } ∧
        t.tim = { s.tim with periods := s.tim.periods + 1 }) ∧
      (s.timeRuns = true → s.tim.gen = .slewing → t.msr = { s.msr with
        slotNext := []
        slotMissed := add32 s.msr.slotMissed (s.scheduled - ((List.range 8).map s.msr.slotNext.get).sum) }) ∧
      (s.timeRuns = true → s.tim.gen = .slewing → 1 < s.tim.phaseErr.natAbs → t.flt = s.flt ∧ t.tim = { s.tim with
        periods := s.tim.periods + 1
        phaseErr := if s.tim.phaseErr > 0 then s.tim.phaseErr - 1 else s.tim.phaseErr + 1 }) ∧
      (s.timeRuns = true → s.tim.gen = .slewing → s.tim.phaseErr.natAbs ≤ 1 →
        t.flt = (raiseT kSyncLock 0 0 s).flt ∧ t.tim = { s.tim with
          periods := s.tim.periods + 1, phaseErr := 0, intervals := [], miss := 0, gen := .locked, lastTransition := true })) ∧
  (∀ rise s, s.timeRuns = true → s.cfg.syncOutEn = true →
    exec (.syncOutEdge rise) s = .next { s with tim := { s.tim with syncOut := rise } })

/-- The references of chassis time (from R51 to R53, R46, Table 2.3): TREF_LOSS, TREF_LOCK and PPS_LOSS; an edge of PPS that a
time setting waits for sets chassis time; an edge that finds chassis time more than 1 us behind steps it, one more than 1 us ahead
leaves a debt; the frame number is saved. The instant of the edge in its tick is a free value. Where a clause rests on the model's
reading, see log entries 8 and 49. -/
def Obligations.References : Prop :=
  (∀ s, s.timeRuns = true → s.tim.trefValid = true →
    exec .trefLoss s =
      .next (raiseT kTrefLoss 1 0 { s with tim := { s.tim with trefValid := false, unreferenced := true } })) ∧
  (∀ (ppm : Int) s, s.timeRuns = true → s.tim.trefValid = true → 500 < ppm ∨ ppm < -500 →
    exec (.trefMeasurementComplete ppm) s =
      .next (raiseT kTrefLoss 1 0 { s with tim := { s.tim with trefValid := false, unreferenced := true } })) ∧
  (∀ s, s.timeRuns = true → s.tim.trefValid = false →
    exec .trefLock s =
      .next (raiseT kTrefLock 1 0 { s with tim := { s.tim with trefValid := true, unreferenced := false } })) ∧
  (∀ s, s.timeRuns = true → s.cfg.ppsEn = true →
    (let d := natOf (Config.freeValue s.free)
     let a := advanceChassis d s.tim
     let e := ppsError a.chassis
     let b := { a with
       edgeNs := s.tim.edgeNs + d, ppsOk := true, ppsLost := false
       oscPpm := if s.tim.trefValid then s.tim.oscPpm else Config.freeValue (s.free + 1) }
     let n := if s.tim.trefValid then s.free + 1 else s.free + 2
     (∀ sec, s.tim.setPending = some sec → exec .ppsEdge s = .next { s with free := n, tim := { b with
        chassis := sec * 1000000000, timeSet := true, setPending := none, chassisDebt := 0, frac := 0 } }) ∧
     (s.tim.setPending = none → 1000 < e →
        exec .ppsEdge s = .next { s with free := n, tim := { b with chassisDebt := e.toNat, trimPpm := 0 } }) ∧
     (s.tim.setPending = none → e < -1000 → exec .ppsEdge s = .next { (raiseT kChassisStep 2 0 s) with
        free := n, tim := { b with chassis := ((a.chassis : Int) - e).toNat, trimPpm := 0, chassisDebt := 0, frac := 0 } }) ∧
     (s.tim.setPending = none → -1000 ≤ e → e ≤ 1000 →
        ∃ t, exec .ppsEdge s = .next t ∧ -100 ≤ t.tim.trimPpm ∧ t.tim.trimPpm ≤ 100 ∧
          (s.tim.trefValid = true → t.tim.oscPpm = s.tim.oscPpm) ∧
          t = { s with free := n + 1, tim := { b with
            trimPpm := t.tim.trimPpm, oscPpm := t.tim.oscPpm, chassisDebt := 0 } }))) ∧
  (∀ s, s.timeRuns = true → s.cfg.ppsEn = true → s.tim.ppsLost = false →
    exec .ppsLoss s = .next (raiseT kPpsLoss 2 0 { s with tim := { s.tim with ppsOk := false, ppsLost := true } })) ∧
  (∀ s, s.timeRuns = true → s.tim.savedFrame + 1048576 ≤ s.tim.frame →
    exec .frameNumberSave s = .next { s with tim := { s.tim with savedFrame := s.tim.frame } })

/-- Frame work and boundaries (from R54, R61, R68 to R70, R75, R141, R279, R313): a round's last evaluation closes it, notes its slack
and the times of the loops that were evaluated; an engine's work of the frame is complete, the recorder's with its writes; a tick
boundary comes once its periods have passed and no frame boundary is due, a frame boundary once its frame's last tick boundary has,
each completes, and one that is not due changes nothing; with logical time standing a tick is one of the power die alone. The
device's OTP and the queue stand through both. A command at a boundary that is due begins it and acts in the frame it opens; away
from a boundary none acts. Where a clause rests on the model's reading, see log entries 7, 29, 46, 49 and 52. -/
def Obligations.WorkAndBoundaries : Prop :=
  (∀ (loop : Nat) (slack : Int) times s, s.timeRuns = true → 0 < s.lop.roundOpen → loop < 8 →
    ∃ t, exec (.loopEvaluationComplete loop slack times) s = .next t ∧
      t.lop.roundOpen = s.lop.roundOpen - 1 ∧ t.tim = noteSlack loop slack s.tim ∧
      (∀ l, l < 8 → l < times.length → (s.loop l).evaluated = true →
        t.loop l = { s.loop l with evalNs := nth times l }) ∧
      (∀ l, (8 ≤ l ∨ times.length ≤ l ∨ (s.loop l).evaluated = false) → t.loop l = s.loop l) ∧
      t = { s with tim := t.tim, lop := { s.lop with roundOpen := t.lop.roundOpen, loops := t.lop.loops } }) ∧
  (∀ engine s, s.timeRuns = true → engine ≠ .recorder →
    ∃ t, exec (.frameWorkComplete engine) s = .next t ∧
      t.eng = { s.eng with
        marver := s.eng.marver || decide (engine = .marver)
        estimator := s.eng.estimator || decide (engine = .estimator)
        sequencer := s.eng.sequencer || decide (engine = .sequencer)
        lehr := s.eng.lehr || decide (engine = .lehr)
        tie := s.eng.tie || decide (engine = .tie) } ∧
      t = { s with eng := t.eng }) ∧
  (∀ s, s.timeRuns = true →
    ∃ t, exec (.frameWorkComplete .recorder) s = .next t ∧ t.eng = { s.eng with recorder := true } ∧ t.recd.writesDue = 0 ∧
      t = { recorderDone { s with eng := { s.eng with recorder := true } } with pending := s.pending, otp := s.otp }) ∧
  (∀ inp s, s.timeRuns = false ∨ (s.atBoundary = false ∧ s.cfg.tickPeriods ≤ s.tim.periods) →
    ∃ t, exec (.tickBoundary inp) s = .next t ∧ t.otp = s.otp ∧ t.pending = s.pending ∧
      (s.timeRuns = false → t.tim = endTickTime inp.dtNs s.tim ∧
        t = { s with tim := t.tim, hsw := { s.hsw with chans := t.hsw.chans }, shr := t.shr })) ∧
  (∀ inp s, s.timeRuns = true → (s.atBoundary = true ∨ s.tim.periods < s.cfg.tickPeriods) →
    exec (.tickBoundary inp) s = .next s) ∧
  (∀ inp s, s.timeRuns = true → s.atBoundary = true →
    ∃ t, exec (.frameBoundary inp) s = .next t ∧ t.otp = s.otp ∧ t.pending = s.pending) ∧
  (∀ inp s, (s.timeRuns = false ∨ s.atBoundary = false) → exec (.frameBoundary inp) s = .next s) ∧
  (∀ i op p s, encodeCmd i = some (op, p) →
    (s.coreUp = false ∨ s.atBoundary = false → exec i s = .next s) ∧
    (s.coreUp = true → s.tim.frameDue = true →
      (let b := { beginBoundary s with pending := s.pending, otp := s.otp }
       (b.takes = true → exec i s = exec i b) ∧ (b.takes = false → exec i s = .next b))))

/-- Converters and sensors (from R76, R77, R82 to R84, R102, R104): a converter's next scheduled conversion adds its code to its channel; a
slow one is a sample of the next tick, or of the running one where it ran on; a sensor is restored after 256 clean conversions
with its measured value; a sub-window's end computes rise and states of both dies. Where a clause rests on the model's reading,
see log entries 15 and 16. -/
def Obligations.Conversions : Prop :=
  (∀ (conv entry : Nat) (code : Int) s, s.timeRuns = true → conv < 8 → s.fastUsable conv = true →
    (s.slotsDue conv s.tim.periods)[s.msr.slotNext.get conv]? = some entry →
    exec (.fastConversion conv entry code) s = .next { s with msr := { s.msr with
      fast := s.msr.fast.modify (4 * conv + (s.cfg.slots.get (16 * conv + entry)).channel % 4) fun c =>
        { c with codes := c.codes ++ [satS 16 code] }
      slotNext := s.msr.slotNext.put conv (s.msr.slotNext.get conv + 1) } }) ∧
  (∀ (conv : Nat) (code : Int) s, s.timeRuns = true → conv < 2 → s.slowUsable conv = true →
    s.cfg.scan.get conv ≠ [] → s.msr.slowRun.get conv = none → s.msr.slowDone.get conv < s.cfg.slowPerTick →
    exec (.slowConversionComplete conv code) s = .next { s with msr := { s.msr with
      slow := s.msr.slow.modify (s.scanChan conv (s.msr.scanPos.get conv)) fun x =>
        { x with pend := some (clampI 0 262143 code) }
      scanPos := s.msr.scanPos.put conv ((s.msr.scanPos.get conv + 1) % max 1 (s.cfg.scan.get conv).length)
      slowDone := s.msr.slowDone.put conv (s.msr.slowDone.get conv + 1) } }) ∧
  (∀ (conv : Nat) (code : Int) s ch, s.timeRuns = true → conv < 2 → s.slowUsable conv = true →
    s.cfg.scan.get conv ≠ [] → s.msr.slowRun.get conv = some ch →
    exec (.slowConversionComplete conv code) s = .next { s with msr := { s.msr with
      slow := s.msr.slow.modify ch fun x => { x with due := some (clampI 0 262143 code) }
      slowRun := s.msr.slowRun.put conv none } }) ∧
  (∀ sensor s, s.timeRuns = true → (s.msr.sensors.get sensor).broken = true → 256 ≤ (s.msr.sensors.get sensor).clean →
    exec (.sensorRestored sensor) s = .next (raise kSensorRestored (240 + sensor) 0 { s with msr := { s.msr with
      sensors := s.msr.sensors.modify sensor fun x => { x with broken := false, clean := 0, value := x.measured } } })) ∧
  (∀ s, s.timeRuns = true → s.cfg.subFrames ≤ s.msr.subFrame →
    ∃ t, exec .thermSubwindowEnd s = .next t ∧ t.msr.subFrame = 0 ∧
      t.msr.coreTherm = dieRise s.cfg ((dieSensors true).any fun i => (s.msr.sensors.get i).broken) s.msr.coreTherm ∧
      t.msr.powerTherm = dieRise s.cfg ((dieSensors false).any fun i => (s.msr.sensors.get i).broken) s.msr.powerTherm ∧
      t = { s with
        msr := { s.msr with coreTherm := t.msr.coreTherm, powerTherm := t.msr.powerTherm, subFrame := 0 }
        flt := { s.flt with inflight := t.flt.inflight } } ∧
      t.flt = (dieMessages 246 s.msr.powerTherm t.msr.powerTherm (dieMessages 240 s.msr.coreTherm t.msr.coreTherm s)).flt)

/-- Comparators (from R91, R95, R97, R163, R165): an edge changes the live level and nothing else where its kind is not captured
and its role has no reflex; a captured one enters its unit; an assertion at the over-voltage monitor of a stage latches the stage
in the power die; the narrowing half of a threshold change follows. Where a clause rests on the model's reading, see log entry 17.
-/
def Obligations.ComparatorEdges : Prop :=
  (∀ mon ov timeHalfNs (vinMv : Int) s, mon < 128 → (s.pdCfg.mons.get mon).enable = true → s.msr.level mon ov = true →
    (if ov then (s.msr.mons.get mon).ovRoute else (s.msr.mons.get mon).uvRoute).capture = false ∨ s.timeRuns = false →
    exec (.wmComparatorEdge mon ov false timeHalfNs vinMv) s = .next { s with msr := { s.msr with
      ov := if ov then bvPut s.msr.ov mon false else s.msr.ov
      uv := if ov then s.msr.uv else bvPut s.msr.uv mon false } }) ∧
  (∀ mon ov timeHalfNs (vinMv : Int) s, mon < 128 → (s.pdCfg.mons.get mon).enable = true → s.msr.level mon ov = true →
    (if ov then (s.msr.mons.get mon).ovRoute else (s.msr.mons.get mon).uvRoute).capture = true → s.timeRuns = true →
    exec (.wmComparatorEdge mon ov false timeHalfNs vinMv) s = .next (captureEdge
      ((if ov then (s.msr.mons.get mon).ovRoute else (s.msr.mons.get mon).uvRoute).unit % 16)
      { timeHalfNs := timeHalfNs, rising := false, ov := ov, unreferenced := s.tim.unreferenced, monitor := mon }
      { s with msr := { s.msr with
        ov := if ov then bvPut s.msr.ov mon false else s.msr.ov
        uv := if ov then s.msr.uv else bvPut s.msr.uv mon false } })) ∧
  (∀ mon st timeHalfNs (vinMv : Int) s, mon < 128 → (s.pdCfg.mons.get mon).enable = true →
    (s.pdCfg.mons.get mon).role = .stageOv st → s.msr.level mon true = false →
    (s.msr.mons.get mon).ovRoute.capture = false ∨ s.timeRuns = false →
    ∃ t, exec (.wmComparatorEdge mon true true timeHalfNs vinMv) s = .next t ∧
      (t.stage st).ovLatch = true ∧ t.msr = { s.msr with ov := bvPut s.msr.ov mon true } ∧
      (∀ n, n ≠ st → t.stage n = s.stage n) ∧
      t = { s with msr := t.msr, stg := { s.stg with stages := t.stg.stages, phases := t.stg.phases } }) ∧
  (∀ mon s, (s.msr.mons.get mon).narrowLower.isSome = true ∨ (s.msr.mons.get mon).narrowUpper.isSome = true →
    exec (.wmNarrowStep mon) s = .next { s with msr := { s.msr with mons := s.msr.mons.modify mon fun x => { x with
      lower := x.narrowLower.getD x.lower, upper := x.narrowUpper.getD x.upper
      narrowLower := none, narrowUpper := none } } })

/-- The resets of the core die and over-temperature (from R106, R514, Tables 3.7 and 19.7): each leaves the core die held with its
kind noted, the fuses, both logs and the host area of MRAM as they were, and no batch live; a power-on reset clears the host
scratch, chassis time and the EN outputs' levels; a cold one also starts the power die and the warmer anew; the others keep the
power die's settings and channels, with the limit code last commanded. A shutdown of the core die is a reset of kind 5 that the warmer records; one of the power die
turns off the gates of the channels but the keepers'; a release ends either. Where a clause rests on the model's reading, see log
entries 2 and 29. -/
def Obligations.ResetsAndHeat : Prop :=
  let chansStand (s t : State) : Prop := ∀ c, t.chan c =
    if s.chanUsed c then { s.chan c with held := none, heldCode := some ((s.chan c).heldCode.getD (s.coreCode c)) }
    else { s.chan c with held := none }
  (∀ s, ∃ t, exec .powerOnCold s = .next t ∧ t.sys.core = .held ∧ t.sys.resetKind = 0 ∧ t.wrm = {} ∧ t.hsw = {} ∧
    t.pd = none ∧ t.batch = none ∧ t.tim = { savedFrame := s.tim.savedFrame } ∧ t.mem.scratch = [] ∧
    t.mem.nv = s.mem.nv ∧ t.recd.sealedLog = s.recd.sealedLog ∧ t.recd.openLog = s.recd.openLog ∧
    t.bch.slotA = s.bch.slotA ∧ t.bch.slotB = s.bch.slotB ∧ t.hst.accCtr = s.hst.accCtr ∧ t.otp = s.otp) ∧
  (∀ s, s.sys.core = .held → s.wrm.cold = false → s.wrm.released = false →
    ∃ t, exec .powerOn s = .next t ∧ t.sys.core = .held ∧ t.sys.resetKind = 1 ∧ t.wrm = s.wrm ∧
      chansStand s t ∧ t.pd = s.pd ∧ t.batch = none ∧ t.tim = { savedFrame := s.tim.savedFrame } ∧
      t.mem.scratch = [] ∧ t.mem.nv = s.mem.nv ∧ t.seq.en = 0 ∧ t.recd.sealedLog = s.recd.sealedLog ∧
      t.recd.openLog = s.recd.openLog ∧ t.otp = s.otp) ∧
  (∀ s, ∃ t, exec .pinReset s = .next t ∧ t.sys.core = .held ∧ t.sys.resetKind = 2 ∧ t.pin.rstLow = true ∧ t.wrm = s.wrm ∧
    chansStand s t ∧ t.pd = s.pd ∧ t.batch = none ∧ t.tim.chassis = s.tim.chassis ∧
    t.tim.timeSet = s.tim.timeSet ∧ t.mem.scratch = s.mem.scratch ∧ t.mem.nv = s.mem.nv ∧ t.seq.en = s.seq.en ∧
    t.flt.lost = s.flt.lost ∧ t.flt.err = false ∧ t.recd.sealedLog = s.recd.sealedLog ∧ t.recd.openLog = s.recd.openLog ∧
    t.otp = s.otp) ∧
  (∀ s due, s.timeRuns = true → s.tim.frameDue = true → s.flt.chipDue = some due → due ≤ s.tim.frame →
    s.flt.chipWait = false ∨ s.recd.flushing = false →
    ∃ t, exec .chipReset s = .next t ∧ t.sys.core = .held ∧ t.sys.resetKind = 3 ∧ t.wrm = s.wrm ∧
      chansStand s t ∧ t.pd = s.pd ∧ t.batch = none ∧ t.tim.chassis = s.tim.chassis ∧
      t.mem.scratch = s.mem.scratch ∧ t.seq.en = s.seq.en ∧ t.flt.lost = s.flt.lost ∧ t.flt.err = s.flt.err ∧
      t.recd.sealedLog = s.recd.sealedLog ∧ t.recd.openLog = s.recd.openLog ∧ t.otp = s.otp) ∧
  (∀ s, s.sys.cdShutdown = false →
    ∃ t, exec (.overtempShutdown true) s = .next t ∧ t.sys.core = .held ∧ t.sys.resetKind = 5 ∧
      t.sys.cdShutdown = true ∧ t.wrm = { s.wrm with shutdownRec := true } ∧ chansStand s t ∧
      t.recd.sealedLog = s.recd.sealedLog ∧ t.otp = s.otp) ∧
  (∀ s, s.sys.pdShutdown = false →
    ∃ t, exec (.overtempShutdown false) s = .next t ∧ t.sys = { s.sys with pdShutdown := true } ∧
      (∀ c, c < 54 → isKeeper c = false → (t.chan c).gate = false ∧
        ((s.chan c).st = .starting ∨ (s.chan c).st = .on → (t.chan c).latchedOff = true)) ∧
      (∀ c, 54 ≤ c ∨ isKeeper c = true → t.chan c = s.chan c) ∧
      (s.timeRuns = true → t.flt = (raiseT kThermShutdown 1 0 s).flt) ∧
      t = { s with
        sys := t.sys, hsw := { s.hsw with chans := t.hsw.chans }, stg := { s.stg with phases := t.stg.phases }
        flt := t.flt }) ∧
  (∀ s, s.sys.cdShutdown = true →
    exec (.overtempRelease true) s = .next { s with sys := { s.sys with cdShutdown := false } }) ∧
  (∀ s, s.sys.pdShutdown = true →
    ∃ t, exec (.overtempRelease false) s = .next t ∧ t.sys = { s.sys with pdShutdown := false } ∧
      t = { s with sys := t.sys, stg := { s.stg with phases := t.stg.phases } })

/-- The warmer (from R502 to R508): a period filters its inputs and applies the rules where the core is not released; the core is
released once every supply has stood in range for supply_settle_ms after a WAKE outcome; a supply out of range holds the core in
reset and makes the warmer record it and drop PWR_REQ for off_min_ms, after which it applies its rules again. Where a clause rests on the model's reading, see log entry
32. -/
def Obligations.WarmerRows : Prop :=
  (∀ inp s, ∃ t, exec (.warmerPeriod inp) s = .next t ∧
    t.wrm.yVin = filterStep s.wrm.cfg.kVin inp.vinMv s.wrm.yVin ∧
    t.wrm.yWarm = filterStep s.wrm.cfg.kWarm inp.warmMv s.wrm.yWarm ∧
    t.wrm.vinOk = (warmTerms inp s).vinOk ∧ t.wrm.msSinceVwarm = min (s.wrm.msSinceVwarm + 1) 64 ∧
    (s.wrm.released = true ∨ s.wrm.offHold = true →
      t.wrm.outcome = s.wrm.outcome ∧ t.wrm.pwrReq = s.wrm.pwrReq ∧ t.wrm.rule = s.wrm.rule) ∧
    (s.wrm.released = false → s.wrm.offHold = false → s.wrm.msSinceVwarm < 63 →
      t.wrm.outcome = .dormant ∧ t.wrm.pwrReq = false) ∧
    t.wrm.released = s.wrm.released ∧ t = { s with wrm := t.wrm }) ∧
  (∀ s, s.wrm.outcome = .wake → s.wrm.pwrReq = true → s.wrm.released = false → s.wrm.offHold = false →
    s.wrm.inRange = BitVec.allOnes 7 → s.wrm.cfg.settleMs ≤ s.wrm.settleMs →
    exec .coreRelease s = .next { s with wrm := { s.wrm with released := true } }) ∧
  (∀ supply s, supply < 7 → s.wrm.released = false →
    exec (.supplyOutOfRange supply) s =
      .next { s with wrm := { s.wrm with inRange := bvPut s.wrm.inRange supply false, settleMs := 0 } }) ∧
  (∀ supply s, supply < 7 → s.wrm.released = true →
    ∃ t, exec (.supplyOutOfRange supply) s = .next t ∧ t.sys.core = .held ∧ t.sys.resetKind = 1 ∧
      t.wrm = { s.wrm with
        inRange := bvPut s.wrm.inRange supply false, settleMs := 0, waitMs := 0, released := false, pwrReq := false
        offHold := true, offMs := 0, supplyRange := true, supplyIdx := supply, supplyRecs := s.wrm.supplyRecs ++ [supply] } ∧
      (∀ c, t.chan c =
        if s.chanUsed c then { s.chan c with held := none, heldCode := some ((s.chan c).heldCode.getD (s.coreCode c)) }
        else { s.chan c with held := none }) ∧ t.recd.openLog = s.recd.openLog) ∧
  (∀ s, s.wrm.outcome = .wake → s.wrm.released = false → s.wrm.offHold = false →
    s.wrm.cfg.timeoutMs ≤ s.wrm.waitMs → s.wrm.inRange ≠ BitVec.allOnes 7 →
    ∃ t i, exec .supplySettleTimeout s = .next t ∧ i < 7 ∧ bvGet s.wrm.inRange i = false ∧
      (∀ j, j < i → bvGet s.wrm.inRange j = true) ∧
      t = { s with wrm := { s.wrm with
        settleMs := 0, waitMs := 0, released := false, pwrReq := false, offHold := true, offMs := 0, supplyRange := true
        supplyIdx := i, supplyRecs := s.wrm.supplyRecs ++ [i], retries := incSat 8 s.wrm.retries } }) ∧
  (∀ s, s.wrm.outcome = .wake → s.wrm.released = false → s.wrm.offHold = false →
    s.wrm.cfg.timeoutMs ≤ s.wrm.waitMs → (∀ i, i < 7 → bvGet s.wrm.inRange i = true) →
    ∃ t i, exec .supplySettleTimeout s = .next t ∧ i < 7 ∧
      t = { s with free := s.free + 1, wrm := { s.wrm with
        settleMs := 0, waitMs := 0, released := false, pwrReq := false, offHold := true, offMs := 0, supplyRange := true
        supplyIdx := i, supplyRecs := s.wrm.supplyRecs ++ [i], retries := incSat 8 s.wrm.retries } }) ∧
  (∀ s, s.wrm.offHold = true → s.wrm.cfg.offMinMs ≤ s.wrm.offMs →
    exec .offMinEnd s = .next { s with wrm := applyRules { s.wrm with offHold := false, offMs := 0 } }) ∧
  (∀ supply s, supply < 7 → supply ≠ 5 ∨ s.sys.core ≠ .held →
    exec (.supplyInRange supply) s =
      .next { s with wrm := { s.wrm with inRange := bvPut s.wrm.inRange supply true, settleMs := 0 } }) ∧
  (∀ s, s.sys.core = .held → s.sys.resetKind ≤ 1 →
    exec (.supplyInRange 5) s = .next { s with
      wrm := { s.wrm with inRange := bvPut s.wrm.inRange 5 true, settleMs := 0 }
      red := { s.red with enFollow := true }
      seq := { s.seq with en := if s.wrm.peerLive then BitVec.allOnes 32 else 0 } })

/-- The die-to-die link and the boot (from R16, R17, R46, R509, R510): a keep-alive word, the core die's absence and its return
with DIE_LINK_LOSS, when a running core die's requests to the channels take effect; an invalid word; a boot starts logical time 2^20 frames past the saved frame number, and two failed macros of
one group hold the core die in reset instead. Where a clause rests on the model's reading, see log entries 32 and 52. -/
def Obligations.LinkAndBoot : Prop :=
  (∀ s, s.sys.core ≠ .held → exec .dieLinkWordSend s = .next { s with sys := { s.sys with linkUp := true } }) ∧
  (∀ s, s.sys.coreAbsent = false →
    exec .coreDieAbsent s =
      .next (settlePhases (holdCodes { s with sys := { s.sys with coreAbsent := true, linkUp := false } }))) ∧
  (∀ s, s.sys.core ≠ .held → s.sys.coreAbsent = true →
    exec .dieLinkLoss s = .next (raiseT kDieLinkLoss 2 0 (settlePhases { s with
      sys := { s.sys with coreAbsent := false, linkUp := true, linkLosses := incSat 8 s.sys.linkLosses }
      hsw := if s.coreUp then { s.hsw with chans := tabMap (fun _ x => returnChan x) s.hsw.chans } else s.hsw }))) ∧
  (∀ core s, s.sys.core ≠ .held →
    exec (.dieLinkError core) s = .next (raiseT kDieLinkError 2 0 { s with sys := { s.sys with
      linkErrors := incSat 8 s.sys.linkErrors } })) ∧
  (∀ inp s, s.sys.core = .held → s.wrm.released = true → s.sys.cdShutdown = false → s.sys.selfHeld = false →
    groupFails inp.bistFail = true →
    exec (.boot inp) s = .next { s with
      sys := { s.sys with selfHeld := true }, wrm := { s.wrm with groupFailRec := true } }) ∧
  (∀ inp s, s.sys.core = .held → s.wrm.released = true → s.sys.cdShutdown = false → s.sys.selfHeld = false →
    groupFails inp.bistFail = false →
    ∃ t, exec (.boot inp) s = .next t ∧ t.sys.core = .booting ∧ t.sys.bootStage = .punty ∧ t.timeRuns = true ∧
      t.tim.frame = (s.tim.savedFrame + 1048576) % 281474976710656 ∧ t.tim.tick = 0 ∧ t.tim.savedFrame = t.tim.frame ∧
      t.sys.bootTime = min inp.time100us 65535 ∧ t.otp = s.otp)

/-- The switching cycle (from R145 to R148, R150, R164, Tables 5.1 and 5.2): an on-time starts with its switch and its blanking;
the peak comparator, where the sense signal with the slope ramp has reached the code in force, the limit on the energising side and
the duty clamp end it, the last two counted; the limit on the other side of a switching phase, and either of one that the
over-voltage latch holds low, puts it at mid-level; consecutive ticks with a limit raise CYCLE_LIMIT. Each changes one phase and nothing else. Where a clause
rests on the model's reading, see log entry 25. -/
def Obligations.SwitchingCycle : Prop :=
  (∀ phase s, s.timeRuns = true → phase < 24 → s.phaseSwitches phase = true → (s.phase phase).onTime = false →
    (s.phase phase).midRest = false →
    exec (.onTimeStart phase) s = .next (setPhase phase (fun p => { p with
      onTime := true, blanked := true, boost := s.boostDir (s.stageOf phase), onTimes := p.onTimes + 1
      pwm := if s.boostDir (s.stageOf phase) then .low else .high }) s)) ∧
  (∀ phase s, (s.phase phase).onTime = true → (s.phase phase).blanked = true →
    exec (.blankingEnd phase) s = .next (setPhase phase (fun p => { p with blanked := false }) s)) ∧
  (∀ trip s, (s.phase trip.phase).onTime = true → (s.phase trip.phase).blanked = false →
    (let reached := (200 * s.tripCode trip.phase : Int) ≤
       2 * s.energising trip.phase trip.senseUv + s.slopeCode (s.stageOf trip.phase) * trip.ns
     (reached → exec (.peakComparatorTrip trip) s = .next (setPhase trip.phase (fun p => { p with
       onTime := false, pwm := if p.boost then .high else .low }) s)) ∧
     (¬ reached → exec (.peakComparatorTrip trip) s = .next s))) ∧
  (∀ phase s, (s.phase phase).onTime = true →
    exec (.maxDutyClamp phase) s = .next (setPhase phase (fun p => { p with clampEnds := inc32 p.clampEnds })
      (setPhase phase (fun p => { p with onTime := false, blanked := false, pwm := if p.boost then .high else .low }) s))) ∧
  (∀ phase senseUv s, s.phaseLatched phase = false → (s.phase phase).onTime = true → (s.phase phase).blanked = false →
    s.limitUv phase ≤ s.energising phase senseUv →
    exec (.cycleLimitTrip phase senseUv) s = .next (setPhase phase (fun p => { p with limEnds := inc32 p.limEnds })
      (setPhase phase (fun p => { p with onTime := false, blanked := false, pwm := if p.boost then .high else .low }) s))) ∧
  (∀ phase senseUv s,
    (s.phaseLatched phase = false ∧ phase < 24 ∧ s.phaseSwitches phase = true ∧ (s.phase phase).blanked = false ∧
        (s.phase phase).midRest = false ∧ s.energising phase senseUv < s.limitUv phase ∧
        s.energising phase senseUv ≤ -s.limitUv phase) ∨
      (s.phaseLatched phase = true ∧ (s.phase phase).pwm = .low ∧
        (s.limitUv phase ≤ s.energising phase senseUv ∨ s.energising phase senseUv ≤ -s.limitUv phase)) →
    exec (.cycleLimitTrip phase senseUv) s = .next (setPhase phase (fun p => { p with
      onTime := false, blanked := false, midRest := true, pwm := .mid
      limEnds := if p.onTime then inc32 p.limEnds else p.limEnds }) s)) ∧
  (∀ phase s, s.timeRuns = true → phase < 24 → s.stageOf phase < 6 → 0 < (s.phase phase).limitRun →
    (s.cfg.stages.get (s.stageOf phase)).limitTicks ≤ (s.phase phase).limitRun →
    exec (.cycleLimit phase) s =
      .next (raiseT kCycleLimit phase 0 (setPhase phase (fun p => { p with limitRun := 0 }) s)))

/-- Blends, sheds and failed phases (from R124, R131 to R133, R167, R171, R173): a blend's old region is dropped; the first phase
to shed starts its ramp and is shed at its end; an open phase is masked; a residual that persists raises RESIDUAL and, by the
policy in force, nothing more, a stop of the loop, or a degraded set. Where a clause rests on the model's reading, see log entry
46. -/
def Obligations.ShedAndResidual : Prop :=
  (∀ loop s, s.timeRuns = true → loop < 8 → (s.loop loop).old.isSome = true → (s.loop loop).blending = false →
    exec (.blendEnd loop) s =
      .next (setLoop loop (fun x => { x with old := none, xhOld := [], j := 0, blendLen := 0 }) s)) ∧
  (∀ stage s, s.timeRuns = true → s.stageUsed stage = true → (s.stage stage).st = .running →
    (s.stage stage).shedding = none → (s.cfg.stages.get stage).shedEn = true → 0 < (s.stage stage).dwell →
    (s.cfg.stages.get stage).shedDwell ≤ (s.stage stage).dwell →
    (s.cfg.stages.get stage).minPhases < ((s.unmasked stage).filter fun p => (s.phase p).nxtActive).length →
    exec (.shedStart stage) s = .next (setStage stage (fun x => { x with
      shedding := shedFirst s.cfg ((s.unmasked stage).filter fun p => (s.phase p).nxtActive), j := 0, dwell := 0 }) s)) ∧
  (∀ stage p s, s.timeRuns = true → s.stageUsed stage = true → (s.stage stage).st = .running →
    (s.stage stage).shedding = some p → (s.cfg.stages.get stage).shedRamp ≤ (s.stage stage).j →
    exec (.phaseShed stage) s = .next
      (setStage stage (fun x => { x with shedding := none, j := 0, shedCount := inc32 x.shedCount })
        (setPhase p (fun q => { q with nxtActive := false, nxtShed := true, nxtAtten := 256 }) s))) ∧
  (∀ phase s, s.timeRuns = true → phase < 24 → s.stageOf phase < 6 → 0 < (s.phase phase).openRun →
    (s.cfg.stages.get (s.stageOf phase)).openTicks ≤ (s.phase phase).openRun →
    exec (.phaseOpen phase) s =
      .next (raiseT kPhaseOpen phase 0 (setPhase phase (fun p => { p with openRun := 0, maskDue := true }) s))) ∧
  (∀ loop input s, s.timeRuns = true → loop < 8 → input < (s.cfg.loops.get loop).m → (s.loop loop).running = true →
    (s.loop loop).stopped = false → bvGet ((s.cfg.loops.get loop).excludes.get (s.loop loop).rset) input = false →
    0 < nth (s.loop loop).counters input →
    nth (s.cfg.regions.get (s.loop loop).region).pers input ≤ nth (s.loop loop).counters input →
    (let policy := (s.cfg.loops.get loop).degrade.get (8 * (s.loop loop).rset + input)
     let u := raiseT kResidual loop (s.srcPoint loop (nth (s.cfg.loops.get loop).inputs input))
       (setLoop loop (fun x => { x with counters := setNth x.counters input 0 }) s)
     (policy = .flag → exec (.residual loop input) s = .next u) ∧
     (policy = .stop →
       exec (.residual loop input) s = .next (setLoop loop (fun x => { x with policyStop := true }) u)) ∧
     (∀ k, policy = .degraded k → 6 ≤ loop →
       exec (.residual loop input) s = .next (setLoop loop (fun x => { x with policySet := some k }) u)) ∧
     (∀ k, policy = .degraded k → loop < 6 →
       ∃ t, exec (.residual loop input) s = .next t ∧ (t.loop loop).policySet = some k ∧
         (∀ i, i ∈ s.unmasked loop → (s.cfg.phases.get i).loopInput < 8 →
           bvGet ((s.cfg.loops.get loop).excludes.get k) (s.cfg.phases.get i).loopInput = true →
           (t.phase i).maskDue = true) ∧
         t = { s with
           lop := { s.lop with loops := t.lop.loops }, stg := { s.stg with phases := t.stg.phases }
           flt := { s.flt with inflight := t.flt.inflight } })))

/-- PMBus polls and alerts (from R433 to R436): a poll that nothing holds back goes on the bus; on a hung bus it is consumed as a
failure; an alert line that stands asserted is answered from 0x0C; a stretched transaction is abandoned and counts as an error; a
hung bus is recovered at once or stays hung, and a retry answers the commands that wait for it. Where a clause rests on the
model's reading, see log entries 29 and 36. -/
def Obligations.PmbusBus : Prop :=
  (∀ port s d rest, s.timeRuns = true → (s.pmbPort port).active = none → (s.pmbPort port).recoverMbox = [] →
    (s.pmbPort port).statusFirst = none → (s.pmbPort port).alert = false ∨ (s.pmbPort port).alertIgn = true →
    (s.pmbPort port).hung = false → s.writeDue port = none → (s.pmbPort port).hostq = [] →
    (s.pmbPort port).pollq = d :: rest →
    exec (.pmbPoll port) s =
      .next (setPmb port (fun y => { y with pollq := rest, active := some d, activeKind := 4 }) s)) ∧
  (∀ port s pos code rest, s.timeRuns = true → (s.pmbPort port).active = none → (s.pmbPort port).recoverMbox = [] →
    (s.pmbPort port).statusFirst = none → (s.pmbPort port).alert = false ∨ (s.pmbPort port).alertIgn = true →
    (s.pmbPort port).hung = true → (s.pmbPort port).hostq = [] → (s.pmbPort port).pollq = (pos, code) :: rest →
    exec (.pmbPoll port) s =
      .next (devNack port pos false (setPmb port (fun y => { y with pollq := rest }) s))) ∧
  (∀ port s, s.timeRuns = true → s.drives = true → (s.pmbPort port).alert = true → (s.pmbPort port).alertIgn = false →
    (s.pmbPort port).hung = false → (s.pmbPort port).active = none → (s.pmbPort port).statusFirst = none →
    (s.pmbPort port).recoverMbox = [] →
    exec (.pmbAlert port) s = .next (setPmb port (fun y => { y with active := some (0, 0), activeKind := 0 }) s)) ∧
  (∀ port s pos code, s.timeRuns = true → (s.pmbPort port).active = some (pos, code) →
    (s.pmbPort port).activeKind = 4 →
    ∃ t, exec (.pmbStretchTimeout port) s = .next t ∧ (t.pmbPort port).count = inc32 (s.pmbPort port).count ∧
      (t.pmbPort port).errors = inc32 (s.pmbPort port).errors ∧ t.flt = (raise kPmbStretchTimeout port 0 s).flt ∧
      (∀ p, p ≠ port → t.pmbPort p = s.pmbPort p) ∧
      t = { s with
        pmb := { s.pmb with ports := t.pmb.ports }, flt := t.flt
        shr := { s.shr with
          cur := { s.shr.cur with rects := t.shr.cur.rects }, nxt := { s.shr.nxt with rects := t.shr.nxt.rects } } }) ∧
  (∀ port freed s, s.timeRuns = true → s.drives = true → port < 8 → (s.pmbPort port).hung = false →
    (s.pmbPort port).active = none →
    ∃ t, exec (.pmbBusHung port freed) s = .next t ∧ (t.pmbPort port).hung = !freed ∧
      (t.pmbPort port).hungFrames = 0 ∧ (t.pmbPort port).recoverMbox = [] ∧
      t.flt = (if freed then raise kPmbBusRecovered port 0 (raise kPmbBusHung port 0 s) else raise kPmbBusHung port 0 s).flt ∧
      (∀ p, p ≠ port → t.pmbPort p = s.pmbPort p) ∧
      t = { s with
        pmb := { s.pmb with ports := t.pmb.ports }, flt := t.flt
        shr := { s.shr with
          cur := { s.shr.cur with rects := t.shr.cur.rects }, nxt := { s.shr.nxt with rects := t.shr.nxt.rects } } }) ∧
  (∀ port freed s, s.timeRuns = true → s.drives = true →
    (s.pmbPort port).hung = true ∧ 64 ≤ (s.pmbPort port).hungFrames ∨ (s.pmbPort port).recoverMbox ≠ [] →
    ∃ t, exec (.pmbRecoveryRetry port freed) s = .next t ∧ (t.pmbPort port).hung = !freed ∧
      (t.pmbPort port).doneq = (s.pmbPort port).doneq ++
        (s.pmbPort port).recoverMbox.map (fun m => (m, 0x1101, 0, [if freed then 0 else 1])) ∧
      (t.pmbPort port).recoverMbox = [] ∧
      t.flt = (if freed then raise kPmbBusRecovered port 0 s else s).flt ∧
      (∀ p, p ≠ port → t.pmbPort p = s.pmbPort p))

/-- The ends of PMBus transactions (from R180, R434, R437, R438, R440): a host transaction at an undeclared address hands its
result to its mailbox; a reading of a rectifier's current is a sample of its point, and an acknowledged transaction ends the run
of failures. Where a clause rests on the model's reading, see log entries 26 and 36. -/
def Obligations.PmbusResults : Prop :=
  (∀ port result s x rest a, s.timeRuns = true → (s.pmbPort port).active = some a → (s.pmbPort port).activeKind = 3 →
    (s.pmbPort port).hostq = x :: rest → s.pmbPos port x.addr = none →
    ∃ t, exec (.pmbTransactionComplete port result) s = .next t ∧ (t.pmbPort port).hostq = rest ∧
      (t.pmbPort port).doneq = (s.pmbPort port).doneq ++
        [(x.mbox, x.opcode, (hostReply x result).1, (hostReply x result).2)] ∧
      (t.pmbPort port).count = inc32 (s.pmbPort port).count ∧
      (t.pmbPort port).errors =
        (if result.res ≠ 0 ∨ result.pecOk = false then inc32 (s.pmbPort port).errors else (s.pmbPort port).errors) ∧
      (∀ p, p ≠ port → t.pmbPort p = s.pmbPort p) ∧
      t = { s with
        pmb := { s.pmb with ports := t.pmb.ports }
        shr := { s.shr with
          cur := { s.shr.cur with rects := t.shr.cur.rects }, nxt := { s.shr.nxt with rects := t.shr.nxt.rects } } }) ∧
  (∀ port result s pos addr r, s.timeRuns = true → (s.pmbPort port).active = some (pos, 0x8C) →
    (s.pmbPort port).activeKind = 4 → s.pmbDev port pos = some (addr, .rect r) → result.res = 0 → result.pecOk = true →
    (s.rectCur r).vout = none →
    ∃ t, exec (.pmbTransactionComplete port result) s = .next t ∧
      t.pnt = (sample (0x400 + 8 * r + 1) (sat32 (linear11 (field result.data 0 2) 1000)) s).pnt ∧
      (t.rectCur r).nacks = 0 ∧ (t.rect r).nacks = 0 ∧ (t.pmbPort port).count = inc32 (s.pmbPort port).count ∧
      (∀ p, p ≠ port → t.pmbPort p = s.pmbPort p) ∧
      t = { s with
        pnt := t.pnt, pmb := { s.pmb with ports := t.pmb.ports }
        shr := { s.shr with
          cur := { s.shr.cur with rects := t.shr.cur.rects }, nxt := { s.shr.nxt with rects := t.shr.nxt.rects } } })

/-- The marver's events (from R183, R186, R189): eight failures in a row take a rectifier to ABSENT, a stale current point to
SILENT, an unpark that takes too long to FAULTED; sixteen fresh frames within tolerance to SERVING; a share error or a trim at its
limit for share_fault_frames raises SHARE_TOL; a dwell that reaches park_dwell parks the highest-ranked. Where a clause rests on
the model's reading, see log entries 26 and 36. -/
def Obligations.RectifierEvents : Prop :=
  (∀ rect s, s.timeRuns = true → s.drives = true → s.rectUsed rect = true → (s.rect rect).st ≠ .absent →
    8 ≤ (s.rect rect).nacks →
    ∃ t, exec (.rectNoAck rect) s = .next t ∧ (t.rect rect).st = .absent ∧ (t.rect rect).inputGood = false ∧
      (t.rect rect).nacks = 0 ∧ (t.rectCur rect).nacks = 0 ∧ (t.rectCur rect).expN = none ∧
      (t.rectCur rect).st = (s.rectCur rect).st ∧
      t.flt = (if (s.rect rect).sharing then raise kRectFault rect 0 s else s).flt ∧
      (∀ r, r ≠ rect → t.rect r = s.rect r ∧ t.rectCur r = s.rectCur r) ∧
      t = { s with
        flt := t.flt
        shr := { s.shr with
          cur := { s.shr.cur with rects := t.shr.cur.rects }, nxt := { s.shr.nxt with rects := t.shr.nxt.rects } } }) ∧
  (∀ rect s, s.timeRuns = true → s.drives = true → s.rectUsed rect = true → (s.rect rect).sharing = true →
    s.cfg.marver.staleFrames ≤ s.rectAge rect →
    exec (.rectSilent rect) s =
      .next (raise kRectSilent rect 0 (setRect rect (fun x => { x with st := .silent }) s))) ∧
  (∀ rect s, s.timeRuns = true → s.drives = true → s.rectUsed rect = true → (s.rect rect).st = .unparking →
    2000000 * (s.cfg.rects.get rect).unparkMs + s.frameNs ≤ (s.rect rect).unparkNs →
    exec (.rectUnparkTimeout rect) s =
      .next (raise kRectUnparkTimeout rect 0 (setRect rect (fun x => { x with st := .faulted }) s))) ∧
  (∀ rect s, s.timeRuns = true → s.drives = true → s.rectUsed rect = true → (s.rect rect).st = .holding →
    16 ≤ (s.rect rect).holdCount →
    exec (.rectServing rect) s = .next (setRect rect (fun x => { x with st := .serving }) s)) ∧
  (∀ rect s, s.timeRuns = true → s.drives = true → s.rectUsed rect = true → (s.rect rect).sharing = true →
    (s.rect rect).errRaised = false → s.cfg.marver.shareFaultFrames ≤ (s.rect rect).errRun →
    (s.rect rect).satRaised = true →
    ∃ t, exec (.shareTol rect) s = .next t ∧ (t.rect rect).errRaised = true ∧
      t.flt = (raise kShareTol rect 0 s).flt ∧ (∀ r, r ≠ rect → t.rect r = s.rect r) ∧
      t = { s with flt := t.flt, shr := { s.shr with nxt := { s.shr.nxt with rects := t.shr.nxt.rects } } }) ∧
  (∀ rect s, s.timeRuns = true → s.drives = true → s.rectUsed rect = true → (s.rect rect).sharing = true →
    (s.rect rect).satRaised = false → s.cfg.marver.shareFaultFrames ≤ (s.rect rect).satRun →
    (s.rect rect).errRaised = true →
    ∃ t, exec (.shareTol rect) s = .next t ∧ (t.rect rect).satRaised = true ∧
      t.flt = (raise kShareTol rect (if (s.rect rect).satHigh then 2 else 1) s).flt ∧
      (∀ r, r ≠ rect → t.rect r = s.rect r) ∧
      t = { s with flt := t.flt, shr := { s.shr with nxt := { s.shr.nxt with rects := t.shr.nxt.rects } } }) ∧
  (∀ s c, s.timeRuns = true → s.drives = true →
    parkFirst s.cfg (s.servingSet.filter fun r => decide ((s.rect r).park = .auto)) = some c →
    s.parkOpen = true → 0 < s.shr.nxt.dwell → s.cfg.marver.parkDwell ≤ s.shr.nxt.dwell →
    exec .rectPark s = .next { s with shr := { s.shr with nxt := { s.shr.nxt with
      dwell := 0
      rects := s.shr.nxt.rects.modify c fun x =>
        { x with st := .parked, opDue := some s.cfg.marver.parkOperation } } } })

/-- Hand-back and the shed progression (from R199, R200, R203, R204): a hand-back starts once the return condition has held for
return_frames, and every stage in DISCHARGE takes its step per tick; at each interval the progression ends where SHED is no longer
asserted, waits where VIN_HV has risen enough, and otherwise applies its next entry that does not stand already. Where a clause rests on the model's reading,
see log entries 27 and 36. -/
def Obligations.HoldUpEvents : Prop :=
  (∀ s, s.timeRuns = true → s.drives = true → s.tim.frameDue = true → s.shr.hold.st = .holdup →
    s.shr.hold.routeHit = false → s.shr.hold.pmbusRoute = false → 0 < s.shr.hold.retRun → s.cfg.hold.returnFrames ≤ s.shr.hold.retRun →
    ∃ t, exec .handbackStart s = .next t ∧ t.shr.hold = { s.shr.hold with st := .handback, retRun := 0 } ∧
      (∀ st, st ∈ s.batteryStages → (s.stage st).live = true → (s.stage st).mode = .discharge →
        (t.stage st).iTarget = 0 ∧
        (t.stage st).handStep = some (divRhe (s.cfg.hold.handbackRate * 1000) (max 1 s.frameTicks))) ∧
      (∀ st, st ∉ s.batteryStages ∨ (s.stage st).live = false ∨ (s.stage st).mode ≠ .discharge →
        t.stage st = s.stage st) ∧
      t = { s with stg := { s.stg with stages := t.stg.stages }, shr := { s.shr with hold := t.shr.hold } }) ∧
  (∀ (vinMv : Int) s, s.shr.hold.progRun = true →
    (monWith s.pdCfg .shed).any (fun m => bvGet s.msr.uv m) = false →
    exec (.shedInterval vinMv) s = .next { s with
      hsw := { s.hsw with vinMv := vinMv }, shr := { s.shr with hold := { s.shr.hold with progRun := false } } }) ∧
  (∀ (vinMv : Int) s, s.shr.hold.progRun = true →
    (monWith s.pdCfg .shed).any (fun m => bvGet s.msr.uv m) = true →
    s.shr.hold.vinAtStep + s.pdCfg.hold.shedRise ≤ vinMv →
    exec (.shedInterval vinMv) s = .next { s with hsw := { s.hsw with vinMv := vinMv } }) ∧
  (∀ (vinMv : Int) n s, s.shr.hold.progRun = true →
    (monWith s.pdCfg .shed).any (fun m => bvGet s.msr.uv m) = true →
    vinMv < s.shr.hold.vinAtStep + s.pdCfg.hold.shedRise → n < 48 →
    (∀ j, j < n → ∃ d, s.shr.hold.prog[s.shr.hold.progPos + j]? = some d ∧ s.shedDone d = true) →
    (s.shr.hold.prog[s.shr.hold.progPos + n]? = none → exec (.shedInterval vinMv) s = .next { s with
      hsw := { s.hsw with vinMv := vinMv }
      shr := { s.shr with hold := { s.shr.hold with progPos := s.shr.hold.progPos + n } } }) ∧
    (∀ e, s.shr.hold.prog[s.shr.hold.progPos + n]? = some e → s.shedDone e = false →
      exec (.shedInterval vinMv) s = .next (applyShed e { s with
        hsw := { s.hsw with vinMv := vinMv }
        shr := { s.shr with hold := { s.shr.hold with progPos := s.shr.hold.progPos + n + 1 } } })))

/-- The lehr's events (from R212, R218, R220, R222, R223): a silent domain becomes HELD with DEMAND_SILENT; a grant is refreshed a
quarter of its lease after the last; the start-up hold ends; an overdraw is raised once at the compliance deadline; enforcement
starts with the slot's limit from its grants and ends after enforce_release clean frames. Where a clause rests on the model's
reading, see log entry 38. -/
def Obligations.LehrEvents : Prop :=
  (∀ dom s, s.timeRuns = true → s.drives = true → s.domUsed dom = true → s.silentDue (s.dom dom) = true →
    s.slotOn (s.cfg.doms.get dom).slot = true →
    exec (.demandSilent dom) s = .next (raise kDemandSilent dom 0 (setDom dom (fun x => { x with st := .held }) s))) ∧
  (∀ dom s, s.timeRuns = true → s.drives = true → s.domUsed dom = true → (s.dom dom).live = true →
    dom ∉ s.leh.grantsDue → s.holdRuns = false ∨ (s.dom dom).issued ≠ 0 →
    (s.dom dom).issued + s.cfg.lehr.grantLease / 4 ≤ s.tim.frame + 1 →
    exec (.grantRefresh dom) s = .next { s with leh := { s.leh with grantsDue := s.leh.grantsDue ++ [dom] } }) ∧
  (∀ s, s.timeRuns = true → s.drives = true → s.leh.nxt.startHold = true → s.leh.nxt.holdUntil ≤ s.tim.frame →
    exec .startupGrantHoldEnd s = .next { s with leh := { s.leh with
      cur := { s.leh.cur with startHold := false }, nxt := { s.leh.nxt with startHold := false } } }) ∧
  (∀ dom s, s.timeRuns = true → s.drives = true → s.domUsed dom = true → (s.dom dom).overRaised = false →
    s.deadline ≤ (s.dom dom).overFrames →
    exec (.grantOverdraw dom) s =
      .next (raise kGrantOverdraw dom 0 (setDom dom (fun x => { x with overRaised := true }) s))) ∧
  (∀ slot s, s.timeRuns = true → s.drives = true → slot ∈ s.slotsJudged → (s.leh.nxt.enf.get slot).on = false →
    s.deadline ≤ (s.leh.nxt.enf.get slot).overFrames → 0 < s.pt 0x380 →
    (let sum := sumI ((s.slotDoms slot).map fun d => (s.dom d).grant)
     exec (.enforceStart slot) s = .next (raise kEnforceStart 512 slot { s with leh := { s.leh with nxt := { s.leh.nxt with
       enf := s.leh.nxt.enf.modify slot fun x =>
         { x with on := true, clean := 0, limMa := divUp ((sum + s.tolOf sum) * 1000) (s.pt 0x380) } } } }))) ∧
  (∀ slot s, s.timeRuns = true → s.drives = true → (s.leh.nxt.enf.get slot).on = true → s.slotShed slot = false →
    s.cfg.lehr.enforceRelease ≤ (s.leh.nxt.enf.get slot).clean →
    exec (.enforceEnd slot) s = .next (raise kEnforceEnd 512 slot { s with leh := { s.leh with nxt := { s.leh.nxt with
      enf := s.leh.nxt.enf.modify slot fun x => { x with on := false, clean := 0, overFrames := 0 } } } }))

/-- Background jobs (from R224 to R226, R247, R249, R324, R350, R353 to R356): an operation that the frame's schedule holds runs
and the job's place moves on; a stripe or a line without a wrong cell changes nothing else, but for a stale parity word and a
stale outer parity, which are written anew with STRIPE_MISMATCH or MRAM_TORN_LINE; one wrong cell of a word is corrected and
counted, two of a stripe's word are rebuilt, three of a line's word are recovered by the outer code; the oldest queued write
reaches the impedance table; the points of a node lost for 4,096 frames are freed; the jobs resume after a whole frame without
PFI. Where a clause rests on the model's reading, see log entries 37, 40, 48 and 56. -/
def Obligations.BackgroundJobs : Prop :=
  (∀ s, s.timeRuns = true → s.leh.pfiHold = true → s.tim.frameDue = true → s.pin.pfi = false → s.pin.pfiAny = false →
    exec .bgResume s = .next { s with leh := { s.leh with pfiHold := false }, recd := { s.recd with paused := false } }) ∧
  (∀ s, s.timeRuns = true → s.jobDue 0 = true → exec .recorderHousekeeping s = .next (jobDone 0 s)) ∧
  (∀ s, s.timeRuns = true → s.jobDue 1 = true →
    let k := (s.leh.jobs.get 1).pos
    s.mem.parity.get k = s.mem.xorWords k ∨ s.outWord (stripeGroup k) ≠ none →
    exec (.sramScrubStripe {}) s =
      .next (jobDone 1 (if k = 262143 then { s with mem := restartCounts s.mem } else s))) ∧
  (∀ s, s.timeRuns = true → s.jobDue 1 = true →
    let k := (s.leh.jobs.get 1).pos
    k < 262143 → s.outWord (stripeGroup k) = none → s.mem.parity.get k ≠ s.mem.xorWords k →
    exec (.sramScrubStripe {}) s = .next (jobDone 1 (raise kStripeMismatch (64 + stripeGroup k) 0
      { s with mem := { s.mem with parity := s.mem.parity.put k (s.mem.xorWords k) } }))) ∧
  (∀ w b s, s.timeRuns = true → s.jobDue 1 = true → w < 9 → b < 72 →
    let k := (s.leh.jobs.get 1).pos
    let m := stripeMacro k w
    let x := s.mem.macros.get m
    k < 262143 → s.outWord (stripeGroup k) = none → s.mem.parity.get k = s.mem.xorWords k → x.ce + 1 < 65536 →
    (let hit := decide (s.cfg.ceThreshold ≤ x.ce + 1) && !x.ceRaised
     exec (.sramScrubStripe { cells := [(w, b)] }) s = .next (jobDone 1 (raiseIf hit kSramCe m 0
       { s with mem := { s.mem with
         macros := s.mem.macros.put m { x with ce := x.ce + 1, ceRaised := x.ceRaised || hit } } })))) ∧
  (∀ w b c s, s.timeRuns = true → s.jobDue 1 = true → w < 8 → b < 72 → c < 72 → b ≠ c →
    let k := (s.leh.jobs.get 1).pos
    let m := 8 * (k % 8) + w
    let x := s.mem.macros.get m
    let rows := if k / 8 ∈ x.rebuilt then x.rebuilt else k / 8 :: x.rebuilt
    k < 262143 → s.outWord (k % 8) = none → rows.length < s.cfg.rebuildMapout →
    exec (.sramScrubStripe { cells := [(w, b), (w, c)] }) s = .next (jobDone 1
      (raiseIf (decide (x.rebFrame ≠ some s.tim.frame)) kSramRebuilt m (64 * k + 8 * w)
        { s with mem := { s.mem with
          macros := s.mem.macros.put m { x with rebuilt := rows, rebFrame := some s.tim.frame } } }))) ∧
  (∀ s, s.timeRuns = true → s.jobDue 3 = true →
    let line := (s.leh.jobs.get 3).pos
    line < 131071 → s.mem.mce < s.cfg.ceThreshold → s.mem.mce < 4294967296 →
    exec (.mramScrubLine {}) s = .next (jobDone 3
      (if s.outerStale line then raise kMramTornLine 72 (256 * line) (rewriteOuter line s) else s))) ∧
  (∀ b s, s.timeRuns = true → s.jobDue 3 = true → b < 2048 →
    let line := (s.leh.jobs.get 3).pos
    let count := s.mem.mce + 1
    line < 131071 → s.outerStale line = false → count < 4294967296 →
    (let hit := decide (s.cfg.ceThreshold ≤ count) && !s.mem.mceRaised
     exec (.mramScrubLine { data := [b] }) s = .next (jobDone 3 (raiseIf hit kMramCe 72 0
       { s with mem := { s.mem with mce := count, mceRaised := s.mem.mceRaised || hit } })))) ∧
  (∀ w s, s.timeRuns = true → s.jobDue 3 = true → w < 32 →
    let line := (s.leh.jobs.get 3).pos
    line < 131071 → s.outerStale line = false → s.mem.mce < s.cfg.ceThreshold → s.mem.mce < 4294967296 →
    s.mem.rsFrame ≠ some s.tim.frame →
    exec (.mramScrubLine { data := [64 * w, 64 * w + 1, 64 * w + 2] }) s = .next (jobDone 3 (raise kMramRsCorrected 72 0
      { s with mem := { s.mem with rsFrame := some s.tim.frame } }))) ∧
  (∀ s, s.timeRuns = true → s.jobDue 5 = true →
    ∃ t, exec .pointCompaction s = .next t ∧ t.leh = (jobDone 5 s).leh ∧
      (∀ id, id / 1024 ≠ (s.leh.jobs.get 5).pos ∨ id < 4096 ∨ (s.node (id / 4096)).joined = true ∨
          (s.node (id / 4096)).lostFor < 4096 →
        t.pnt.shadow.get id = s.pnt.shadow.get id) ∧
      (∀ id, id / 1024 = (s.leh.jobs.get 5).pos → 4096 ≤ id → (s.node (id / 4096)).joined = false →
        4096 ≤ (s.node (id / 4096)).lostFor → t.pnt.shadow.get id = {}) ∧
      t = { s with leh := t.leh, pnt := { s.pnt with shadow := t.pnt.shadow } }) ∧
  (∀ s w rest, s.timeRuns = true → s.jobDue 2 = true → s.bat.zq = w :: rest → w.isCell = true →
    exec .ztableWrite s = .next (jobDone 2 { s with bat := { s.bat with
      zq := rest, zDropRaised := false, ztab := s.bat.ztab.put (128 * w.index + w.cellIx) w.cell } }))

/-- Self-test in operation and the test access port (from R358, R361, R365, R366, Table 17.3): the next commanded slice answers
its mailbox, failed where the signature and its repeat did not match; the next of the schedule moves on; a target that failed
twice is raised and marked. Each public test instruction becomes the current one with its register and pins; an internal one where
it is denied acts as BYPASS and is noted for the next boundary; where it is permitted the spec gives it no effect, and the model
refuses it (log entry 40). Where a clause rests on the model's reading, see log entry 40. -/
def Obligations.SelfTestAndTestPort : Prop :=
  (∀ first second s t0 mbox rest, s.timeRuns = true → s.leh.pfiHold = false → s.jobPaused 4 = false →
    s.mem.bistAsk = (t0, mbox) :: rest →
    first = true ∨ second = true →
    exec (.bistSlice first second) s = .next (finishDeferred mbox 0x1301 0 [0, if first then 0 else 1]
      { s with mem := { s.mem with bistAsk := rest } })) ∧
  (∀ s t0 mbox rest, s.timeRuns = true → s.leh.pfiHold = false → s.jobPaused 4 = false →
    s.mem.bistAsk = (t0, mbox) :: rest →
    exec (.bistSlice false false) s = .next (finishDeferred mbox 0x1301 0 [1, 1]
      (targetFailed t0 { s with mem := { s.mem with bistAsk := rest } }))) ∧
  (∀ first second s, s.timeRuns = true → s.jobDue 4 = true → s.romFailed = false → s.mem.bistAsk = [] →
    first = true ∨ second = true →
    ∃ t, exec (.bistSlice first second) s = .next t ∧
      t.mem = { s.mem with bistPos := if 90 ≤ s.mem.bistPos then 0 else s.mem.bistPos + 1 } ∧
      t = { (jobDone 4 s) with mem := t.mem }) ∧
  (∀ s, s.timeRuns = true → s.jobDue 4 = true → s.romFailed = false → s.mem.bistAsk = [] → s.mem.bistPos = 90 →
    ∃ t, exec (.bistSlice false false) s = .next t ∧
      t.mem = { s.mem with bistPos := 0, degNext := bvPut s.mem.degNext 50 true } ∧
      t = { (raise kRomFail 74 0 (jobDone 4 s)) with mem := t.mem }) ∧
  (∀ s, exec .bypass s = .next { s with tap := { s.tap with
    instr := .bypass, pinsHeld := false, highz := false, dr := 0 } }) ∧
  (∀ preload s, exec (.samplePreload preload) s = .next { s with tap := { s.tap with
    instr := .sample, pinsHeld := false, highz := false, boundary := preload } }) ∧
  (∀ s, exec .extest s = .next { s with tap := { s.tap with instr := .extest, pinsHeld := true, highz := false } }) ∧
  (∀ s, exec .idcode s = .next { s with tap := { s.tap with
    instr := .idcode, pinsHeld := false, highz := false, dr := 0xB9400075 } }) ∧
  (∀ s, exec .clamp s = .next { s with tap := { s.tap with instr := .clamp, pinsHeld := true, highz := false } }) ∧
  (∀ s, exec .highz s = .next { s with tap := { s.tap with instr := .highz, pinsHeld := false, highz := true } }) ∧
  (∀ s, s.otp.lifecycle ≠ .blank → s.otp.lifecycle ≠ .returned →
    (let t := fun i : TapInstr => { s with
      tap := { s.tap with instr := i, pinsHeld := false, highz := false, dr := 0 }
      mem := { s.mem with testDenied := true } }
     exec .intScan s = .next (t .intScan) ∧ exec .intMbist s = .next (t .intMbist) ∧
     exec .intMemacc s = .next (t .intMemacc))) ∧
  (∀ s, s.otp.lifecycle = .blank ∨ s.otp.lifecycle = .returned →
    exec .intScan s = .refused .internalTest ∧ exec .intMbist s = .refused .internalTest ∧
    exec .intMemacc s = .refused .internalTest)


/-- Charge accounting (from R235, R238, R239, R241, R243, R244): a slow step that closes with its held discharge current takes
current times time off the remaining charge; end of discharge empties the string and takes its limit to 0; after it and after
charge termination a rest or voltage correction is the string's as the rules give it, with the end of the step's work after it;
END clears. Where a clause rests on
the model's reading, see log entry 37. -/
def Obligations.ChargeAccounting : Prop :=
  (∀ string s (i : Int), s.timeRuns = true → s.drives = true → s.strUsed string = true →
    (s.str string).closeDue = true → (s.str string).init = false → (s.str string).fast = false →
    (s.str string).iHold = i → (s.str string).iFrame = i → 0 ≤ i →
    ∃ t, exec (.integrationStepClose string) s = .next t ∧
      (t.str string).qRem = clampI (-(s.str string).fccNas) (s.str string).fccNas
        ((s.str string).qRem - i * (((s.str string).elapsed * s.frameNs : Nat) : Int)) ∧
      (t.str string).iStep = i ∧ (t.str string).elapsed = 0 ∧ (t.str string).closeDue = false ∧
      (∀ n, n ≠ string → t.str n = s.str n) ∧
      t = { s with
        bat := { s.bat with
          nxt := { s.bat.nxt with strings := t.bat.nxt.strings }, modules := t.bat.modules, zq := t.bat.zq
          zDropped := t.bat.zDropped, zDropRaised := t.bat.zDropRaised }
        flt := { s.flt with inflight := t.flt.inflight } }) ∧
  (∀ string s, s.timeRuns = true → s.drives = true → s.strUsed string = true → s.stepsDone string = true →
    restDue s (s.str string) = true →
    ∃ t, exec (.restCorrection string) s = .next t ∧
      t.str string = endWork s string (restCorrect s string (s.str string)) ∧
      (∀ n, n ≠ string → t.str n = s.str n) ∧
      t.flt = (raiseIf (discordDue s (restCorrect s string (s.str string))) kDiscordant string 0
        (raise kRestCorrection string 0 s)).flt ∧
      t = { s with bat := { s.bat with nxt := { s.bat.nxt with strings := t.bat.nxt.strings } }, flt := t.flt }) ∧
  (∀ string s, s.timeRuns = true → s.drives = true → s.strUsed string = true → s.stepsDone string = true →
    restDue s (s.str string) = false → voltDue s string (s.str string) = true →
    ∃ t, exec (.voltageCorrection string) s = .next t ∧
      t.str string = endWork s string (voltCorrect s string (s.str string)) ∧
      (∀ n, n ≠ string → t.str n = s.str n) ∧
      t.flt = (raiseIf (discordDue s (voltCorrect s string (s.str string))) kDiscordant string 0 s).flt ∧
      t = { s with bat := { s.bat with nxt := { s.bat.nxt with strings := t.bat.nxt.strings } }, flt := t.flt }) ∧
  (∀ string s, s.timeRuns = true → s.drives = true → s.strUsed string = true → (s.str string).ended = false →
    (s.str string).closeDue = false → 0 < (s.str string).eodRun →
    (s.cfg.strings.get string).eodFrames ≤ (s.str string).eodRun →
    (let y := capStep s string (endString (s.str string))
     ∃ t, exec (.eodReached string) s = .next t ∧ (t.str string).ended = true ∧ (t.str string).qRem = 0 ∧
      (t.str string).disLimit = 0 ∧ (t.str string).refSoc = some 0 ∧
      ((s.str string).closed = false ∨ workDue s string y = true →
        (t.str string).discordant = false ∧ t.flt = (raise kEodReached string 0 s).flt) ∧
      ((s.str string).closed = true → workDue s string y = false → t.str string = endWork s string y ∧
        t.flt = (raiseIf (discordDue s y) kDiscordant string 0 (raise kEodReached string 0 s)).flt) ∧
      (∀ n, n ≠ string → t.str n = s.str n) ∧
      t = { s with bat := { s.bat with nxt := { s.bat.nxt with strings := t.bat.nxt.strings } }, flt := t.flt })) ∧
  (∀ string s, s.timeRuns = true → s.drives = true → s.strUsed string = true → (s.str string).ended = true →
    64 ≤ (s.str string).endRun →
    exec (.endClear string) s = .next (setStr string (fun x => capStep s string { x with ended := false, endRun := 0 }) s))

/-- The charge controller and the estimator's tables (from R230, R232, R240, R246 to R248): a termination anchors the string full
and floats it, a time-out floats it without an anchor, an inhibition clears; an impedance out of range changes no cell, any other
joins the writes; a cycle record joins them every 65,536 frames, or is dropped and counted; a module falls silent. Where a clause
rests on the model's reading, see log entry 37. -/
def Obligations.ChargerAndTables : Prop :=
  (∀ string s, s.timeRuns = true → s.drives = true → s.strUsed string = true →
    (s.cfg.strings.get string).chargeAuto = true → (s.str string).charge = .cv → 0 < (s.str string).termRun →
    (s.cfg.strings.get string).termFrames ≤ (s.str string).termRun → (s.str string).closeDue = false →
    eodDue s string (s.str string) = false → (s.str string).relearn = false →
    ∃ t, exec (.chargeTermination string) s = .next t ∧ (t.str string).charge = .float ∧
      (t.str string).chgMode = some .trim ∧
      (t.str string).chgV = some (((s.cfg.strings.get string).cells : Int) * (s.cfg.strings.get string).vCellFloat) ∧
      (t.str string).qRem = (s.str string).fccNas ∧ (t.str string).k = 1000000 ∧ (t.str string).discordant = false ∧
      (∀ n, n ≠ string → t.str n = s.str n) ∧
      t = { s with bat := { s.bat with nxt := { s.bat.nxt with strings := t.bat.nxt.strings } } }) ∧
  (∀ string s, s.timeRuns = true → s.drives = true → s.strUsed string = true →
    (s.cfg.strings.get string).chargeAuto = true → (s.str string).charge = .cv → 0 < (s.str string).cvFrames →
    (s.cfg.strings.get string).cvTimeout ≤ (s.str string).cvFrames →
    exec (.chargeTimeout string) s = .next (raise kChargeTimeout string 0 (setStr string (fun x => { x with
      charge := .float, chgMode := some .trim, termRun := 0, cvFrames := 0, inhibRun := 0
      chgV := some (((s.cfg.strings.get string).cells : Int) * (s.cfg.strings.get string).vCellFloat) }) s))) ∧
  (∀ string s, s.timeRuns = true → s.drives = true → s.strUsed string = true → (s.str string).charge = .inhibit →
    64 ≤ (s.str string).inhibRun →
    exec (.inhibitClear string) s = .next (setStr string (fun x => { x with
      charge := .cc, chgMode := some .charge, termRun := 0, cvFrames := 0, inhibRun := 0 }) s)) ∧
  (∀ module s z (v0 v1 temp zs : Int), s.timeRuns = true → s.drives = true → s.modUsed module = true →
    s.strUsed (s.cfg.modules.get module).string = true → (s.module module).silent = false → 0 < z.di →
    (s.str (s.cfg.modules.get module).string).zstep = some z → (s.module module).vBefore = some v0 →
    (s.module module).vAfter = some v1 → (s.module module).temp = some temp →
    zs = divRhe (-((v1 - v0) * 1000000)) z.di →
    (let u := setModule module (fun m => { m with vBefore := none, vAfter := none }) s
     let ix := 8 * z.sidx + min (s.band temp) 7
     let old := s.bat.zlive.get (128 * module + ix)
     let cell : ZCell := { z := if old.n = 0 then zs else old.z + shrRhe (zs - old.z) s.cfg.est.zShift
                           n := min (old.n + 1) 255 }
     (zs ≤ 0 ∨ s.cfg.est.zMax < zs → exec (.impedanceUpdate module) s = .next u) ∧
     (0 < zs → zs ≤ s.cfg.est.zMax → s.bat.zq.length < 64 →
       exec (.impedanceUpdate module) s = .next { u with bat := { u.bat with
         zq := s.bat.zq ++ [{ isCell := true, index := module, cellIx := ix, cell := cell }]
         zpend := s.bat.zpend ++ [(128 * module + ix, cell, s.tim.frame + 2)] } }))) ∧
  (∀ string s, s.timeRuns = true → s.drives = true → s.strUsed string = true → 65536 ≤ (s.str string).recFrames →
    (let x := s.str string
     let u := setStr string (fun x => { x with recFrames := 0 }) s
     (s.bat.zq.length < 64 →
       exec (.cycleRecordQueue string) s = .next { u with bat := { u.bat with
         zq := s.bat.zq ++ [{ isCell := false, index := string, crec :=
           { cycles := x.cycles, disAcc := x.disAcc, fccMah := x.fccMah, relearn := x.relearn } }] } }) ∧
     (64 ≤ s.bat.zq.length →
       ∃ t, exec (.cycleRecordQueue string) s = .next t ∧ t.bat.zq = s.bat.zq ∧
         t.bat.zDropped = inc32 s.bat.zDropped ∧ t.bat.zDropRaised = true ∧
         t.flt = (raiseIf (!s.bat.zDropRaised) kZtableDrop string 0 s).flt ∧
         t = { u with flt := t.flt, bat := { u.bat with zDropped := t.bat.zDropped, zDropRaised := true } }))) ∧
  (∀ module s, s.timeRuns = true → s.drives = true → s.modUsed module = true →
    (s.module module).silentRaised = false → 4 * s.cfg.est.modulePoll ≤ (s.module module).age →
    exec (.moduleSilent module) s = .next (raise kModuleSilent (64 + module) 0
      (setModule module (fun m => { m with silent := true, silentRaised := true }) s)))

/-- The power die's reflexes on a channel (from R260 to R263, R269, R272, R273, R275, Table 9.4): the limit engages and releases;
the fault timer, which counts up while the limit is active and down at one eighth of that rate otherwise, latches the trip at its full
count and not before, and power-good goes before the pull-down; the breaker latches with the pull-down; both note a
slot that trips under a shed limit (from R202); a damaged pass transistor holds the gate off in FAILED; VIN_HV above the window
opens a keeper; a fall below ew_level asserts its early warning. Where a clause rests on the model's reading, see log entries 28,
29 and 52. -/
def Obligations.ChannelReflexes : Prop :=
  let timed (ns : Nat) (x : Channel) : Channel := { x with
    timer8 := x.timer8 - (ns - x.limNs)
    riseNs := if x.gate && !x.gateUp && !x.follower then x.riseNs + (ns - x.limNs) else x.riseNs
    limNs := max x.limNs ns }
  (∀ (m : ChanMoment) s, s.pdUsed m.chan = true → (s.chan m.chan).gate = true → (s.chan m.chan).limit = false →
    exec (.currentLimitEngage m) s =
      .next (setChan m.chan (fun x => { timed m.ns x with limit := true, limitTick := true }) s)) ∧
  (∀ (m : ChanMoment) s, (s.chan m.chan).limit = true →
    exec (.currentLimitRelease m) s = .next (setChan m.chan (fun x => { x with
      timer8 := min (x.timer8 + 8 * (m.ns - x.limNs)) (8000 * (s.pdCfg.chans.get m.chan).timerUs)
      limNs := max x.limNs m.ns, limit := false }) s)) ∧
  (∀ (m : ChanMoment) s, s.pdUsed m.chan = true → (s.chan m.chan).gate = true → (s.chan m.chan).limit = true →
    (s.chan m.chan).latched = none →
    (let full := 8000 * (s.pdCfg.chans.get m.chan).timerUs
     let count := (s.chan m.chan).timer8 + 8 * (m.ns - (s.chan m.chan).limNs)
     (count < full → exec (.timerTrip m) s = .next s) ∧
     (full ≤ count → ∃ t, exec (.timerTrip m) s = .next t ∧
       t.hsw.chans = s.hsw.chans.modify m.chan (fun x => { x with
         timer8 := full, limNs := max x.limNs m.ns, pullDue := true, latched := some .timer, tripSeen := false, pg := false }) ∧
       ((s.chan m.chan).shed = none ∨ 48 ≤ m.chan → t.shr = s.shr) ∧
       (m.chan < 48 → (s.chan m.chan).shed.isSome = true → m.chan ∈ t.shr.hold.trippedUnder) ∧
       t = { s with
         hsw := { s.hsw with chans := t.hsw.chans }
         shr := { s.shr with hold := { s.shr.hold with trippedUnder := t.shr.hold.trippedUnder } } }))) ∧
  (∀ chan s, (s.chan chan).pullDue = true →
    exec (.gatePulldownDelay chan) s = .next (setChan chan (fun x => { x with
      gate := false, pg := false, pgRun := 0, limit := false, pullDue := false, gateUp := false, held := none }) s)) ∧
  (∀ chan s, s.pdUsed chan = true → (s.chan chan).gate = true → (s.chan chan).latched = none →
    ∃ t, exec (.breakerTrip chan) s = .next t ∧
      t.hsw.chans = s.hsw.chans.modify chan (fun x => { x with
        gate := false, pg := false, pgRun := 0, limit := false, pullDue := false, gateUp := false, held := none
        latched := some .breaker, tripSeen := false }) ∧
      ((s.chan chan).shed = none ∨ 48 ≤ chan → t.shr = s.shr) ∧
      (chan < 48 → (s.chan chan).shed.isSome = true → chan ∈ t.shr.hold.trippedUnder) ∧
      t = { s with
        hsw := { s.hsw with chans := t.hsw.chans }
        shr := { s.shr with hold := { s.shr.hold with trippedUnder := t.shr.hold.trippedUnder } } }) ∧
  (∀ chan s, s.timeRuns = true → s.pdUsed chan = true → (s.chan chan).st = .starting → (s.chan chan).gate = true →
    (s.chan chan).gateUp = false → (s.pdCfg.chans.get chan).gateRiseMs * 1000000 ≤ (s.chan chan).riseNs →
    exec (.gateStuck chan) s = .next (raiseT kGateStuck chan 0 (setChan chan (fun x => { x with
      gate := false, pg := false, pgRun := 0, limit := false, pullDue := false, gateUp := false, held := none, st := .failed
      pending := false, ew := x.ew || isKeeper chan }) s))) ∧
  (∀ chan s, s.timeRuns = true → s.pdUsed chan = true → (s.chan chan).st ≠ .on → (s.chan chan).st ≠ .failed →
    (s.chan chan).gate = false →
    exec (.fetShort chan) s = .next (raiseT kFetShort chan 0 (setChan chan (fun x => { x with
      gate := false, pg := false, pgRun := 0, limit := false, pullDue := false, gateUp := false, held := none, st := .failed
      pending := false, ew := x.ew || isKeeper chan }) s))) ∧
  (∀ keeper s, s.timeRuns = true → keeper < 4 → s.pdUsed (48 + keeper) = true → (s.chan (48 + keeper)).gate = true →
    ((s.chan (48 + keeper)).st = .on ∨ (s.chan (48 + keeper)).st = .starting) →
    exec (.keeperVinOv keeper) s = .next (raiseT kKeeperVinOv (48 + keeper) 0
      (setChan (48 + keeper) (fun x => { x with vinRun := 0, vinAll := false })
        (setChan (48 + keeper) (fun x =>
          if s.sys.coreAbsent then { x with st := .empty, pending := false, ew := true, held := some false }
          else { x with
            st := .empty, pg := false, pgRun := 0, pullDue := true, pending := false, ew := true, held := none }) s)))) ∧
  (∀ keeper s, keeper < 4 → s.pdUsed (48 + keeper) = true → (s.pdCfg.chans.get (48 + keeper)).ewEn = true →
    exec (.ewAssert keeper) s = .next (setChan (48 + keeper) (fun x => { x with ewVin := true, ew := true }) s))

/-- Starts at a frame boundary (from R20, R106, R267, R270, R278, R279, Tables 3.7, 9.3 and 9.4): a seat debounced starts its slot,
waits while cool-down runs, or leaves it DISABLED; a pull of the debounce's length releases a trip; a start that waits for the end
of cool-down takes effect there, a tripped channel's toggle with it; a keeper starts after its insertion delay or is DISABLED.
Each changes one channel, and a start raises CH_START. A start drives the gate, but under a power-die over-temperature shutdown,
which latches the channel, under a latch not yet sampled, and while the power die sees the core die absent. Where a clause rests
on the model's reading, see log entries 45 and 52. -/
def Obligations.ChannelStarts : Prop :=
  let started (s : State) (chan : Nat) (x : Channel) : Channel :=
    let y := { x with st := .starting, pending := false, cool := none }
    if s.sys.pdShutdown && !isKeeper chan then
      { y with gate := false, pg := false, pullDue := false, shutLatch := x.latched.isNone, tripSeen := false }
    else if (x.latched.isSome || x.shutLatch) && !x.tripSeen then y
    else if s.sys.coreAbsent then { y with held := some true, latched := none, shutLatch := false, tripSeen := false }
    else { y with
      gate := true, runCode := false, riseNs := 0, gateUp := false, pgRun := 0, pg := false, pullDue := false, held := none
      latched := none, shutLatch := false, tripSeen := false }
  (∀ slot s, s.timeRuns = true → s.drives = true → s.tim.frameDue = true → slot < 48 → s.chanUsed slot = true →
    (s.chan slot).st = .seating → (s.chan slot).pending = false → (s.chan slot).seatAll = true →
    (s.cfg.chans.get slot).seatDb ≤ (s.chan slot).seatRun + 1 →
    ((s.chan slot).enabled = false →
      exec (.seatDebounceComplete slot) s = .next (setChan slot (fun x => { x with st := .disabled }) s)) ∧
    ((s.chan slot).enabled = true → (s.chan slot).cooling (s.tim.frame + 1) = true →
      exec (.seatDebounceComplete slot) s = .next (setChan slot (fun x => { x with pending := true }) s)) ∧
    ((s.chan slot).enabled = true → (s.chan slot).cooling (s.tim.frame + 1) = false →
      exec (.seatDebounceComplete slot) s = .next (setChan slot (started s slot) (raise kChStart slot 0 s)))) ∧
  (∀ slot s, s.timeRuns = true → s.drives = true → s.tim.frameDue = true → slot < 48 → s.chanUsed slot = true →
    (s.chan slot).st = .tripped → (s.chan slot).gapAll = true → (s.cfg.chans.get slot).seatDb ≤ (s.chan slot).gapRun + 1 →
    exec (.pullCountedAsToggle slot) s = .next (setChan slot (fun x => { x with
      st := .empty, pending := false, latched := none, shutLatch := false, tripSeen := false }) s)) ∧
  (∀ chan (e : Nat) s, s.timeRuns = true → s.drives = true → s.tim.frameDue = true → s.chanUsed chan = true →
    (s.chan chan).cool = some e → e ≤ s.tim.frame →
    (let starts := chan < 48 ∧ (s.chan chan).seatS = true ∨
       isKeeper chan = true ∧ (s.cfg.chans.get chan).insertFrames ≤ (s.chan chan).vinRun
     ((s.chan chan).pending = false →
       exec (.coolDownEnd chan) s = .next (setChan chan (fun x => { x with cool := none }) s)) ∧
     ((s.chan chan).pending = true → ((s.chan chan).st = .tripped → starts) →
       ∃ t, exec (.coolDownEnd chan) s = .next t ∧ t.chan chan = started s chan (s.chan chan) ∧
         (∀ n, n ≠ chan → t.chan n = s.chan n) ∧ t.flt = (raise kChStart chan 0 s).flt ∧
         t = { s with hsw := { s.hsw with chans := t.hsw.chans }, flt := t.flt }) ∧
     ((s.chan chan).pending = true → (s.chan chan).st = .tripped → ¬ starts →
       ∃ t, exec (.coolDownEnd chan) s = .next t ∧
         t.chan chan = { s.chan chan with
           st := .empty, cool := none, pending := false, latched := none, shutLatch := false, tripSeen := false, seatRun := 0
           seatAll := false } ∧
         (∀ n, n ≠ chan → t.chan n = s.chan n) ∧ t = { s with hsw := { s.hsw with chans := t.hsw.chans } }))) ∧
  (∀ keeper s, s.timeRuns = true → s.drives = true → s.tim.frameDue = true → keeper < 4 → s.chanUsed (48 + keeper) = true →
    ((s.chan (48 + keeper)).st = .empty ∨ (s.chan (48 + keeper)).st = .seating) →
    (s.chan (48 + keeper)).vinAll = true → (s.chan (48 + keeper)).cooling (s.tim.frame + 1) = false →
    (s.cfg.chans.get (48 + keeper)).insertFrames ≤ (s.chan (48 + keeper)).vinRun + 1 →
    ((s.chan (48 + keeper)).enabled = true → exec (.keeperInsertDelayEnd keeper) s =
      .next (setChan (48 + keeper) (started s (48 + keeper)) (raise kChStart (48 + keeper) 0 s))) ∧
    ((s.chan (48 + keeper)).enabled = false → exec (.keeperInsertDelayEnd keeper) s =
      .next (setChan (48 + keeper) (fun x => { x with st := .disabled }) s)))

/-- Rails (from R290 to R295, R300, Table 10.4): an edge whose boundary has come changes its EN output or queues its node's order,
and the confirmations of the other direction go, and an edge that waits behind it is the next; a deadline or a level fault is
taken in with its message; a fault that only logs leaves one primary record and no fall; a rise timeout, and a latching fault, make the group fall latching; a fall timeout is
secondary; a clean run clears the retries. Where a clause rests on the model's reading, see log entry 39. -/
def Obligations.RailEvents : Prop :=
  let passed (e : Nat) (x : Rail) : Rail :=
    let y := { x with edge := none, edgeAt := e, up := false, off := false, winRun := 0, badRun := 0 }
    match x.nextEdge with
    | none => y
    | some f => { y with edge := some f, edgeUp := false, deadline := x.nextDl, nextEdge := none, nextDl := none }
  (∀ rail (e : Nat) s, s.timeRuns = true → s.drives = true → s.railUsed rail = true → (s.cfg.rails.get rail).kind = 1 →
    (s.rail rail).edge = some e → e ≤ s.absTick →
    ∃ t, exec (.railEdge rail) s = .next t ∧
      t.seq.en = bvPut s.seq.en (s.cfg.rails.get rail).en (s.rail rail).edgeUp ∧
      t.rail rail = passed e (s.rail rail) ∧
      (∀ n, n ≠ rail → t.rail n = s.rail n) ∧ t = { s with seq := { s.seq with rails := t.seq.rails, en := t.seq.en } }) ∧
  (∀ rail (e : Nat) s, s.timeRuns = true → s.drives = true → s.railUsed rail = true → (s.cfg.rails.get rail).kind = 2 →
    (s.rail rail).edge = some e → e ≤ s.absTick →
    ∃ t, exec (.railEdge rail) s = .next t ∧
      ((s.cfg.rails.get rail).node, 256 * (s.cfg.rails.get rail).group + (s.cfg.rails.get rail).position,
        (s.rail rail).edgeUp) ∈ t.seq.orders ∧
      t.rail rail = passed e (s.rail rail) ∧ t.seq.en = s.seq.en ∧ (∀ n, n ≠ rail → t.rail n = s.rail n) ∧
      t = { s with seq := { s.seq with rails := t.seq.rails, orders := t.seq.orders } }) ∧
  (∀ rail s, s.timeRuns = true → s.drives = true → s.takeDue rail 1 = true →
    (s.rail rail).retrying = false → (s.groupCur (s.cfg.rails.get rail).group).live = true →
    ∃ t, exec (.riseTimeout rail) s = .next t ∧ (t.group (s.cfg.rails.get rail).group).latching = true ∧
      ((t.group (s.cfg.rails.get rail).group).st = .falling ∨ (t.group (s.cfg.rails.get rail).group).st = .resting) ∧
      (∃ more, t.flt.inflight = (raise kRiseTimeout (s.cfg.rails.get rail).group rail s).flt.inflight ++ more) ∧
      t = { s with seq := t.seq, flt := { s.flt with inflight := t.flt.inflight } }) ∧
  (∀ rail (x : Happening) s, s.timeRuns = true → s.drives = true → s.takeDue rail 2 = true → s.railHead rail = some x →
    (s.groupCur (s.cfg.rails.get rail).group).live = false →
    exec (.fallTimeout rail) s = .next (seqRecord (s.cfg.rails.get rail).group rail kFallTimeout.2 x.tag x.v x.mon x.snap true
      (setRail rail (fun y => { y with pends := y.pends.tail })
        (raise kFallTimeout (s.cfg.rails.get rail).group rail s)))) ∧
  (∀ rail (x : Happening) s, s.timeRuns = true → s.drives = true → s.takeDue rail 3 = true → s.railHead rail = some x →
    (s.groupCur (s.cfg.rails.get rail).group).live = true →
    ((s.cfg.rails.get rail).reaction = 0 → s.groupFalls (s.cfg.rails.get rail).group = false → s.seq.seqfDriveNxt = false →
      (s.group (s.cfg.rails.get rail).group).primTaken = false →
      exec (.railUv rail) s = .next (setGroup (s.cfg.rails.get rail).group (fun y => { y with primTaken := true })
        (seqRecord (s.cfg.rails.get rail).group rail kRailUv.2 x.tag x.v x.mon x.snap false
          (setRail rail (fun y => { y with pends := y.pends.tail })
            (raise kRailUv (s.cfg.rails.get rail).group rail s))))) ∧
    ((s.cfg.rails.get rail).reaction = 2 → s.seq.sysReset = false →
      ∃ t, exec (.railUv rail) s = .next t ∧ (t.group (s.cfg.rails.get rail).group).latching = true ∧
        ((t.group (s.cfg.rails.get rail).group).st = .falling ∨ (t.group (s.cfg.rails.get rail).group).st = .resting) ∧
        (∃ more, t.flt.inflight = (raise kRailUv (s.cfg.rails.get rail).group rail s).flt.inflight ++ more) ∧
        t = { s with seq := t.seq, flt := { s.flt with inflight := t.flt.inflight } })) ∧
  (∀ rail (x : Happening) s, s.timeRuns = true → s.drives = true → s.takeDue rail 4 = true → s.railHead rail = some x →
    (s.groupCur (s.cfg.rails.get rail).group).live = true →
    ((s.cfg.rails.get rail).reaction = 0 → s.groupFalls (s.cfg.rails.get rail).group = false → s.seq.seqfDriveNxt = false →
      (s.group (s.cfg.rails.get rail).group).primTaken = false →
      exec (.railOv rail) s = .next (setGroup (s.cfg.rails.get rail).group (fun y => { y with primTaken := true })
        (seqRecord (s.cfg.rails.get rail).group rail kRailOv.2 x.tag x.v x.mon x.snap false
          (setRail rail (fun y => { y with pends := y.pends.tail })
            (raise kRailOv (s.cfg.rails.get rail).group rail s))))) ∧
    ((s.cfg.rails.get rail).reaction = 2 → s.seq.sysReset = false →
      ∃ t, exec (.railOv rail) s = .next t ∧ (t.group (s.cfg.rails.get rail).group).latching = true ∧
        ((t.group (s.cfg.rails.get rail).group).st = .falling ∨ (t.group (s.cfg.rails.get rail).group).st = .resting) ∧
        (∃ more, t.flt.inflight = (raise kRailOv (s.cfg.rails.get rail).group rail s).flt.inflight ++ more) ∧
        t = { s with seq := t.seq, flt := { s.flt with inflight := t.flt.inflight } })) ∧
  (∀ rail s, s.timeRuns = true → s.drives = true → s.railUsed rail = true → 0 < (s.rail rail).retries →
    (s.cfg.groups.get (s.cfg.rails.get rail).group).retryClear ≤ (s.rail rail).inWin →
    exec (.retryClear rail) s = .next (setRail rail (fun x => { x with retries := 0 }) s))

/-- Groups (from R288, R291, R295, Table 10.3): SEQF_N counted asserted makes every cooperating group in RISING or UP fall
latching; a rest that ends with its frame leaves the group OFF, or LATCHED with GROUP_LATCHED where it fell latching; a frozen
group falls after a whole frame without PFI and keeps its latching, and pulls SEQF_N where
that latching fall is its own failure's. Where a clause rests on the model's reading, see log entry 39.
-/
def Obligations.GroupEvents : Prop :=
  (∀ (n : Nat) s, s.timeRuns = true → s.drives = true → s.seq.seqfAt = some n → n ≤ s.frameBase →
    (∀ g, s.groupUsed g = true → (s.cfg.groups.get g).cooperate = true → (s.groupCur g).live = true →
      ∀ i h, i ∈ s.groupRails g → s.railHead i = some h → n < h.bound) →
    ∃ t, exec .seqfSeen s = .next t ∧ t.seq.seqfAt = none ∧
      (∀ g, s.groupUsed g = true → (s.cfg.groups.get g).cooperate = true → (s.groupCur g).live = true →
        (t.group g).latching = true ∧ ((t.group g).st = .falling ∨ (t.group g).st = .resting)) ∧
      (∀ g, (s.cfg.groups.get g).cooperate = false → t.group g = s.group g) ∧
      t = { s with seq := t.seq, flt := { s.flt with inflight := t.flt.inflight } }) ∧
  (∀ group s, s.timeRuns = true → s.drives = true → s.groupUsed group = true → (s.groupCur group).st = .resting →
    (s.group group).st = .resting → (s.group group).restUntil ≤ s.tim.frame →
    ((s.group group).latching = false →
      exec (.minOffEnd group) s = .next (setGroup group (fun y => { y with st := .off }) s)) ∧
    ((s.group group).latching = true →
      exec (.minOffEnd group) s =
        .next (raise kGroupLatched group 0 (setGroup group (fun y => { y with st := .latched }) s)))) ∧
  (∀ group s, s.timeRuns = true → s.drives = true → s.groupUsed group = true → s.seq.frozen = false →
    (s.groupCur group).st = .frozen → (s.group group).st = .frozen →
    ∃ t, exec (.groupUnfreeze group) s = .next t ∧
      (t.group group).st = .falling ∧ (t.group group).latching = (s.group group).latching ∧
      (t.group group).ownFail = (s.group group).ownFail ∧
      (∀ g, g ≠ group → t.group g = s.group g) ∧ t.seq.cur = s.seq.cur ∧ t.seq.en = s.seq.en ∧
      t.seq.seqfDriveNxt = (s.seq.seqfDriveNxt ||
        ((s.group group).latching && (s.group group).ownFail && (s.cfg.groups.get group).cooperate)) ∧
      t = { s with seq := t.seq })

/-- The recorder, the flight window and PFI (from R312 to R314, R317, R320, R323, R324, R328, R329, R46, R226, R247, R330): a
flush whose cut fits what the frame has room for ends with the pointers saved; a session whose last frame has passed ends; a lapse
begins the boundary with which the freeze ends, and thaws its log; the post frames stop the ring with the FLIGHT mark, the whole copy holds the area; PFI stops background work, drops the table
queue, freezes groups and starts the power-fail flush, whose end saves pointers and frame number. Where a clause rests on the
model's reading, see log entries 35, 47 and 55. -/
def Obligations.RecorderEvents : Prop :=
  let saved (l : LogSt) : Prop := ∃ k, k ≤ 1 ∧ (l.copies.get k).bad = false ∧ (l.copies.get k).perm = l.permUsed ∧
    (l.copies.get k).head = l.circHead ∧ (l.copies.get k).full = l.circFull ∧ (l.copies.get k).ovw = l.overwritten
  (∀ s, s.coreUp = true → s.recd.flushing = true → s.cutClosed = true → s.recd.paused = false →
    (s.recd.flushFree = true ∨ s.recd.cutLeft ≤ s.recd.room) →
    ∃ t, exec .flushComplete s = .next t ∧ t.recd.flushing = false ∧ t.recd.flushFree = false ∧
      saved t.recd.sealedLog ∧ saved t.recd.openLog ∧ t = { s with recd := t.recd }) ∧
  (∀ port (last : Nat) s, s.coreUp = true → s.recd.session.get (portCode port) = some last → last ≤ s.tim.frame →
    ∃ t, exec (.sealedSessionExpiry port) s = .next t ∧ t.recd.session.get (portCode port) = none ∧
      (∀ n, n ≠ portCode port → t.recd.session.get n = s.recd.session.get n) ∧
      t = { s with recd := { s.recd with session := t.recd.session } }) ∧
  (∀ log (a : Nat) s, s.coreUp = true → s.tim.frameDue = true → s.tim.begun = false → log ≤ 1 →
    (s.recd.log log).frozenFrom = some a → a + s.cfg.freezeFrames ≤ s.tim.frame + 1 →
    (closeFrame (if s.sys.bootStage = .finish then endOfBoot s else s)).commandReset = false →
    ∃ t, exec (.freezeLapsed log) s = .next t ∧
      ∀ b, (t.recd.log log).frozenFrom = some b → t.tim.frame < b + t.cfg.freezeFrames) ∧
  (∀ log (a : Nat) s, log ≤ 1 → (s.recd.log log).frozenFrom = some a → a + s.cfg.freezeFrames ≤ s.tim.frame →
    ((lapseFreeze log s).recd.log log).frozenFrom = none ∧ ((lapseFreeze log s).recd.log (1 - log)) = s.recd.log (1 - log) ∧
    lapseFreeze log s = { s with recd := (lapseFreeze log s).recd, flt := (raise kFreezeLapsed log 0 s).flt }) ∧
  (∀ s, s.coreUp = true → s.tim.frameDue = true → s.recd.flight = .post →
    s.recd.trigFrame + s.cfg.postFrames ≤ s.tim.frame →
    exec .flightPostEnd s = .next (addMark 0x07 (BitVec.ofNat 8 s.recd.trigCause :: [0, 0] ++ leBytes 6 s.recd.trigFrame)
      { s with recd := { s.recd with flight := .copying, copied := 0, copyWas := true } })) ∧
  (∀ s, s.coreUp = true → s.tim.frameDue = true → s.recd.flight = .copying → s.recd.imageWrites ≤ s.recd.copied →
    exec .flightCopyComplete s = .next (raise kFlightFrozen 3 0 { s with recd := { s.recd with
      area := s.recd.ring, areaHeld := !s.cfg.flightOverwrite, copied := 0, copyWas := false, flight := .recording
      ring := [], runFrame := {} } })) ∧
  (∀ s, s.timeRuns = true → s.pin.pfi = true → s.pin.pfiSeen = false →
    ∃ t, exec .pfiAssert s = .next t ∧ t.pin.pfiSeen = true ∧ t.leh.pfiHold = true ∧ t.recd.pfiFlush = true ∧
      t.recd.paused = true ∧ t.recd.frameRecs = [] ∧ t.tim.savedFrame = s.tim.frame ∧ t.bat.zq = [] ∧
      t.bat.zDropped = add32 s.bat.zDropped s.bat.zq.length ∧ (s.drives = true → t.seq.frozen = true) ∧
      (s.drives = false → t.seq = s.seq) ∧
      (s.recd.flight = .copying → t.recd.areaHeld = true ∧ t.recd.flight = .recording) ∧
      t = { s with
        recd := t.recd, seq := t.seq, pin := { s.pin with pfiSeen := true }, leh := { s.leh with pfiHold := true }
        bat := { s.bat with zq := [], zDropped := t.bat.zDropped, zDropRaised := t.bat.zDropRaised }
        tim := { s.tim with savedFrame := s.tim.frame }, flt := { s.flt with inflight := t.flt.inflight } }) ∧
  (∀ s, s.timeRuns = true → s.recd.pfiFlush = true →
    ∃ t, exec .powerFailFlushComplete s = .next t ∧ t.recd.pfiFlush = false ∧ t.recd.pfiList = [] ∧
      saved t.recd.sealedLog ∧ saved t.recd.openLog ∧
      t = { s with recd := t.recd, tim := { s.tim with savedFrame := s.tim.frame } })

/-- The collector (from R337, R339, R341, R344, R346): a message joins the queue, or a full queue or an occupied source loses it;
the oldest message leaves the queue and each reaction of its byte is carried out, and only those; the alert pins are released at
their end. Where a clause rests on the model's reading, see log entry 40. -/
def Obligations.CollectorEvents : Prop :=
  (∀ index m rest s, s.timeRuns = true → takeAt index s.flt.inflight = some (m, rest) → s.flt.queue.length < 32 →
    s.sourceBusy m.block m.inst = false →
    exec (.faultMessage index) s =
      .next { s with flt := { s.flt with inflight := rest, queue := s.flt.queue ++ [m] } }) ∧
  (∀ index m rest s, s.timeRuns = true → takeAt index s.flt.inflight = some (m, rest) →
    (32 ≤ s.flt.queue.length ∨ s.sourceBusy m.block m.inst = true) →
    ∃ t, exec (.faultMessage index) s = .next t ∧ t.flt.lost = inc32 s.flt.lost ∧ t.flt.queue = s.flt.queue ∧
      t = { s with recd := t.recd, flt := { s.flt with inflight := t.flt.inflight, lost := t.flt.lost } }) ∧
  (∀ m rest s, s.timeRuns = true → s.flt.queue = m :: rest →
    ∃ t, exec .faultDispatch s = .next t ∧ t.flt.queue = rest ∧
      t.flt.fifo = (if bvGet (s.applied m) 0 && decide (s.flt.fifo.length < 64) then s.flt.fifo ++ [m] else s.flt.fifo) ∧
      t.flt.ovf = (if bvGet (s.applied m) 0 && decide (64 ≤ s.flt.fifo.length) then inc32 s.flt.ovf else s.flt.ovf) ∧
      t.flt.nma = (s.flt.nma || bvGet (s.applied m) 1) ∧
      t.flt.nmaCause = (if bvGet (s.applied m) 1 then bvPut s.flt.nmaCause m.block true else s.flt.nmaCause) ∧
      t.flt.blockDue = (if bvGet (s.applied m) 2 then s.flt.blockDue ++ [(m.block, m.inst, m.frame + 1)] else s.flt.blockDue) ∧
      t.flt.chipDue = (if bvGet (s.applied m) 3 then
        (match s.flt.chipDue with | none => some (m.frame + 1) | some g => some (min g (m.frame + 1))) else s.flt.chipDue) ∧
      t.flt.err = (s.flt.err || bvGet (s.applied m) 4) ∧
      (bvGet (s.applied m) 5 = true → t.recd.flushing = true) ∧
      (bvGet (s.applied m) 6 = true → s.recd.flight = .recording → s.recd.areaHeld = false →
        t.recd.flight = .post ∧ t.recd.trigFrame = m.frame) ∧
      (bvGet (s.applied m) 6 = false → t.recd.flight = s.recd.flight) ∧
      t = { s with recd := t.recd, flt := t.flt }) ∧
  (∀ s, s.flt.errPulse = true →
    exec .errPulseEnd s = .next { s with flt := { s.flt with err := false, errPulse := false } }) ∧
  (∀ s, s.flt.errMin = true →
    exec (.alertPinMinLowEnd true) s =
      .next { s with flt := { s.flt with errMin := false, err := s.flt.err && !s.flt.errClear, errClear := false } }) ∧
  (∀ s, s.flt.nmaMin = true →
    exec (.alertPinMinLowEnd false) s =
      .next { s with flt := { s.flt with nmaMin := false, nma := s.flt.nma && s.flt.nmaCause ≠ 0 } })

/-- The PEER link (from R374 to R376): an acknowledged message is done with and the next goes out under the next sequence; a
repeat follows up to three times, then the link error and the restart from HELLO; a damaged frame changes nothing; a HELLO makes
the link live and compares digest and strap, and is answered on a link that was live; the holder renews each quarter of its lease.
Where a clause rests on the model's reading, see log entry 42. -/
def Obligations.PeerLink : Prop :=
  (∀ (q : Nat) s, s.timeRuns = true → s.red.unacked = some q →
    exec (.peerAck q) s = .next { s with red := { s.red with
      sent := s.red.sent.drop 1, retries := 0
      unacked := if s.red.sent.length ≤ 1 then none else some s.red.txSeq
      txSeq := if s.red.sent.length ≤ 1 then s.red.txSeq else (s.red.txSeq + 1) % 256 } }) ∧
  (∀ s, s.timeRuns = true → s.red.unacked.isSome = true → s.red.retries < 3 →
    exec .peerRetransmit s = .next { s with red := { s.red with
      retries := s.red.retries + 1, linkRetries := inc32 s.red.linkRetries } }) ∧
  (∀ s, s.timeRuns = true → s.red.unacked.isSome = true → 3 ≤ s.red.retries →
    ∃ t, exec .peerRetransmit s = .next t ∧ t.flt = (raise kPeerLinkError 0 0 s).flt ∧
      t = { s with
        flt := t.flt
        red := { s.red with
          linkErrors := inc32 s.red.linkErrors, sent := [helloOf s], unacked := some s.red.txSeq
          txSeq := (s.red.txSeq + 1) % 256, retries := 0, peerUp := false, mirComplete := false, mirTrack := false } }) ∧
  (∀ s, exec .peerCrcDiscard s = .next s) ∧
  (∀ p pairOrd digest frame role s, s.timeRuns = true →
    (let bad := decide (padTo 16 digest ≠ s.ownDigest) || pairOrd = s.sys.pairOrd
     ∃ t, exec (.peerHello p pairOrd digest frame role) s = .next t ∧ t.red.peerUp = true ∧ t.red.mismatch = bad ∧
       t.red.mirComplete = false ∧ t.red.renewAge = 65535 ∧ t.red.lastRx = some p.seq ∧ t.red.ackTx = some p.seq ∧ t.red.peerMsg = true ∧
       t.red.st = s.red.st ∧ t.red.drive = s.red.drive ∧ t.red.epoch = s.red.epoch ∧
       t.red.mirEpoch = (if role = .holder then p.epoch else s.red.mirEpoch) ∧
       (s.red.peerUp = false → t.red.sent = s.red.sent) ∧
       (s.red.peerUp = true → t.red.sent = s.red.sent ++ [helloOf s]) ∧
       t.flt = (raiseIf bad kPeerMismatch 0 0 s).flt ∧ t = { s with red := t.red, flt := t.flt })) ∧
  (∀ s, s.timeRuns = true → s.tim.frameDue = true → s.red.st = .holder → s.red.peerUp = true →
    s.cfg.puntyLease / 4 ≤ s.red.renewAge + 1 →
    ∃ t, exec .renewSend s = .next t ∧
      t.red.sent = s.red.sent ++ [.renew s.red.epoch (s.tim.frame + 1) s.cfg.puntyLease] ∧ t.red.renewAge = 0 ∧
      t = { s with red := { s.red with
        sent := t.red.sent, renewAge := 0, unacked := t.red.unacked, txSeq := t.red.txSeq, retries := t.red.retries } })

/-- Messages that PEER brings (from R374, R376, R381, R382, R384, R387, Table 13.3): each is heard and acknowledged, and taken once, by
its sequence; a standby follows the epoch, the alignment, the mirror and the counters, and claims on YIELD; a holder notes a later
epoch, takes a forwarded block and a guarded channel; a repeat is acknowledged again and
changes nothing else. Where a clause rests on the model's reading, see
log entry 42. -/
def Obligations.PeerMessages : Prop :=
  let heard (p : PeerHdr) (s : State) : State := { s with red := { s.red with peerMsg := true, ackTx := some p.seq, lastRx := some p.seq } }
  let sentOnly (s t : State) : Prop :=
    t = { s with red := { s.red with sent := t.red.sent, unacked := t.red.unacked, txSeq := t.red.txSeq, retries := t.red.retries } }
  (∀ p frame lease s, s.timeRuns = true → s.red.lastRx ≠ some p.seq → s.red.st = .holder →
    exec (.peerRenew p frame lease) s = .next { heard p s with red := { (heard p s).red with
      yieldDue := s.red.yieldDue || decide (s.red.epoch < p.epoch) } }) ∧
  (∀ p frame lease s, s.timeRuns = true → s.red.lastRx ≠ some p.seq → s.red.st = .standby → s.red.aligned = false →
    s.tim.frame ≤ frame →
    exec (.peerRenew p frame lease) s = .next { heard p s with
      tim := { s.tim with frame := frame, tick := 0, frameDue := false }
      red := { (heard p s).red with mirEpoch := p.epoch, aligned := true } }) ∧
  (∀ p frame lease s, s.timeRuns = true → s.red.lastRx ≠ some p.seq → s.red.st = .seeking →
    ∃ t, exec (.peerRenew p frame lease) s = .next t ∧ t.red.st = .standby ∧ t.red.mirEpoch = p.epoch ∧
      t.seq.en = BitVec.allOnes 32 ∧ s.tim.frame ≤ t.tim.frame ∧ t = { s with red := t.red, seq := t.seq, tim := t.tim }) ∧
  (∀ p reason s, s.timeRuns = true → s.red.lastRx ≠ some p.seq → s.red.st = .standby →
    exec (.peerYield p reason) s = .next { heard p s with red := { (heard p s).red with mirEpoch := p.epoch, yieldIn := true } }) ∧
  (∀ p slice data s, s.timeRuns = true → s.red.lastRx ≠ some p.seq → s.takesMirror = true →
    exec (.peerMirror p slice data) s = .next { heard p s with red := { (heard p s).red with
      mirEpoch := p.epoch, mirStage := s.red.mirStage ++ [(slice, data)] } }) ∧
  (∀ p frame s, s.timeRuns = true → s.red.lastRx ≠ some p.seq → s.takesMirror = true →
    (s.red.mirFrame = 0 ∨ frame ≤ s.red.mirFrame + 1) →
    ∃ t, exec (.peerMirrorEnd p frame s.red.mirStage.length (crc32c (s.red.mirStage.flatMap (·.2)))) s = .next t ∧
      t.red.mirror.slices = s.red.mirStage.foldl (fun m d => m.put d.1 d.2) s.red.mirror.slices ∧ t.red.mirStage = [] ∧
      t.red.mirFrame = frame ∧ t.flt = s.flt ∧ t = { s with red := t.red }) ∧
  (∀ p frame count crc s, s.timeRuns = true → s.red.lastRx ≠ some p.seq → s.takesMirror = true →
    (count ≠ s.red.mirStage.length ∨ crc ≠ crc32c (s.red.mirStage.flatMap (·.2))) →
    ∃ t, exec (.peerMirrorEnd p frame count crc) s = .next t ∧ t.red.mirror = s.red.mirror ∧ t.red.mirStage = [] ∧
      t.red.mirGaps = inc32 s.red.mirGaps ∧ t.red.mirComplete = false ∧ t.flt = (raise kMirrorGap 0 0 s).flt ∧
      t = { s with red := t.red, flt := t.flt }) ∧
  (∀ p slot counter s, s.timeRuns = true → s.red.lastRx ≠ some p.seq → s.red.st = .standby →
    ∃ t, exec (.peerCounter p slot counter) s = .next t ∧ t.red.sent = s.red.sent ++ [.counterAck slot counter] ∧
      sentOnly { heard p s with red := { (heard p s).red with
        mirEpoch := p.epoch, mirCtr := s.red.mirCtr.put slot counter } } t) ∧
  (∀ p slot counter s, s.timeRuns = true → s.red.lastRx ≠ some p.seq →
    exec (.peerCounterAck p slot counter) s = .next { heard p s with red := { (heard p s).red with
      ctrAcked := s.red.ctrAcked.put slot counter } }) ∧
  (∀ p mbox block s, s.timeRuns = true → s.red.lastRx ≠ some p.seq → s.red.st = .holder →
    exec (.peerForward p mbox block) s = .next { heard p s with hst := { s.hst with
      forwarded := s.hst.forwarded ++ [(mbox, s.hst.ring, block)], ring := s.hst.ring + 1 } }) ∧
  (∀ p mbox reply w s, s.timeRuns = true → s.red.lastRx ≠ some p.seq → s.red.fwd.find? (fun v => v.2 = mbox) = some w →
    exec (.peerForwardReply p mbox reply) s = .next { heard p s with
      red := { (heard p s).red with fwd := s.red.fwd.erase w }
      hst := { s.hst with mboxes := s.hst.mboxes.modify mbox fun m => { m with st := .done, ready := true, reply := reply } } }) ∧
  (∀ p chan s, s.timeRuns = true → s.red.lastRx ≠ some p.seq → s.red.st = .holder → s.chanUsed chan = true →
    ∃ t, exec (.peerGuard p chan) s = .next t ∧ t.red.sent = s.red.sent ++ [.guardAck chan] ∧
      sentOnly (setChan chan (fun x => { x with guardTrip := true }) (heard p s)) t) ∧
  (∀ p chan s, s.timeRuns = true → s.red.lastRx ≠ some p.seq → (s.chan chan).guard = true →
    exec (.peerGuardAck p chan) s = .next (setChan chan (fun x => { x with guardRel := true }) (heard p s))) ∧
  (∀ p frame lease reason slice data count crc slot counter mbox block reply chan s,
    s.timeRuns = true → s.red.lastRx = some p.seq →
    (let again : State := { s with red := { s.red with peerMsg := true, ackTx := some p.seq } }
     exec (.peerRenew p frame lease) s = .next again ∧ exec (.peerYield p reason) s = .next again ∧
     exec (.peerMirror p slice data) s = .next again ∧ exec (.peerMirrorEnd p frame count crc) s = .next again ∧
     exec (.peerCounter p slot counter) s = .next again ∧ exec (.peerCounterAck p slot counter) s = .next again ∧
     exec (.peerForward p mbox block) s = .next again ∧ exec (.peerForwardReply p mbox reply) s = .next again ∧
     exec (.peerGuard p chan) s = .next again ∧ exec (.peerGuardAck p chan) s = .next again))

/-- The punty (from R372, R373, R375, R377 to R379, R381, Tables 13.3 and 13.4): a pulse sets peer_live and ends SEEKING, 64 ms
without one clear it; a silent path is reported once; a claim raises the epoch and pulls HOLD_N with the gates and EN nets it has
sampled; at tick 8 of the claim frame the claimant drives; a device whose HOLD_N another pulls releases every net; a guard latches
its channel off and tells the peer. Where a clause rests on the model's reading, see log entries 29, 32 and 42. -/
def Obligations.PuntyEvents : Prop :=
  (∀ s, s.red.enFollow = false → s.red.pulseDue = false →
    exec .holdNPulse s = .next { s with wrm := { s.wrm with peerLive := true } }) ∧
  (∀ s, s.timeRuns = true → s.red.pulseDue = true → s.red.st = .seeking →
    ∃ t, exec .holdNPulse s = .next t ∧ t.wrm.peerLive = true ∧ t.red.st = .standby ∧ t.red.pulse = true ∧
      t.seq.en = BitVec.allOnes 32 ∧
      t = { s with wrm := { s.wrm with peerLive := true }, red := t.red, seq := t.seq }) ∧
  (∀ s, s.wrm.peerLive = true →
    exec .peerLiveTimeout s = .next { s with
      wrm := { s.wrm with peerLive := false }, seq := { s.seq with en := if s.red.enFollow then 0 else s.seq.en } }) ∧
  (∀ s, s.timeRuns = true → s.tim.frameDue = true → s.red.peerUp = true →
    s.cfg.puntyLease ≤ s.red.holdNow → s.red.peerNow < s.cfg.puntyLease →
    exec .holdSilent s = .next (raiseOnce kHoldSilent 1 0 s)) ∧
  (∀ s, s.timeRuns = true → s.tim.frameDue = true → s.red.peerUp = true →
    s.cfg.puntyLease ≤ s.red.peerNow → s.red.holdNow < s.cfg.puntyLease →
    exec .peerSilent s = .next (raiseOnce kPeerSilent 0 0 s)) ∧
  (∀ gates ens s, s.timeRuns = true → s.tim.frameDue = true → (s.seekClaims = true ∨ s.standbyClaims = true) →
    exec (.puntyClaim gates ens) s = .next { s with
      seq := { s.seq with en := ens }
      red := { s.red with
        st := .claiming, holdPull := true, claimFrame := s.tim.frame + 1, claimGates := gates, claimEn := ens
        yieldIn := false, enFollow := false
        epoch := ((if s.red.st = .seeking then s.red.epoch else s.red.mirEpoch) + 1) % 4294967296 } }) ∧
  (∀ s, s.timeRuns = true → s.red.st = .claiming → s.red.drive = false → s.tim.frame = s.red.claimFrame → 8 ≤ s.tim.tick →
    ∃ t, exec .claimDrive s = .next t ∧ t.red.drive = true ∧ t.sys.driveHeld = true ∧ t.sys.displaced = false ∧
      (∀ c, s.pdUsed c = true → (t.chan c).gate = (bvGet s.red.claimGates c && !(s.chan c).guard) ∧
        (t.chan c).latched = none ∧ (t.chan c).shed = none ∧ (t.chan c).enforce = none ∧ (t.chan c).guard = (s.chan c).guard) ∧
      (∀ c, s.pdUsed c = false → t.chan c = s.chan c) ∧
      t = { s with
        red := { s.red with drive := true }, sys := { s.sys with driveHeld := true, displaced := false }
        hsw := { s.hsw with chans := t.hsw.chans }, stg := t.stg }) ∧
  (∀ s, s.red.drive = true → s.red.holdPull = false →
    ∃ t, exec .displaced s = .next t ∧ t.red.drive = false ∧ t.sys.driveHeld = false ∧ t.sys.displaced = true ∧
      t.seq.en = BitVec.allOnes 32 ∧ t.seq.seqfDrive = false ∧ (∀ c, c < 54 → (t.chan c).gate = false) ∧
      t.red.st = s.red.st ∧ t = { s with sys := t.sys, red := t.red, seq := t.seq, hsw := t.hsw, stg := t.stg }) ∧
  (∀ chan s, s.timeRuns = true → s.red.drive = false → (s.red.st = .standby ∨ s.red.st = .claiming) →
    s.pdUsed chan = true → (s.chan chan).guard = false →
    ∃ t, exec (.guardTrip chan) s = .next t ∧
      t.hsw = (setChan chan (fun x => { x with guard := true, guardRel := false }) s).hsw ∧
      t.flt = (raise kBreakerTrip chan 0 s).flt ∧ t.red.sent = s.red.sent ++ [.guardMsg chan] ∧
      t = { s with hsw := t.hsw, flt := t.flt, red := { s.red with
        sent := t.red.sent, unacked := t.red.unacked, txSeq := t.red.txSeq, retries := t.red.retries } })

/-- Messages of the far end (from R393, R395, R397, Table 14.2): each message of the rack-tie protocol is heard and
acknowledged with its ID, joins the intake of its frame with its payload, and a repeat of the last one is acknowledged and not taken
in again. Nothing else changes
but the end of the port's CRC excursion. Where a clause rests on the model's reading, see log entry 43. -/
def Obligations.IrlerMessages : Prop :=
  let quieted (port ident : Nat) (s : State) : State :=
    endOnce kIrlerCrc port (setTie port (fun x => { x with heard := 0, quiet := false, ackTx := some ident }) s)
  let took (i : Instr) (port typ ident : Nat) (payload : List Byte) (s : State) : Prop :=
    s.timeRuns = true → s.irlerIn port = true →
    ((s.tiePort port).lastIn ≠ some (typ, ident) →
      exec i s = .next (setTie port (fun x => { x with
        lastIn := some (typ, ident), intake := x.intake ++ [{ typ := typ, ident := ident, payload := payload }] }) (quieted port ident s))) ∧
    ((s.tiePort port).lastIn = some (typ, ident) → exec i s = .next (quieted port ident s))
  (∀ port ident ordinal flags role agreed lease s,
    took (.irlerHello port ident ordinal flags role agreed lease) port 0x01 ident
      (leBytes 2 ordinal ++ [flags] ++ leBytes 1 role ++ leBytes 4 agreed ++ leBytes 2 lease ++ leBytes 2 0) s) ∧
  (∀ port ident swap power bus s, took (.irlerRequest port ident swap power bus) port 0x02 ident
    (leBytes 1 (b2n swap) ++ leBytes 3 0 ++ leBytes 4 power ++ leBytes 4 bus) s) ∧
  (∀ port ident power lease bus s, took (.irlerOffer port ident power lease bus) port 0x03 ident
    (leBytes 4 power ++ leBytes 2 lease ++ leBytes 2 0 ++ leBytes 4 bus) s) ∧
  (∀ port ident power bus s, took (.irlerAccept port ident power bus) port 0x04 ident (leBytes 4 power ++ leBytes 4 bus) s) ∧
  (∀ port ident reason s, took (.irlerRefuse port ident reason) port 0x05 ident (leBytes 1 reason ++ leBytes 3 0) s) ∧
  (∀ port ident winner s, took (.irlerCollision port ident winner) port 0x06 ident (leBytes 2 winner ++ leBytes 2 0) s) ∧
  (∀ port ident bus s, took (.irlerMatch port ident bus) port 0x07 ident (leBytes 4 bus) s) ∧
  (∀ port ident power s, took (.irlerClosed port ident power) port 0x08 ident (leBytes 4 power) s) ∧
  (∀ port ident power lease s, took (.irlerRenew port ident power lease) port 0x09 ident
    (leBytes 4 power ++ leBytes 2 lease ++ leBytes 2 0) s) ∧
  (∀ port ident reason s, took (.irlerRelease port ident reason) port 0x0A ident (leBytes 1 reason ++ leBytes 3 0) s)

/-- The Irler line (from R393 to R396, R398, R399): the oldest message starts after the idle wait, is done with at its ACK,
follows again up to three times and is then abandoned with IRLER_NO_ACK; a collision stops it and it is sent again after the
back-off; the marker's answer is read; a damaged message is counted and reported once. Where a clause rests on the model's
reading, see log entry 43. -/
def Obligations.IrlerLine : Prop :=
  (∀ port s, s.timeRuns = true → s.irlerIn port = true → (s.tiePort port).txq ≠ [] → (s.tiePort port).sending = false →
    (s.tiePort port).backoff = false →
    exec (.irlerSendStart port) s = .next (setTie port (fun x => { x with sending := true }) s)) ∧
  (∀ port m rest s, s.timeRuns = true → s.irlerIn port = true → (s.tiePort port).txq = m :: rest →
    (s.tiePort port).sending = true → m.typ ≠ 0x1E →
    ∃ t, exec (.irlerAck port m.ident) s = .next t ∧ (t.tiePort port).txq = rest ∧ (t.tiePort port).sending = false ∧
      (t.tiePort port).repeats = 0 ∧ (t.tiePort port).heard = 0 ∧ (∀ n, n ≠ port → t.tiePort n = s.tiePort n) ∧
      t = { s with tie := { s.tie with ports := t.tie.ports }, flt := { s.flt with once := t.flt.once } }) ∧
  (∀ port s, s.timeRuns = true → s.irlerIn port = true → (s.tiePort port).sending = true → (s.tiePort port).repeats < 3 →
    exec (.irlerRetransmit port) s = .next (setTie port (fun x => { x with
      repeats := x.repeats + 1, nRepeat := inc32 x.nRepeat }) s)) ∧
  (∀ port m rest s, s.timeRuns = true → s.irlerIn port = true → (s.tiePort port).sending = true →
    3 ≤ (s.tiePort port).repeats → (s.tiePort port).txq = m :: rest →
    ∃ t, exec (.irlerRetransmit port) s = .next t ∧ (t.tiePort port).txq = rest ∧ (t.tiePort port).sending = false ∧
      (t.tiePort port).repeats = 0 ∧
      (t.tiePort port).st = (if (s.tiePort port).markerWait && m.typ = 0x1E then .linking else (s.tiePort port).st) ∧
      (∀ n, n ≠ port → t.tiePort n = s.tiePort n) ∧ t.flt = (raise kIrlerNoAck port 0 s).flt ∧
      t = { s with tie := { s.tie with ports := t.tie.ports }, flt := t.flt }) ∧
  (∀ port s, s.timeRuns = true → s.irlerIn port = true → (s.tiePort port).sending = true → (s.tiePort port).backoff = false →
    exec (.irlerLineCollision port) s = .next (setTie port (fun x => { x with
      sending := false, backoff := true, nColl := inc32 x.nColl }) s)) ∧
  (∀ port s, s.timeRuns = true → s.irlerIn port = true → (s.tiePort port).backoff = true →
    exec (.irlerBackoffEnd port) s = .next (setTie port (fun x => { x with
      backoff := false, sending := !x.txq.isEmpty }) s)) ∧
  (∀ port m rest rated length (temp : Int) identity s, s.timeRuns = true → s.irlerIn port = true →
    (s.tiePort port).txq = m :: rest → (s.tiePort port).sending = true → m.typ = 0x1E →
    ∃ t, exec (.irlerMarkerData port m.ident rated length temp identity) s = .next t ∧
      (t.tiePort port).markerMa = some rated ∧ (t.tiePort port).markerT = temp ∧ (t.tiePort port).txq = rest ∧
      (t.tiePort port).markerData = leBytes 4 rated ++ leBytes 2 length ++ leInt 2 temp ++ leBytes 4 identity ∧
      (t.tiePort port).st = (if (s.tiePort port).markerWait then .silent else (s.tiePort port).st) ∧
      (∀ n, n ≠ port → t.tiePort n = s.tiePort n) ∧
      t.flt.inflight = (raiseIf (s.tiePort port).markerWait kMarkerFallback port 0 s).flt.inflight ∧
      t = { s with
        tie := { s.tie with ports := t.tie.ports }, flt := { s.flt with inflight := t.flt.inflight, once := t.flt.once } }) ∧
  (∀ port s, s.timeRuns = true → s.irlerIn port = true →
    exec (.irlerCrc port) s =
      .next (raiseOnce kIrlerCrc port 0 (setTie port (fun x => { x with nCrc := inc32 x.nCrc }) s)))

/-- The rack-tie policy at a frame boundary (from R398, R399, R402, R404, R406, R408, Tables 14.3, 14.4 and 14.6): an offer or a
request that stands too long leaves IDLE; a match that takes too long releases with reason 3, unless the answer
or CLOSED is there at that boundary; a silent far end leaves SILENT with
the marker read, and a channel that was still closing opened; an expired lease opens and releases with reason 9; a closed tie renews; the deadline of a release opens and sends
it; the marker is read; a resumption whose window has passed opens. Where a clause rests on the model's reading, see log entry 43.
-/
def Obligations.TiePolicy : Prop :=
  (∀ port s, s.timeRuns = true → s.tim.frameDue = true → s.irlerIn port = true →
    ((s.tiePort port).st = .requesting ∨ (s.tiePort port).st = .offering) →
    (s.tiePort port).answered = false → (s.cfg.ties.get port).offerFrames ≤ (s.tiePort port).timer + 1 →
    exec (.offerTimeout port) s = .next (setTie port (fun x => { x with
      st := .idle, offered := false, agreed := 0, imp := 0, want := 0, timer := 0, closing := false, importDue := false
      matched := false, releaseAt := none, relDue := none, resume := none }) s)) ∧
  (∀ port s, s.timeRuns = true → s.tim.frameDue = true → s.irlerIn port = true →
    ((s.tiePort port).st = .matching ∨ (s.tiePort port).st = .precharge) →
    s.tieClosing port = false → (s.cfg.ties.get port).matchFrames ≤ (s.tiePort port).timer + 1 →
    ∃ t, exec (.tieMatchFail port) s = .next t ∧ (t.tiePort port).st = .idle ∧ (t.tiePort port).agreed = 0 ∧
      (t.tiePort port).imp = 0 ∧ (t.tiePort port).txq = (s.tiePort port).txq ++
        [{ typ := 0x0A, ident := (s.tiePort port).nextId, role := 0, payload := leBytes 1 3 ++ leBytes 3 0 }] ∧
      t.hsw = (openTie port s).hsw ∧ t.flt = (raise kTieMatchFail port 0 s).flt ∧
      t = { s with tie := { s.tie with ports := t.tie.ports }, hsw := t.hsw, flt := t.flt }) ∧
  (∀ port s, s.timeRuns = true → s.tim.frameDue = true → s.irlerIn port = true → (s.tiePort port).quiet = false → (s.tiePort port).st ≠ .silent →
    (s.cfg.ties.get port).silenceFrames ≤ (s.tiePort port).heard + 1 →
    ∃ t, exec (.farEndSilent port) s = .next t ∧ (t.tiePort port).st = .silent ∧ (t.tiePort port).markerWait = true ∧
      (t.tiePort port).imp = (if (s.tieCh port).st = .on && !(s.tiePort port).offered then (s.tiePort port).imp else 0) ∧
      (t.tiePort port).txq = (s.tiePort port).txq ++
        [{ typ := 0x1E, ident := (s.tiePort port).nextId, role := 0, marker := true, payload := [] }] ∧
      (∀ n, n ≠ port → t.tiePort n = s.tiePort n) ∧
      t.hsw = (if (s.tieCh port).st = .starting then (openTie port s).hsw else s.hsw) ∧
      t = { s with tie := { s.tie with ports := t.tie.ports }, hsw := t.hsw }) ∧
  (∀ port s, s.timeRuns = true → s.tim.frameDue = true → s.irlerIn port = true → s.tieShut port = true →
    (s.tiePort port).resume = none → (s.tiePort port).releaseAt = none →
    (s.cfg.ties.get port).lease ≤ (s.tiePort port).heard + 1 →
    ((s.tiePort port).offered = false →
      exec (.tieLeaseExpiry port) s = .next (setTie port (fun x => { x with
        imp := 0, importDue := false, releaseAt := some (s.tim.frame + s.deadline), releaseWhy := 9 }) s)) ∧
    ((s.tiePort port).offered = true →
      ∃ t, exec (.tieLeaseExpiry port) s = .next t ∧
        (t.tiePort port).st = (if (s.tiePort port).st = .closed then .idle else .silent) ∧ (t.tiePort port).agreed = 0 ∧
        (t.tiePort port).imp = 0 ∧
        (t.tiePort port).txq = (s.tiePort port).txq ++
          [{ typ := 0x0A, ident := (s.tiePort port).nextId, role := 0, payload := leBytes 1 9 ++ leBytes 3 0 }] ∧
        t.hsw = (openTie port s).hsw ∧ t = { s with tie := { s.tie with ports := t.tie.ports }, hsw := t.hsw })) ∧
  (∀ port s, s.timeRuns = true → s.tim.frameDue = true → s.irlerIn port = true → s.tieShut port = true →
    (s.cfg.ties.get port).lease / 4 ≤ (s.tiePort port).renewAge + 1 →
    ∃ t, exec (.tieRenewSend port) s = .next t ∧ (t.tiePort port).renewAge = 0 ∧
      (t.tiePort port).txq = (s.tiePort port).txq ++ [{
        typ := 0x09, ident := (s.tiePort port).nextId, role := (s.tiePort port).role
        payload := leInt 4 (s.tiePort port).agreed ++ leBytes 2 (s.cfg.ties.get port).lease ++ leBytes 2 0 }] ∧
      (∀ n, n ≠ port → t.tiePort n = s.tiePort n) ∧ t = { s with tie := { s.tie with ports := t.tie.ports } }) ∧
  (∀ port (e : Nat) s, s.timeRuns = true → s.tim.frameDue = true → s.irlerIn port = true → (s.tiePort port).releaseAt = some e → e ≤ s.tim.frame →
    ∃ t, exec (.releaseDeadline port) s = .next t ∧
      (t.tiePort port).st = (if (s.tiePort port).st = .silent then .silent else .idle) ∧ (t.tiePort port).releaseAt = none ∧
      (t.tiePort port).txq = (s.tiePort port).txq ++ [{
        typ := 0x0A, ident := (s.tiePort port).nextId, role := 0
        payload := leBytes 1 (s.tiePort port).releaseWhy ++ leBytes 3 0 }] ∧
      t.hsw = (openTie port s).hsw ∧ t = { s with tie := { s.tie with ports := t.tie.ports }, hsw := t.hsw }) ∧
  (∀ port s, s.timeRuns = true → s.tim.frameDue = true → s.irlerIn port = true → (s.tiePort port).cable = true →
    (s.cfg.ties.get port).markerFrames ≤ (s.tiePort port).markerAge + 1 →
    ∃ t, exec (.markerReadInterval port) s = .next t ∧ (t.tiePort port).markerAge = 0 ∧
      (t.tiePort port).txq = (s.tiePort port).txq ++ [{
        typ := 0x1E, ident := (s.tiePort port).nextId, role := (s.tiePort port).role, marker := true, payload := [] }] ∧
      (t.tiePort port).st = (s.tiePort port).st ∧ t = { s with tie := { s.tie with ports := t.tie.ports } }) ∧
  (∀ port (e : Nat) s, s.timeRuns = true → s.tim.frameDue = true → s.irlerIn port = true → (s.tiePort port).resume = some e → e ≤ s.tim.frame →
    ∃ t, exec (.resumeWindowExpiry port) s = .next t ∧ (t.tiePort port).st = .idle ∧ (t.tiePort port).resume = none ∧
      (t.tiePort port).imp = 0 ∧ t.hsw = (openTie port s).hsw ∧
      t = { s with tie := { s.tie with ports := t.tie.ports }, hsw := t.hsw })

/-- Frames that nodes send (from R211, R414, R419 to R422, R426, R427, R429): an ACK frees the window up to its sequence; a frame
with the expected sequence is taken, counted and acknowledged, a repeat only acknowledged again, any other only heard; one with too
few or too many entries is discarded and counted; a POINT_UPDATE within the budget samples its points, past
it is refused with INTAKE_OVERFLOW; a DEMAND's request joins the next frame's input set; a FAULT_NOTE becomes three samples; a frame that stays unacknowledged
is repeated, and after its fourth sending loses the
node; a damaged frame is reported once. Where a clause rests on the model's
reading, see log entry 41. -/
def Obligations.CaneFrames : Prop :=
  let heard (n : Nat) (s : State) : State :=
    endOnce kCaneCrc (s.cfg.nodes.get n).port (setNode n (fun x => { x with heard := true }) s)
  let acked (n next : Nat) (s : State) : State :=
    setCane (s.cfg.nodes.get n).port (fun x => { x with
      sent := x.sent ++ [{ typ := 0, node := n, seq := next, sends := 1 }] }) s
  let counted (n seq : Nat) (s : State) : State :=
    let next := if 65535 ≤ seq then 1 else seq + 1
    acked n next (setNode n (fun x => { x with rxNext := next, joined := true }) (heard n s))
  (∀ node seq s, s.timeRuns = true → s.nodeUsed node = true → s.caneIn (s.cfg.nodes.get node).port = true →
    s.drives = false → exec (.caneAck node seq) s = .next (setNode node (fun x => { x with txNext := seq }) (heard node s))) ∧
  (∀ node s, s.timeRuns = true → s.nodeUsed node = true → s.caneIn (s.cfg.nodes.get node).port = true →
    s.drives = true → (s.node node).joined = true → (s.cane (s.cfg.nodes.get node).port).txq = [] →
    ∃ t, exec (.caneAck node (s.node node).txNext) s = .next t ∧ (t.node node).heard = true ∧ (t.node node).unacked = [] ∧
      (∀ n, n ≠ node → t.node n = s.node n) ∧
      t = { s with
        pnt := { s.pnt with nodes := t.pnt.nodes, ports := t.pnt.ports }, flt := { s.flt with once := t.flt.once }
        leh := { s.leh with cur := t.leh.cur, nxt := t.leh.nxt } }) ∧
  (∀ node seq s, s.timeRuns = true → s.nodeUsed node = true → s.caneIn (s.cfg.nodes.get node).port = true →
    s.drives = true → (s.node node).joined = true → (s.cane (s.cfg.nodes.get node).port).txq = [] →
    seq ≠ (s.node node).txNext →
    ∃ t, exec (.caneAck node seq) s = .next t ∧ (t.node node).heard = true ∧
      ((∃ f, f ∈ (s.node node).unacked ∧ f.seq = seq) →
        (t.node node).unacked = (s.node node).unacked.dropWhile (fun f => f.seq ≠ seq)) ∧
      ((∀ f, f ∈ (s.node node).unacked → f.seq ≠ seq) → (t.node node).unacked = (s.node node).unacked ∧ t.leh = s.leh)) ∧
  (∀ node seq entries code (context : Int) demands s, s.timeRuns = true → s.nodeUsed node = true →
    s.caneIn (s.cfg.nodes.get node).port = true → s.drives = true →
    ((s.node node).joined = false ∨ seq ≠ (s.node node).rxNext) →
    (let behind := ((s.node node).rxNext + 65536 - seq % 65536) % 65536
     let t := if (s.node node).joined && decide (0 < behind ∧ behind < 32768) then acked node (s.node node).rxNext (heard node s)
       else heard node s
     exec (.canePointUpdate node seq entries) s = .next t ∧ exec (.caneDemand node seq demands) s = .next t ∧
     exec (.caneFaultNote node seq code context) s = .next t)) ∧
  (∀ node entries demands s, s.timeRuns = true → s.nodeUsed node = true →
    s.caneIn (s.cfg.nodes.get node).port = true → s.drives = true → (s.node node).joined = true →
    (let u := counted node (s.node node).rxNext s
     let t := { u with pnt := { u.pnt with frmDiscard := inc32 s.pnt.frmDiscard } }
     (entries.length = 0 ∨ 42 < entries.length →
       exec (.canePointUpdate node (s.node node).rxNext entries) s = .next t) ∧
     (demands.length = 0 ∨ 16 < demands.length →
       exec (.caneDemand node (s.node node).rxNext demands) s = .next t))) ∧
  (∀ node entries s, s.timeRuns = true → s.nodeUsed node = true → s.caneIn (s.cfg.nodes.get node).port = true →
    s.drives = true → (s.node node).joined = true → 0 < entries.length → entries.length ≤ 42 →
    ((s.node node).taken + entries.length ≤ (s.cfg.nodes.get node).budget →
      exec (.canePointUpdate node (s.node node).rxNext entries) s = .next (entries.foldl (fun u e => pointEntry node e u)
        (setNode node (fun x => { x with taken := x.taken + entries.length }) (counted node (s.node node).rxNext s)))) ∧
    ((s.cfg.nodes.get node).budget < (s.node node).taken + entries.length →
      exec (.canePointUpdate node (s.node node).rxNext entries) s =
        .next (raiseIf (!(s.node node).overRaised) kIntakeOverflow (64 + node) 0
          (setNode node (fun x => { x with overRaised := true, overNow := true }) (heard node s))))) ∧
  (∀ node d n (v : Nat) s, s.timeRuns = true → s.nodeUsed node = true → s.caneIn (s.cfg.nodes.get node).port = true →
    s.drives = true → (s.node node).joined = true → s.domOf node (n % 16) = some d →
    ∃ t, exec (.caneDemand node (s.node node).rxNext [(n, v)]) s = .next t ∧
      t.leh.cur.doms.get d = { s.leh.cur.doms.get d with reqNew := some (v : Int), demandCur := true, nodeGone := false } ∧
      t.leh.nxt.doms.get d = { s.leh.nxt.doms.get d with reqNew := some (v : Int), demandCur := true, nodeGone := false } ∧
      (∀ e, e ≠ d → t.leh.cur.doms.get e = s.leh.cur.doms.get e) ∧
      (t.node node).rxNext = (if 65535 ≤ (s.node node).rxNext then 1 else (s.node node).rxNext + 1) ∧
      t = { s with
        pnt := { s.pnt with nodes := t.pnt.nodes, ports := t.pnt.ports }, flt := { s.flt with once := t.flt.once }
        leh := { s.leh with cur := t.leh.cur, nxt := t.leh.nxt } }) ∧
  (∀ node code (context : Int) s, s.timeRuns = true → s.nodeUsed node = true →
    s.caneIn (s.cfg.nodes.get node).port = true → s.drives = true → (s.node node).joined = true →
    exec (.caneFaultNote node (s.node node).rxNext code context) s =
      .next (sample (4096 * node + 0xFF3) ((inc32 (s.node node).notes : Nat) : Int) (sample (4096 * node + 0xFF2) context
        (sample (4096 * node + 0xFF1) (code : Int)
          (setNode node (fun x => { x with notes := inc32 x.notes }) (counted node (s.node node).rxNext s)))))) ∧
  (∀ node s, s.timeRuns = true → s.drives = true → s.nodeUsed node = true → (s.node node).joined = true →
    (s.node node).unacked ≠ [] → (s.node node).lostDue = false → s.sys.crucible = false →
    ((∀ f, f ∈ (s.node node).unacked → f.sends < 4) →
      ∃ t, exec (.caneRetransmit node) s = .next t ∧
        (t.node node).unacked = (s.node node).unacked.map (fun f => { f with sends := f.sends + 1 }) ∧
        (t.cane (s.cfg.nodes.get node).port).sent =
          (s.cane (s.cfg.nodes.get node).port).sent ++ (s.node node).unacked.map (fun f => { f with sends := f.sends + 1 }) ∧
        t = { s with pnt := { s.pnt with nodes := t.pnt.nodes, ports := t.pnt.ports } }) ∧
    ((∃ f, f ∈ (s.node node).unacked ∧ 4 ≤ f.sends) →
      exec (.caneRetransmit node) s =
        .next (raise kCaneRetryExhausted (64 + node) 0 (setNode node (fun x => { x with lostDue := true }) s)))) ∧
  (∀ port s, s.timeRuns = true → s.caneIn port = true → exec (.caneCrc port) s = .next (raiseOnce kCaneCrc port 0 s))

/-- Discovery and loss (from R212, R418, R425, Table 15.5): a link that comes up queries, one that goes down loses its nodes at
the coming boundary; a port with nodes missing queries every 64 frames; a report joins its node at the next boundary, marks a
restart, or is rejected with NODE_CONFLICT; a silent node is lost with the frame, its frames and its joining with it. Where a
clause rests on the model's reading, see log entry 41. -/
def Obligations.CaneNodes : Prop :=
  (∀ port s, s.timeRuns = true → port < 16 → (s.cane port).enabled = true → (s.cane port).up = false →
    s.sys.crucible = false →
    exec (.caneLinkUp port) s = .next (raise kCaneLinkUp port 0 (setCane port (fun x => { x with
      up := true, queryDue := true, queryAge := 0 }) s))) ∧
  (∀ port s, s.timeRuns = true → port < 16 → (s.cane port).up = true →
    ∃ t, exec (.caneLinkDown port) s = .next t ∧ (t.cane port).up = false ∧ (t.cane port).joinDue = [] ∧
      (∀ n, n ∈ s.portNodes port → (t.node n).lostDue = (s.node n).joined) ∧
      (∀ n, n ∉ s.portNodes port → t.node n = s.node n) ∧ (∀ q, q ≠ port → t.cane q = s.cane q) ∧
      t.flt = (raise kCaneLinkDown port 0 s).flt ∧
      t = { s with pnt := { s.pnt with nodes := t.pnt.nodes, ports := t.pnt.ports }, flt := t.flt }) ∧
  (∀ port s, s.timeRuns = true → s.tim.frameDue = true → s.drives = true → s.caneIn port = true →
    64 ≤ (s.cane port).queryAge →
    s.joinedCount port < (s.portNodes port).length →
    exec (.nodeQuery port) s = .next (setCane port (fun x => { x with queryDue := true, queryAge := 0 }) s)) ∧
  (∀ port hop node ident domains highest s, s.timeRuns = true → s.drives = true → s.caneIn port = true →
    s.nodeUsed node = true → (s.cfg.nodes.get node).port = port → (s.cfg.nodes.get node).position = hop →
    (s.node node).joined = false →
    ∃ t, exec (.caneNodeInfo port hop node ident domains highest) s = .next t ∧ node ∈ (t.cane port).joinNew ∧
      (t.node node).ident = ident ∧ (t.node node).joined = false ∧ (∀ n, n ≠ node → t.node n = s.node n) ∧
      t = { s with
        pnt := { s.pnt with nodes := t.pnt.nodes, ports := t.pnt.ports }, flt := { s.flt with once := t.flt.once } }) ∧
  (∀ port hop node ident domains highest s, s.timeRuns = true → s.drives = true → s.caneIn port = true →
    s.nodeUsed node = true → (s.cfg.nodes.get node).port = port → (s.cfg.nodes.get node).position = hop →
    (s.node node).joined = true →
    ∃ t, exec (.caneNodeInfo port hop node ident domains highest) s = .next t ∧ (t.node node).lostDue = true ∧
      t.pnt.ports = s.pnt.ports ∧
      t = { s with pnt := { s.pnt with nodes := t.pnt.nodes }, flt := { s.flt with once := t.flt.once } }) ∧
  (∀ port hop node ident domains highest s, s.timeRuns = true → s.drives = true → s.caneIn port = true →
    (s.nodeUsed node = false ∨ (s.cfg.nodes.get node).port ≠ port ∨ (s.cfg.nodes.get node).position ≠ hop) →
    (s.cane port).rejected.contains node = false →
    ∃ t, exec (.caneNodeInfo port hop node ident domains highest) s = .next t ∧
      (t.cane port).rejected = node :: (s.cane port).rejected ∧ t.pnt.nodes = s.pnt.nodes ∧
      t.flt.inflight = (raise kNodeConflict (64 + node) (4 * port + hop) s).flt.inflight ∧
      t = { s with
        pnt := { s.pnt with ports := t.pnt.ports }, flt := { s.flt with inflight := t.flt.inflight, once := t.flt.once } }) ∧
  (∀ node s, s.timeRuns = true → s.tim.frameDue = true → s.nodeUsed node = true → (s.node node).joined = true →
    ((s.node node).lostDue = true ∨
      (s.node node).heard = false ∧ (s.cfg.nodes.get node).timeout ≤ (s.node node).silent + 1) →
    ∃ t, exec (.nodeLost node) s = .next t ∧ (t.node node).joined = false ∧ (t.node node).unacked = [] ∧
      (t.node node).rxNext = 1 ∧ (t.node node).txNext = 1 ∧ (∀ n, n ≠ node → t.node n = s.node n) ∧
      (∀ d, s.domUsed d = true → (s.cfg.doms.get d).node = node → (t.leh.cur.doms.get d).nodeGone = true) ∧
      (∀ f, f ∈ (t.cane (s.cfg.nodes.get node).port).txq → f.node ≠ node) ∧
      t.flt = (raiseNext kNodeLost (64 + node) 0 s).flt ∧
      t = { s with
        pnt := { s.pnt with nodes := t.pnt.nodes, ports := t.pnt.ports }, flt := t.flt
        leh := { s.leh with cur := t.leh.cur, nxt := t.leh.nxt } })

/-- The steps of an activation and a chunk's write (from R480, R483, R492 to R496, R499, Table 18.5): a verified image moves the
journal on, one that fails ends the activation with its kind; the tables load; the marker is written; the switch opens the pause
at a boundary in NORMAL; the pause's end puts the new tables in force; the last step reports and answers; a written chunk sets its
bit, one that failed its digest does not. Where a clause rests on the model's reading, see log entry 31. -/
def Obligations.ActivationSteps : Prop :=
  (∀ s, s.coreUp = true → s.bch.running = true → s.bch.journal = 0 →
    exec .activationVerifyComplete s =
      (match verifySlot s s.bch.stagingSlot (some (padTo 48 s.bch.stDigest)) (some s.bch.stCount) with
       | none => .next { s with bch := { s.bch with journal := 1 } }
       | some (k, ctx) => .next (finishDeferred s.bch.actMbox 0x1205 2 [0, BitVec.ofNat 8 k.2]
           (raise k s.bch.stagingSlot ctx { s with bch := { s.bch with running := false, journal := 0, shadow := none } })))) ∧
  (∀ s, s.coreUp = true → s.bch.running = true → s.bch.journal = 1 →
    exec .activationLoadComplete s =
      .next { s with bch := { s.bch with shadow := some (s.slotBatch s.bch.stagingSlot), journal := 2 } }) ∧
  (∀ b s, s.coreUp = true → s.bch.running = true → s.bch.journal = 2 → s.bch.shadow = some b → s.needsReset b = false →
    exec .commitMarkerWritten s = .next { s with bch := { s.bch with
      marker := some s.bch.stagingSlot, markVersion := s.bch.stVersion, markDigest := s.bch.stDigest, journal := 3
      switchReset := false } }) ∧
  (∀ b s, s.coreUp = true → s.bch.running = true → s.bch.journal = 2 → s.bch.shadow = some b → s.needsReset b = true →
    exec .commitMarkerWritten s = .next (askReset { s with bch := { s.bch with
      marker := some s.bch.stagingSlot, markVersion := s.bch.stVersion, markDigest := s.bch.stDigest, journal := 3
      switchReset := true } })) ∧
  (∀ s, s.timeRuns = true → s.tim.frameDue = true → s.bch.running = true → s.bch.journal = 3 → s.bch.switchReset = false →
    s.bch.inPause = false → s.shr.hold.st = .normal →
    exec .activationSwitch s = .next { s with
      seq := { s.seq with rails := tabMap (fun _ x => { x with
        edge := x.edge.map (· + 4 * s.frameTicks), deadline := x.deadline.map (· + 4 * s.frameTicks)
        nextEdge := x.nextEdge.map (· + 4 * s.frameTicks), nextDl := x.nextDl.map (· + 4 * s.frameTicks) }) s.seq.rails }
      bch := { s.bch with inPause := true, pause := 5, journal := 4 } }) ∧
  (∀ b s, s.timeRuns = true → s.tim.frameDue = true → s.bch.inPause = true → s.bch.pause ≤ 1 → s.bch.shadow = some b →
    ∃ t, exec .activationPauseEnd s = .next t ∧ t.batch = some b ∧ t.pd = some b ∧ t.flt.react = b.react ∧
      t.flt.live = true ∧ t.bch.inPause = false ∧ t.bch.pause = 0 ∧ t.bch.journal = 5 ∧ t.bch.shadow = none ∧
      t.bch.active = s.bch.marker ∧ t.bch.version = s.bch.markVersion ∧ t.bch.digest = s.bch.markDigest ∧
      s.bch.floorVersion ≤ t.bch.floorVersion ∧ t.tim.frame = s.tim.frame ∧ t.otp = s.otp) ∧
  (∀ s, s.coreUp = true → s.bch.running = true → s.bch.journal = 5 →
    exec .activationDone s = .next (finishDeferred s.bch.actMbox 0x1205 0 [6, 0]
      (raise kActivationDone 2 0 { s with bch := { s.bch with running := false, journal := 0 } }))) ∧
  (∀ chunk bytes mbox rest s, s.coreUp = true → s.bch.writing = (chunk, bytes, mbox) :: rest → bytes ≠ [] →
    ∃ t, exec .chunkWriteComplete s = .next t ∧ t.bch.writing = rest ∧ t.bch.bitmap.get chunk = true ∧
      (∀ i, i < 4096 → (t.bch.slot s.bch.stagingSlot).get (4096 * chunk + i) = nth bytes i) ∧
      (∀ a, a < 4096 * chunk ∨ 4096 * chunk + 4096 ≤ a →
        (t.bch.slot s.bch.stagingSlot).get a = (s.bch.slot s.bch.stagingSlot).get a) ∧
      (∀ n, n ≠ chunk → t.bch.bitmap.get n = s.bch.bitmap.get n) ∧
      t = { s with bch := t.bch, hst := t.hst, red := { s.red with sent := t.red.sent } }) ∧
  (∀ chunk mbox rest s, s.coreUp = true → s.bch.writing = (chunk, [], mbox) :: rest →
    exec .chunkWriteComplete s = .next (finishDeferred mbox 0x1202 2 (chunkReply s.bch chunk false)
      { s with bch := { s.bch with writing := rest } }))

/-- Mailboxes (from R64, R135, R460, R461, R559, Table 16.5): a doorbell of an idle mailbox copies the block and makes it BUSY,
one of a BUSY mailbox is noted and reported once; clearing reply_ready or busy_ring; a write of LOP_ENABLE joins the commands that
wait. Where a clause rests on the model's reading, see log entry 34. -/
def Obligations.Mailboxes : Prop :=
  let up (port : PortId) (s : State) : Prop := s.portsUp = true ∧ port ≠ .peer
  let rung (m : Nat) (s : State) : State := { s with hst := { s.hst with
    ring := s.hst.ring + 1
    mboxes := s.hst.mboxes.modify m fun x => { x with
      st := .busy, ready := false, block := tabBytes x.cmd, rung := some s.hst.ring, reply := [], busyRaised := false } } }
  let missed (m : Nat) (s : State) : State := raiseIf (!(s.hst.mboxes.get m).busyRaised) kMailboxBusy (m / 2) 0
    { s with hst := { s.hst with mboxes := s.hst.mboxes.modify m fun x => { x with busyRing := true, busyRaised := true } } }
  (∀ port s, up port s → (s.hst.mboxes.get (2 * portCode port)).st ≠ .busy →
    exec (.doorbellNormal port) s = .next (ibrSettle (rung (2 * portCode port) s))) ∧
  (∀ port s, up port s → (s.hst.mboxes.get (2 * portCode port)).st = .busy →
    exec (.doorbellNormal port) s = .next (ibrSettle (missed (2 * portCode port) s))) ∧
  (∀ port s, up port s → (s.hst.mboxes.get (2 * portCode port + 1)).st ≠ .busy →
    exec (.doorbellUrgent port) s = .next (ibrSettle (rung (2 * portCode port + 1) s))) ∧
  (∀ port s, up port s → (s.hst.mboxes.get (2 * portCode port + 1)).st = .busy →
    exec (.doorbellUrgent port) s = .next (ibrSettle (missed (2 * portCode port + 1) s))) ∧
  (∀ port urgent s, up port s →
    exec (.replyReadyClear port urgent) s = .next (ibrSettle { s with hst := { s.hst with
      mboxes := s.hst.mboxes.modify (2 * portCode port + b2n urgent) fun x => { x with
        ready := false, st := if x.st = .done then .idle else x.st } } })) ∧
  (∀ port urgent s, up port s →
    exec (.busyRingClear port urgent) s = .next (ibrSettle { s with hst := { s.hst with
      mboxes := s.hst.mboxes.modify (2 * portCode port + b2n urgent) fun x => { x with busyRing := false } } })) ∧
  (∀ port value s, up port s → (s.drives = true ∨ s.sys.crucible = true ∨ s.timeRuns = false) →
    ∃ t q, exec (.lopEnableWrite port value) s = .next t ∧ t.hst.queue = s.hst.queue ++ [q] ∧ q.isReg = true ∧ q.port = port ∧
      q.regVal = value.toNat ∧ t = { s with hst := t.hst })

/-- Verification (from R62, R63, R462, R466, R469, R471, R480, R517, Table 16.8): the block that is next passes every check and
joins the commands that wait with its counter noted, or the first failing check decides its status and fault; a lockout ends with
its last frame, a count restarts after 65,536 clean ones; a fuse blow ends with OTP changed and its reply; a deferred read
answers. Where a clause rests on the model's reading, see log entries 33 and 34. -/
def Obligations.Verification : Prop :=
  (∀ b s, s.timeRuns = true → s.nextBlock = some b → (takeBlock b s).passesOn b = false →
    (∀ c, c ∈ checks b (takeBlock b s) → c.1 = false) → s.red.st ≠ .holder →
    ∃ t q, exec .commandVerified s = .next t ∧ t.hst.queue = (takeBlock b s).hst.queue ++ [q] ∧ q.block = b.bytes ∧
      q.port = b.port ∧ q.mbox = b.mbox ∧
      (b.mac = true → t.hst.verCtr.get b.slot = b.ctr) ∧ (b.mac = false → t.hst.verCtr = s.hst.verCtr) ∧
      t.hst.accCtr = s.hst.accCtr ∧ t = { s with hst := t.hst }) ∧
  (∀ b status k counts s, s.timeRuns = true → s.nextBlock = some b → (takeBlock b s).passesOn b = false →
    (checks b (takeBlock b s)).find? (·.1) = some (true, status, k, counts) → b.port ≠ .peer →
    ∃ t, exec .commandVerified s = .next t ∧
      t.flt = (raise k (portCode b.origin) (b.op + 65536 * b.slot) s).flt ∧
      (t.hst.mboxes.get b.mbox).st = .done ∧ (t.hst.mboxes.get b.mbox).ready = true ∧
      (t.hst.mboxes.get b.mbox).reply = replyBytes s b.op status s.tim.frame b.ctr none [] ∧
      t.hst.queue = s.hst.queue ∧ t.hst.verCtr = s.hst.verCtr ∧ t.hst.accCtr = s.hst.accCtr ∧
      (t.hst.auth.get (portCode b.port)).count =
        (if counts then min ((s.hst.auth.get (portCode b.port)).count + 1) 255 else (s.hst.auth.get (portCode b.port)).count) ∧
      (∃ r, t.recd.frameRecs = s.recd.frameRecs ++ [r]) ∧
      t = { s with hst := t.hst, flt := t.flt, recd := { s.recd with frameRecs := t.recd.frameRecs } }) ∧
  (∀ port n s, s.timeRuns = true → s.tim.frameDue = true → (s.hst.auth.get (portCode port)).lock = some n → n ≤ 1 →
    exec (.lockoutEnd port) s = .next (ibrSettle { s with hst := { s.hst with
      auth := s.hst.auth.modify (portCode port) fun a => { a with lock := none } } })) ∧
  (∀ port s, s.timeRuns = true → s.tim.frameDue = true → 65536 ≤ (s.hst.auth.get (portCode port)).since →
    exec (.authCountRestart port) s = .next { s with hst := { s.hst with
      auth := s.hst.auth.modify (portCode port) fun a => { a with count := 0 } } }) ∧
  (∀ target mbox rest s, s.timeRuns = true → s.hst.fuse = (0, 0, [BitVec.ofNat 8 target], mbox) :: rest →
    ∃ t, exec (.fuseBlowComplete true) s = .next t ∧ t.otp = { s.otp with lifecycle := lifeOf (target % 256) } ∧
      t.hst.fuse = rest ∧ t = { s with otp := t.otp, hst := t.hst, red := { s.red with sent := t.red.sent } }) ∧
  (∀ slot key mbox rest s, s.timeRuns = true → s.hst.fuse = (1, slot, key, mbox) :: rest →
    ∃ t, exec (.fuseBlowComplete true) s = .next t ∧
      t.otp = { s.otp with
        keys := s.otp.keys.put slot key, keyCrc := s.otp.keyCrc.put slot (crc32c key), keyBlown := bvPut s.otp.keyBlown slot true } ∧
      t.hst.fuse = rest ∧ t = { s with otp := t.otp, hst := t.hst, red := { s.red with sent := t.red.sent } }) ∧
  (∀ mbox d s, s.timeRuns = true → s.hst.deferred.find? (fun d => d.mbox = mbox && readOps.contains d.opcode) = some d →
    s.hst.deferred.find? (fun e => e.mbox = mbox && e.opcode = d.opcode) = some d → d.port ≠ .peer →
    ∃ t, exec (.deferredMramReadComplete mbox) s = .next t ∧ t.hst.deferred = s.hst.deferred.erase d ∧
      (t.hst.mboxes.get mbox).st = .done ∧ (t.hst.mboxes.get mbox).ready = true ∧
      (t.hst.mboxes.get mbox).reply = replyBytes s d.opcode 0 d.frame d.counter d.key (s.hst.defData.get mbox) ∧
      (∀ n, n ≠ mbox → t.hst.mboxes.get n = s.hst.mboxes.get n) ∧ t = { s with hst := t.hst })

/-- Registers as one port reads, selects, clears and writes them (from R47, R55, R70, R96, R98, R99, R251, R283, R344, R346, R415,
R443, R554 to R559): a low word read captures its high word, a worst slack and a count read are restarted, the last word of a FIFO
entry read drops it; a peek captures its entry; a selection captures its object; a written 1 clears an event; SYS_LOCK once set
stays; a whole word written is that register's write, and a locked one changes nothing. Where a clause rests on the model's
reading, see log entry 34. -/
def Obligations.RegisterAccess : Prop :=
  let up (port : PortId) (s : State) : Prop := s.portsUp = true ∧ port ≠ .peer
  let reads (i : Instr) (port : PortId) (a : Nat) (s t : State) : Prop :=
    exec i s = .next (ibrSettle (setPort (portCode port) (fun h => { h with
      out := leBytes 4 (regValue (portCode port) a s).toNat }) t))
  let selects (i : Instr) (port : PortId) (f : HostPort → HostPort) (s : State) : Prop :=
    exec i s = .next (ibrSettle { s with hst := { s.hst with ports := s.hst.ports.modify (portCode port) f } })
  (∀ port s, up port s → reads (.timFrameLoRead port) port 0x0810 s
    { s with tim := { s.tim with frameHiCap := s.tim.frame / 4294967296 } }) ∧
  (∀ port s, up port s → reads (.timChassisLoRead port) port 0x081C s
    { s with tim := { s.tim with chassisHiCap := s.tim.chassis / 4294967296 } }) ∧
  (∀ port s, up port s → reads (.timSlackWorstRead port) port 0x0828 s
    { s with tim := { s.tim with slackWorst := 2147483647 } }) ∧
  (∀ port s, up port s → reads (.fltIntOvfRead port) port 0x1004 s { s with flt := { s.flt with ovf := 0 } }) ∧
  (∀ port s, up port s → reads (.fltIntData3Read port) port 0x1014 s
    { s with flt := { s.flt with fifo := s.flt.fifo.drop 1 } }) ∧
  (∀ port s, up port s → (s.hport (portCode port)).capSel < 16 → reads (.msrCapOvfRead port) port 0x1498 s
    { s with msr := { s.msr with caps := s.msr.caps.modify (s.hport (portCode port)).capSel fun u => { u with ovf := 0 } } }) ∧
  (∀ port s, up port s → (s.hport (portCode port)).capSel < 16 → reads (.msrCapData3Read port) port 0x1494 s
    { s with msr := { s.msr with
      caps := s.msr.caps.modify (s.hport (portCode port)).capSel fun u => { u with fifo := u.fifo.drop 1 } } }) ∧
  (∀ port entry s, up port s → entry < 256 →
    ∃ t, exec (.peekEntryRead port entry) s = .next t ∧
      (t.hport (portCode port)).out = (s.entryBytes ((s.pnt.peekBase.get (portCode port) + entry) % 262144)).take 4 ∧
      t.pnt.held.get (portCode port * 262144 + (s.pnt.peekBase.get (portCode port) + entry) % 262144) =
        (s.entryBytes ((s.pnt.peekBase.get (portCode port) + entry) % 262144)).drop 4 ∧
      t = { s with pnt := { s.pnt with held := t.pnt.held }, hst := t.hst }) ∧
  (∀ port v s, up port s →
    selects (.lehDomSelWrite port v) port (fun h => { h with domSel := v, domData := s.domWords v }) s ∧
    selects (.hswChSelWrite port v) port (fun h => { h with chSel := v, chData := s.chWords v }) s ∧
    selects (.seqRailSelWrite port v) port (fun h => { h with railSel := v, railData := s.railWords v }) s ∧
    selects (.tieMarkerSelWrite port v) port (fun h => { h with tieSel := v, tieData := s.markerWords v }) s ∧
    selects (.pntNodeSelWrite port v) port (fun h => { h with nodeSel := v, nodeData := s.nodeWords v }) s ∧
    selects (.pmbPortSelWrite port v) port (fun h => { h with pmbSel := v, pmbData := s.pmbWords v }) s ∧
    selects (.fltReactSelWrite port v) port (fun h => { h with
      reactSel := v % 1024
      reactData := (reactionOf s.flt.live s.flt.react (v % 1024 / 32) (v % 1024 % 32)).toNat }) s ∧
    selects (.hstKeySelWrite port v) port (fun h => { h with
      keySel := v, keyCtr := if v < 4 then s.hst.accCtr.get v else 0 }) s) ∧
  (∀ reg mask s, s.portsUp = true → reg < 8 →
    ∃ t, exec (.wmEventClear reg mask) s = .next t ∧
      (∀ k, k < 32 → reg < 4 → bvGet t.msr.evUv (32 * reg + k) = (bvGet s.msr.evUv (32 * reg + k) && !bvGet mask k)) ∧
      (∀ k, k < 32 → 4 ≤ reg → bvGet t.msr.evOv (32 * (reg - 4) + k) = (bvGet s.msr.evOv (32 * (reg - 4) + k) && !bvGet mask k)) ∧
      (∀ i, ¬(32 * reg ≤ i ∧ i < 32 * reg + 32) → bvGet t.msr.evUv i = bvGet s.msr.evUv i) ∧
      (∀ i, ¬(32 * reg ≤ i + 128 ∧ i + 128 < 32 * reg + 32) → bvGet t.msr.evOv i = bvGet s.msr.evOv i) ∧
      t = { s with msr := { s.msr with evUv := t.msr.evUv, evOv := t.msr.evOv }, hst := t.hst }) ∧
  (∀ mask s, s.portsUp = true →
    exec (.batLevelEventClear mask) s =
      .next (ibrSettle { s with bat := { s.bat with levelEvent := s.bat.levelEvent &&& ~~~mask } })) ∧
  (∀ reg mask s, s.portsUp = true → reg < 2 →
    ∃ t, exec (.hswTripEventClear reg mask) s = .next t ∧
      (∀ k, k < 32 → bvGet t.hsw.tripEvent (32 * reg + k) = (bvGet s.hsw.tripEvent (32 * reg + k) && !bvGet mask k)) ∧
      (∀ i, ¬(32 * reg ≤ i ∧ i < 32 * reg + 32) → bvGet t.hsw.tripEvent i = bvGet s.hsw.tripEvent i) ∧
      t = { s with hsw := { s.hsw with tripEvent := t.hsw.tripEvent }, hst := t.hst }) ∧
  (∀ value s, s.portsUp = true → bvGet value 0 = true → s.flt.err = true → s.flt.errPulse = false →
    (s.flt.errMin = false → exec (.fltErrClearWrite value) s =
      .next (ibrSettle { s with flt := { s.flt with err := false, errClear := false } })) ∧
    (s.flt.errMin = true → exec (.fltErrClearWrite value) s =
      .next (ibrSettle { s with flt := { s.flt with errClear := true } }))) ∧
  (∀ mask s, s.portsUp = true →
    exec (.fltNmaCauseClear mask) s = .next (ibrSettle { s with flt := { s.flt with
      nmaCause := s.flt.nmaCause &&& ~~~mask
      nma := s.flt.nma && (s.flt.nmaCause &&& ~~~mask ≠ 0 || s.flt.nmaMin) } })) ∧
  (∀ port s, up port s →
    exec (.sysLockSet port) s = .next (ibrSettle { s with sys := { s.sys with lock := true } })) ∧
  (∀ port a (v : Word) s, up port s → a < 0x5000 → a % 4 = 0 → isWritable a = true →
    exec (.registerWrite port a (leBytes 4 v.toNat)) s = .next (ibrSettle (regWrite (portCode port) a v s))) ∧
  (∀ port a (v : Word) s, up port s → s.sys.lock = true →
    a ∈ [0x0C08, 0x0C0C, 0x0C10, 0x0C14, 0x0C18, 0x1018, 0x1020, 0x2820] →
    exec (.registerWrite port a (leBytes 4 v.toNat)) s = .next (ibrSettle s))

/-- MGT and its in-band request (from R444, R446, R449 to R452): a transaction for another address changes nothing; a write whose
two bytes are the pointer sets it; a word written at a register is that register's write; a read of a word answers the register
and moves the pointer past it; a START takes the timing registers in; a held line is reported; a request goes out once, a cut one
again. Where a clause rests on the model's reading, see log entry 34. -/
def Obligations.MgtAccess : Prop :=
  let turn (s : State) : State := { s with hst := { s.hst with
    addressed := true, thdAct := s.hst.thd, tsuAct := s.hst.tsu, glitchAct := s.hst.glitch } }
  (∀ target bytes count s, target ≠ s.hst.mgtAddr →
    exec (.mgtWriteTransaction target bytes) s = .next s ∧ exec (.mgtReadTransaction target count) s = .next s) ∧
  (∀ hi lo s, s.portsUp = true →
    exec (.mgtWriteTransaction s.hst.mgtAddr [hi, lo]) s =
      .next (ibrSettle { turn s with hst := { (turn s).hst with mgtPtr := 256 * hi.toNat + lo.toNat } })) ∧
  (∀ hi lo (v : Word) s, s.portsUp = true → (256 * hi.toNat + lo.toNat) % 4 = 0 → 256 * hi.toNat + lo.toNat < 0x5000 →
    isWritable (256 * hi.toNat + lo.toNat) = true →
    exec (.mgtWriteTransaction s.hst.mgtAddr (hi :: lo :: leBytes 4 v.toNat)) s =
      .next (ibrSettle (regWrite 0 (256 * hi.toNat + lo.toNat) v { turn s with hst := { (turn s).hst with
        mgtPtr := (256 * hi.toNat + lo.toNat) / 64 * 64 + ((256 * hi.toNat + lo.toNat) + 4) % 64 } }))) ∧
  (∀ s, s.portsUp = true → s.hst.mgtPtr < 0x5000 → s.hst.mgtPtr % 4 = 0 →
    exec (.mgtReadTransaction s.hst.mgtAddr 4) s = .next (ibrSettle (setHst (fun h => { h with mgtPtr := h.mgtPtr + 4 })
      (setPort 0 (fun h => { h with out := leBytes 4 (regValue 0 s.hst.mgtPtr (turn s)).toNat })
        (regCaptured 0 s.hst.mgtPtr (turn s)))))) ∧
  (∀ ack s, s.portsUp = true → exec (.mgtStartStopAbandon false ack) s = .next s) ∧
  (∀ s, s.portsUp = true →
    exec (.mgtStartStopAbandon true false) s = .next { s with hst := { s.hst with
      thdAct := s.hst.thd, tsuAct := s.hst.tsu, glitchAct := s.hst.glitch } }) ∧
  (∀ s, s.portsUp = true → exec .sdaReleased s = .next (raise kSdaReleased 0 0 s)) ∧
  (∀ s, s.portsUp = true → s.ibrCond = true → (s.hst.ibrSent = false ∨ s.hst.addressed = false) →
    exec (.inBandRequest false) s = .next { s with hst := { s.hst with
      ibrSent := true, addressed := false, ibrCount := inc32 s.hst.ibrCount } } ∧
    exec (.inBandRequest true) s = .next s)

/-- FHP and the views (from R349, R454 to R458, R549 to R551): a frame writes its bytes to host scratch, the stripes' parity words
with them, and to the non-volatile view, whose bytes stand there once the write completes; a CRC that differs is reported once and has no effect; a word read answers the
sync byte and the register, on one lane or four; a frame of no length or too long, or one not listed, sets the error bit; the
status byte describes the frame before. Where a clause rests on the model's reading, see log entry 34. -/
def Obligations.FhpAccess : Prop :=
  let start (s : State) : State := { s with hst := { s.hst with crcAct := s.hst.crcEn, fhpCrc := false, fhpErr := false } }
  (∀ o data crc s, s.portsUp = true → s.hst.crcEn = false → 0 < data.length → data.length ≤ 4096 →
    o + data.length ≤ 0x300000 →
    ∃ t, exec (.fhpWrite (0x2000000 + o) data crc) s = .next t ∧
      (∀ k, k < data.length → t.mem.scratch.get (o + k) = nth data k) ∧
      (∀ a, a < o ∨ o + data.length ≤ a → t.mem.scratch.get a = s.mem.scratch.get a) ∧ t.hst.fhpErr = false ∧
      (∀ k, t.mem.parity.get k ^^^ t.mem.xorWords k = s.mem.parity.get k ^^^ s.mem.xorWords k) ∧
      t = { s with
        mem := { s.mem with scratch := t.mem.scratch, scratchBad := t.mem.scratchBad, parity := t.mem.parity }, hst := t.hst }) ∧
  (∀ o data crc s, s.portsUp = true → s.hst.crcEn = false → 0 < data.length → data.length ≤ 4096 →
    o + data.length ≤ 0x800000 → s.pin.pfiSeen = false →
    ∃ t, exec (.fhpWrite (0x3000000 + o) data crc) s = .next t ∧ t.mem.nvBusy = true ∧ t.mem.nv = s.mem.nv ∧
      t.mem.nvPend = s.mem.nvPend ++ (List.range data.length).map (fun k => (o + k, nth data k)) ∧
      t = { s with mem := { s.mem with nvPend := t.mem.nvPend, nvBusy := true }, hst := t.hst }) ∧
  (∀ s, s.portsUp = true → s.mem.nvBusy = true →
    ∃ t, exec .hostNvWriteComplete s = .next t ∧ t.mem.nvBusy = false ∧ t.mem.nvPend = [] ∧
      t.mem.nv = s.mem.nvPend.foldl (fun m w => m.put w.1 w.2) s.mem.nv ∧ t.mem.scratch = s.mem.scratch ∧
      t = { s with mem := t.mem }) ∧
  (∀ addr data crc s, s.portsUp = true → s.hst.crcEn = true → 0 < data.length → data.length ≤ 4096 →
    crc16 (0x02 :: leBytes 4 addr ++ data) ≠ crc →
    ∃ t, exec (.fhpWrite addr data crc) s = .next t ∧ t.hst.fhpCrc = true ∧ t.hst.fhpErr = false ∧
      t.flt = (raiseOnce kFhpCrc 1 0 s).flt ∧ t = { s with hst := t.hst, flt := t.flt }) ∧
  (∀ addr data crc s, s.portsUp = true → (data.length = 0 ∨ 4096 < data.length) →
    exec (.fhpWrite addr data crc) s = .next (ibrSettle (setHst (fun h => { h with fhpErr := true }) (start s)))) ∧
  (∀ addr length crc s, s.portsUp = true →
    exec (.fhpRead addr length crc true) s = .next (ibrSettle s) ∧
    exec (.fhpQuadRead addr length crc true) s = .next (ibrSettle s)) ∧
  (∀ addr crc s, s.portsUp = true → s.hst.crcEn = false → addr % 4 = 0 → addr < 0x5000 →
    exec (.fhpRead addr 4 crc false) s = .next (ibrSettle (setPort 1 (fun h => { h with
      out := 0x5A :: leBytes 4 (regValue 1 addr (start s)).toNat }) (regCaptured 1 addr (start s)))) ∧
    exec (.fhpQuadRead addr 4 crc false) s = exec (.fhpRead addr 4 crc false) s) ∧
  (∀ s, s.portsUp = true →
    ∃ t, exec .fhpStatus s = .next t ∧
      (t.hport 1).out = [BitVec.ofNat 8 (b2n s.hst.fhpCrc + 2 * b2n s.hst.fhpErr + 4 * b2n s.alertLow + 8 * b2n s.mem.nvBusy)] ∧
      t.hst.fhpCrc = false ∧ t.hst.fhpErr = false ∧ t = { s with hst := t.hst }) ∧
  (∀ s, s.portsUp = true →
    exec .fhpInvalidFrame s = .next (ibrSettle (setHst (fun h => { h with fhpErr := true }) (start s))))


/-- Refusals (from R478, R479, R481, Tables 17.2 and 17.4 to 17.6): a command whose test fails answers REFUSED with the reason and
the offset of the deciding field, is recorded, and changes no other state; one row of each block's kind, and every command of the
catalogue whose block crucible does not serve, in crucible. Where a clause rests on the model's reading, see log entries 7 and 18.
-/
def Obligations.RefusedCommands : Prop :=
  let refused (i : Instr) (h : CmdHeader) (op reason off : Nat) (s : State) : Prop :=
    ∃ t, exec i s = .next t ∧
      Answered h op 0x20 (payloadOf i) (leBytes 2 reason ++ leBytes 2 off) s t ∧ OnlyPorts s t
  (∀ h slot key s, s.takes = true → s.otp.lifecycle = .field →
    refused (.cmdSysKeyProgram h slot key) h 0x0103 6 0xFFFF s) ∧
  (∀ h root hash s, s.takes = true → s.otp.lifecycle = .blank → 3 < root →
    refused (.cmdSysRootProgram h root hash) h 0x0104 1 0 s) ∧
  (∀ h block kind reactions s, s.takes = true → kindExists block kind = false →
    refused (.cmdFltReactionSet h block kind reactions) h 0x0401 1 1 s) ∧
  (∀ h chan on s, s.takes = true → s.sys.crucible = false → s.chanUsed chan = false →
    refused (.cmdHswSet h chan on) h 0x0B01 1 0 s) ∧
  (∀ h chan s, s.takes = true → s.sys.crucible = false → chan < 54 → (s.chan chan).st ≠ .tripped →
    refused (.cmdHswToggle h chan) h 0x0B02 3 0 s) ∧
  (∀ h group s, s.takes = true → s.sys.crucible = false → s.groupUsed group = true → (s.groupCur group).st = .latched →
    refused (.cmdSeqGroupSet h group true) h 0x0C01 3 1 s) ∧
  (∀ h group on s, s.takes = true → s.sys.crucible = false → s.groupUsed group = false →
    refused (.cmdSeqGroupSet h group on) h 0x0C01 2 0 s) ∧
  (∀ h s, s.takes = true → s.sys.crucible = false → s.red.st ≠ .holder →
    refused (.cmdRedHandover h) h 0x0E01 3 0xFFFF s) ∧
  (∀ h s, s.takes = true → s.sys.crucible = false → s.red.st = .holder → s.red.mirComplete = false →
    refused (.cmdRedHandover h) h 0x0E01 9 0xFFFF s) ∧
  (∀ h port power s, s.takes = true → s.sys.crucible = false → port < 2 → (s.tiePort port).st ≠ .idle →
    refused (.cmdTieRequest h port power) h 0x0F01 3 0 s) ∧
  (∀ h port on s, s.takes = true → s.sys.crucible = false → 16 ≤ port →
    refused (.cmdCanePortSet h port on) h 0x1001 1 0 s) ∧
  (∀ h s, s.takes = true → s.bch.running = true → refused (.cmdBchAbandon h) h 0x1203 3 0xFFFF s) ∧
  (∀ i op p s, encodeCmd i = some (op, p) → s.takes = true → s.sys.crucible = true →
    crucibleBlocks.contains (op / 256) = false →
    ∃ t h, exec i s = .next t ∧ Answered h op 0x20 p (leBytes 2 7 ++ leBytes 2 0xFFFF) s t ∧ OnlyPorts s t)

/-- A step runs the command at the front: on s with c in front of its queue it is exec of c on s with the queue's rest; with
nothing waiting the block idles (the model's choice, log entry 12). -/
def Obligations.StepRunsFront : Prop :=
  (∀ (c : Instr) (rest : List Instr) (s : State), s.pending = c :: rest → step s = exec c { s with pending := rest }) ∧
  (∀ s : State, s.pending = [] → step s = .next s)

/-- The device after reset (log entries 1 and 2): nothing waits, it is as delivered with nothing programmed, the core die is held,
no batch is live, no rail, channel or PWM is driven, every FIFO, queue and log is empty, and the OTP tables are in canonical form.
-/
def Obligations.ResetState : Prop :=
  let r : State := State.reset
  r.pending = [] ∧ r.otp.lifecycle = .blank ∧ r.otp.keyBlown = 0 ∧ r.otp.rootBlown = 0 ∧ r.otp.revoked = 0 ∧
  r.otp.keys.wf = true ∧ r.otp.roots.wf = true ∧ r.otp.keyCrc.wf = true ∧ r.otp.rootCrc.wf = true ∧
  r.batch = none ∧ r.pd = none ∧ r.red.drive = false ∧ r.red.st = .seeking ∧ r.hsw.chans = [] ∧ r.stg.phases = [] ∧
  r.seq.rails = [] ∧ r.flt.inflight = [] ∧ r.flt.queue = [] ∧ r.flt.fifo = [] ∧ r.flt.lost = 0 ∧
  r.recd.staging = [] ∧ r.recd.frameRecs = [] ∧ r.recd.sealedLog.count 0 = 0 ∧ r.recd.openLog.count 1 = 0 ∧
  r.hst.mboxes = [] ∧ r.hst.queue = [] ∧ r.bat.zq = [] ∧ r.sys.lock = false ∧ r.timeRuns = false

/-- Every step keeps what is permanent (from R17, R480, R516, R517): the queue loses exactly its front; the OTP tables keep their
canonical form, a blown key or root slot stays blown and a revoked root revoked; and only FUSE_BLOW_COMPLETE changes OTP at all.
-/
def Obligations.StepKeepsOtp : Prop :=
  let inv (s : State) : Prop :=
    s.otp.keys.wf = true ∧ s.otp.roots.wf = true ∧ s.otp.keyCrc.wf = true ∧ s.otp.rootCrc.wf = true
  ∀ s t : State, inv s → step s = .next t →
    inv t ∧ t.pending = s.pending.tail ∧
    (∀ k, bvGet s.otp.keyBlown k = true → bvGet t.otp.keyBlown k = true) ∧
    (∀ k, bvGet s.otp.rootBlown k = true → bvGet t.otp.rootBlown k = true) ∧
    (∀ k, bvGet s.otp.revoked k = true → bvGet t.otp.revoked k = true) ∧
    ((∀ ok, s.pending.head? ≠ some (.fuseBlowComplete ok)) → t.otp = s.otp)

/-- Every command of the catalogue reads back from its encoding (from R473 to R475, Tables 17.4 to 17.6): for every well-formed
command, decoding the opcode and payload that it encodes to gives that command, whatever its operands. Where a clause rests on the
model's reading, see log entry 14. -/
def Obligations.DecodeEncode : Prop :=
  ∀ i op p, i.wf = true → encodeCmd i = some (op, p) → ∃ h, decodeCmd h op p = some i

/-- R3: CHIP_ID reads device code 0x9400 in bits 15:0 and revision code 0xB0 in bits 23:16 in every state and for every port, and
both ports return it. -/
def Obligations.IdentityRegister : Prop :=
  let codes (w : Word) : Prop := w.toNat % 65536 = 0x9400 ∧ w.toNat / 65536 % 256 = 0xB0
  (∀ p s, codes (regValue p 0x0000 s)) ∧
  (∀ s, s.portsUp = true → s.hst.mgtPtr = 0 →
    ∃ t w, exec (.mgtReadTransaction s.hst.mgtAddr 4) s = .next t ∧ (t.hport 0).out = leBytes 4 w.toNat ∧ codes w) ∧
  (∀ crc s, s.portsUp = true → s.hst.crcEn = false →
    ∃ t w, exec (.fhpRead 0x0000 4 crc false) s = .next t ∧ (t.hport 1).out = 0x5A :: leBytes 4 w.toNat ∧ codes w)

/-- R554: a port that reads n bytes of one register from its byte k on gets bytes k to k + n - 1 of one 32-bit value, the one that
the register has as the read begins; so on MGT, on FHP and on FHP's four lanes. -/
def Obligations.RegisterCapture : Prop :=
  let turn (s : State) : State := { s with hst := { s.hst with
    addressed := true, thdAct := s.hst.thd, tsuAct := s.hst.tsu, glitchAct := s.hst.glitch } }
  let start (s : State) : State := { s with hst := { s.hst with crcAct := s.hst.crcEn, fhpCrc := false, fhpErr := false } }
  let part (w : Word) (k n : Nat) : List Byte := ((leBytes 4 w.toNat).drop k).take n
  (∀ n s, s.portsUp = true → s.hst.mgtPtr < 0x5000 → s.hst.mgtPtr % 4 + n ≤ 4 →
    ∃ t, exec (.mgtReadTransaction s.hst.mgtAddr n) s = .next t ∧
      (t.hport 0).out = part (regValue 0 (s.hst.mgtPtr / 4 * 4) (turn s)) (s.hst.mgtPtr % 4) n) ∧
  (∀ a n crc s, s.portsUp = true → s.hst.crcEn = false → a < 0x5000 → 0 < n → a % 4 + n ≤ 4 →
    ∃ t, exec (.fhpRead a n crc false) s = .next t ∧
      (t.hport 1).out = 0x5A :: part (regValue 1 (a / 4 * 4) (start s)) (a % 4) n) ∧
  (∀ a n crc s, s.portsUp = true → s.hst.crcEn = false → a < 0x5000 → 0 < n → a % 4 + n ≤ 4 →
    ∃ t, exec (.fhpQuadRead a n crc false) s = .next t ∧
      (t.hport 1).out = 0x5A :: part (regValue 1 (a / 4 * 4) (start s)) (a % 4) n)

/-- R559: a whole word written to LOP_ENABLE joins the commands that wait and changes nothing else; one written to any other
writable register joins no queue and acts in the step in which its write completes. -/
def Obligations.ReportingWrites : Prop :=
  (∀ port (v : Word) s, s.portsUp = true → port ≠ .peer → s.drives = true →
    exec (.registerWrite port 0x1800 (leBytes 4 v.toNat)) s = .next (ibrSettle { s with hst := { s.hst with
      queue := s.hst.queue ++ [{ port := if portCode port = 0 then .mgt else .fhp, mbox := 2 * portCode port
                                 order := s.hst.ring, verAt := s.hst.verCount, isReg := true, regVal := v.toNat }]
      verCount := s.hst.verCount + 1, ring := s.hst.ring + 1 } })) ∧
  (∀ port a (v : Word) s, s.portsUp = true → port ≠ .peer → isWritable a = true → a % 4 = 0 → a ≠ 0x1800 →
    ∃ t, exec (.registerWrite port a (leBytes 4 v.toNat)) s = .next t ∧
      t = ibrSettle (regWrite (portCode port) a v s) ∧ t.hst.queue = s.hst.queue)
end

