-- ==== Sys2Proof/Laws/State.lean ====
section
/-! SUPPORT. One lemma for each component of State and each update: what it writes, and that it leaves the others alone. -/
namespace Sys2Proof.Machine

/-! ### setBch -/

@[simp] theorem setBch_sys (f : Bch → Bch) (s : State) : (setBch f s).sys = s.sys := rfl
@[simp] theorem setBch_wrm (f : Bch → Bch) (s : State) : (setBch f s).wrm = s.wrm := rfl
@[simp] theorem setBch_otp (f : Bch → Bch) (s : State) : (setBch f s).otp = s.otp := rfl
@[simp] theorem setBch_tim (f : Bch → Bch) (s : State) : (setBch f s).tim = s.tim := rfl
@[simp] theorem setBch_msr (f : Bch → Bch) (s : State) : (setBch f s).msr = s.msr := rfl
@[simp] theorem setBch_lop (f : Bch → Bch) (s : State) : (setBch f s).lop = s.lop := rfl
@[simp] theorem setBch_stg (f : Bch → Bch) (s : State) : (setBch f s).stg = s.stg := rfl
@[simp] theorem setBch_shr (f : Bch → Bch) (s : State) : (setBch f s).shr = s.shr := rfl
@[simp] theorem setBch_leh (f : Bch → Bch) (s : State) : (setBch f s).leh = s.leh := rfl
@[simp] theorem setBch_bat (f : Bch → Bch) (s : State) : (setBch f s).bat = s.bat := rfl
@[simp] theorem setBch_hsw (f : Bch → Bch) (s : State) : (setBch f s).hsw = s.hsw := rfl
@[simp] theorem setBch_seq (f : Bch → Bch) (s : State) : (setBch f s).seq = s.seq := rfl
@[simp] theorem setBch_recd (f : Bch → Bch) (s : State) : (setBch f s).recd = s.recd := rfl
@[simp] theorem setBch_flt (f : Bch → Bch) (s : State) : (setBch f s).flt = s.flt := rfl
@[simp] theorem setBch_mem (f : Bch → Bch) (s : State) : (setBch f s).mem = s.mem := rfl
@[simp] theorem setBch_red (f : Bch → Bch) (s : State) : (setBch f s).red = s.red := rfl
@[simp] theorem setBch_tie (f : Bch → Bch) (s : State) : (setBch f s).tie = s.tie := rfl
@[simp] theorem setBch_pnt (f : Bch → Bch) (s : State) : (setBch f s).pnt = s.pnt := rfl
@[simp] theorem setBch_pmb (f : Bch → Bch) (s : State) : (setBch f s).pmb = s.pmb := rfl
@[simp] theorem setBch_hst (f : Bch → Bch) (s : State) : (setBch f s).hst = s.hst := rfl
@[simp] theorem setBch_bch (f : Bch → Bch) (s : State) : (setBch f s).bch = f s.bch := rfl
@[simp] theorem setBch_tap (f : Bch → Bch) (s : State) : (setBch f s).tap = s.tap := rfl
@[simp] theorem setBch_eng (f : Bch → Bch) (s : State) : (setBch f s).eng = s.eng := rfl
@[simp] theorem setBch_pin (f : Bch → Bch) (s : State) : (setBch f s).pin = s.pin := rfl
@[simp] theorem setBch_batch (f : Bch → Bch) (s : State) : (setBch f s).batch = s.batch := rfl
@[simp] theorem setBch_pd (f : Bch → Bch) (s : State) : (setBch f s).pd = s.pd := rfl
@[simp] theorem setBch_free (f : Bch → Bch) (s : State) : (setBch f s).free = s.free := rfl
@[simp] theorem setBch_pending (f : Bch → Bch) (s : State) : (setBch f s).pending = s.pending := rfl

/-! ### setMsr -/

@[simp] theorem setMsr_sys (f : Msr → Msr) (s : State) : (setMsr f s).sys = s.sys := rfl
@[simp] theorem setMsr_wrm (f : Msr → Msr) (s : State) : (setMsr f s).wrm = s.wrm := rfl
@[simp] theorem setMsr_otp (f : Msr → Msr) (s : State) : (setMsr f s).otp = s.otp := rfl
@[simp] theorem setMsr_tim (f : Msr → Msr) (s : State) : (setMsr f s).tim = s.tim := rfl
@[simp] theorem setMsr_msr (f : Msr → Msr) (s : State) : (setMsr f s).msr = f s.msr := rfl
@[simp] theorem setMsr_lop (f : Msr → Msr) (s : State) : (setMsr f s).lop = s.lop := rfl
@[simp] theorem setMsr_stg (f : Msr → Msr) (s : State) : (setMsr f s).stg = s.stg := rfl
@[simp] theorem setMsr_shr (f : Msr → Msr) (s : State) : (setMsr f s).shr = s.shr := rfl
@[simp] theorem setMsr_leh (f : Msr → Msr) (s : State) : (setMsr f s).leh = s.leh := rfl
@[simp] theorem setMsr_bat (f : Msr → Msr) (s : State) : (setMsr f s).bat = s.bat := rfl
@[simp] theorem setMsr_hsw (f : Msr → Msr) (s : State) : (setMsr f s).hsw = s.hsw := rfl
@[simp] theorem setMsr_seq (f : Msr → Msr) (s : State) : (setMsr f s).seq = s.seq := rfl
@[simp] theorem setMsr_recd (f : Msr → Msr) (s : State) : (setMsr f s).recd = s.recd := rfl
@[simp] theorem setMsr_flt (f : Msr → Msr) (s : State) : (setMsr f s).flt = s.flt := rfl
@[simp] theorem setMsr_mem (f : Msr → Msr) (s : State) : (setMsr f s).mem = s.mem := rfl
@[simp] theorem setMsr_red (f : Msr → Msr) (s : State) : (setMsr f s).red = s.red := rfl
@[simp] theorem setMsr_tie (f : Msr → Msr) (s : State) : (setMsr f s).tie = s.tie := rfl
@[simp] theorem setMsr_pnt (f : Msr → Msr) (s : State) : (setMsr f s).pnt = s.pnt := rfl
@[simp] theorem setMsr_pmb (f : Msr → Msr) (s : State) : (setMsr f s).pmb = s.pmb := rfl
@[simp] theorem setMsr_hst (f : Msr → Msr) (s : State) : (setMsr f s).hst = s.hst := rfl
@[simp] theorem setMsr_bch (f : Msr → Msr) (s : State) : (setMsr f s).bch = s.bch := rfl
@[simp] theorem setMsr_tap (f : Msr → Msr) (s : State) : (setMsr f s).tap = s.tap := rfl
@[simp] theorem setMsr_eng (f : Msr → Msr) (s : State) : (setMsr f s).eng = s.eng := rfl
@[simp] theorem setMsr_pin (f : Msr → Msr) (s : State) : (setMsr f s).pin = s.pin := rfl
@[simp] theorem setMsr_batch (f : Msr → Msr) (s : State) : (setMsr f s).batch = s.batch := rfl
@[simp] theorem setMsr_pd (f : Msr → Msr) (s : State) : (setMsr f s).pd = s.pd := rfl
@[simp] theorem setMsr_free (f : Msr → Msr) (s : State) : (setMsr f s).free = s.free := rfl
@[simp] theorem setMsr_pending (f : Msr → Msr) (s : State) : (setMsr f s).pending = s.pending := rfl

/-! ### setMem -/

@[simp] theorem setMem_sys (f : Mem → Mem) (s : State) : (setMem f s).sys = s.sys := rfl
@[simp] theorem setMem_wrm (f : Mem → Mem) (s : State) : (setMem f s).wrm = s.wrm := rfl
@[simp] theorem setMem_otp (f : Mem → Mem) (s : State) : (setMem f s).otp = s.otp := rfl
@[simp] theorem setMem_tim (f : Mem → Mem) (s : State) : (setMem f s).tim = s.tim := rfl
@[simp] theorem setMem_msr (f : Mem → Mem) (s : State) : (setMem f s).msr = s.msr := rfl
@[simp] theorem setMem_lop (f : Mem → Mem) (s : State) : (setMem f s).lop = s.lop := rfl
@[simp] theorem setMem_stg (f : Mem → Mem) (s : State) : (setMem f s).stg = s.stg := rfl
@[simp] theorem setMem_shr (f : Mem → Mem) (s : State) : (setMem f s).shr = s.shr := rfl
@[simp] theorem setMem_leh (f : Mem → Mem) (s : State) : (setMem f s).leh = s.leh := rfl
@[simp] theorem setMem_bat (f : Mem → Mem) (s : State) : (setMem f s).bat = s.bat := rfl
@[simp] theorem setMem_hsw (f : Mem → Mem) (s : State) : (setMem f s).hsw = s.hsw := rfl
@[simp] theorem setMem_seq (f : Mem → Mem) (s : State) : (setMem f s).seq = s.seq := rfl
@[simp] theorem setMem_recd (f : Mem → Mem) (s : State) : (setMem f s).recd = s.recd := rfl
@[simp] theorem setMem_flt (f : Mem → Mem) (s : State) : (setMem f s).flt = s.flt := rfl
@[simp] theorem setMem_mem (f : Mem → Mem) (s : State) : (setMem f s).mem = f s.mem := rfl
@[simp] theorem setMem_red (f : Mem → Mem) (s : State) : (setMem f s).red = s.red := rfl
@[simp] theorem setMem_tie (f : Mem → Mem) (s : State) : (setMem f s).tie = s.tie := rfl
@[simp] theorem setMem_pnt (f : Mem → Mem) (s : State) : (setMem f s).pnt = s.pnt := rfl
@[simp] theorem setMem_pmb (f : Mem → Mem) (s : State) : (setMem f s).pmb = s.pmb := rfl
@[simp] theorem setMem_hst (f : Mem → Mem) (s : State) : (setMem f s).hst = s.hst := rfl
@[simp] theorem setMem_bch (f : Mem → Mem) (s : State) : (setMem f s).bch = s.bch := rfl
@[simp] theorem setMem_tap (f : Mem → Mem) (s : State) : (setMem f s).tap = s.tap := rfl
@[simp] theorem setMem_eng (f : Mem → Mem) (s : State) : (setMem f s).eng = s.eng := rfl
@[simp] theorem setMem_pin (f : Mem → Mem) (s : State) : (setMem f s).pin = s.pin := rfl
@[simp] theorem setMem_batch (f : Mem → Mem) (s : State) : (setMem f s).batch = s.batch := rfl
@[simp] theorem setMem_pd (f : Mem → Mem) (s : State) : (setMem f s).pd = s.pd := rfl
@[simp] theorem setMem_free (f : Mem → Mem) (s : State) : (setMem f s).free = s.free := rfl
@[simp] theorem setMem_pending (f : Mem → Mem) (s : State) : (setMem f s).pending = s.pending := rfl

/-! ### setRec -/

@[simp] theorem setRec_sys (f : Rec → Rec) (s : State) : (setRec f s).sys = s.sys := rfl
@[simp] theorem setRec_wrm (f : Rec → Rec) (s : State) : (setRec f s).wrm = s.wrm := rfl
@[simp] theorem setRec_otp (f : Rec → Rec) (s : State) : (setRec f s).otp = s.otp := rfl
@[simp] theorem setRec_tim (f : Rec → Rec) (s : State) : (setRec f s).tim = s.tim := rfl
@[simp] theorem setRec_msr (f : Rec → Rec) (s : State) : (setRec f s).msr = s.msr := rfl
@[simp] theorem setRec_lop (f : Rec → Rec) (s : State) : (setRec f s).lop = s.lop := rfl
@[simp] theorem setRec_stg (f : Rec → Rec) (s : State) : (setRec f s).stg = s.stg := rfl
@[simp] theorem setRec_shr (f : Rec → Rec) (s : State) : (setRec f s).shr = s.shr := rfl
@[simp] theorem setRec_leh (f : Rec → Rec) (s : State) : (setRec f s).leh = s.leh := rfl
@[simp] theorem setRec_bat (f : Rec → Rec) (s : State) : (setRec f s).bat = s.bat := rfl
@[simp] theorem setRec_hsw (f : Rec → Rec) (s : State) : (setRec f s).hsw = s.hsw := rfl
@[simp] theorem setRec_seq (f : Rec → Rec) (s : State) : (setRec f s).seq = s.seq := rfl
@[simp] theorem setRec_recd (f : Rec → Rec) (s : State) : (setRec f s).recd = f s.recd := rfl
@[simp] theorem setRec_flt (f : Rec → Rec) (s : State) : (setRec f s).flt = s.flt := rfl
@[simp] theorem setRec_mem (f : Rec → Rec) (s : State) : (setRec f s).mem = s.mem := rfl
@[simp] theorem setRec_red (f : Rec → Rec) (s : State) : (setRec f s).red = s.red := rfl
@[simp] theorem setRec_tie (f : Rec → Rec) (s : State) : (setRec f s).tie = s.tie := rfl
@[simp] theorem setRec_pnt (f : Rec → Rec) (s : State) : (setRec f s).pnt = s.pnt := rfl
@[simp] theorem setRec_pmb (f : Rec → Rec) (s : State) : (setRec f s).pmb = s.pmb := rfl
@[simp] theorem setRec_hst (f : Rec → Rec) (s : State) : (setRec f s).hst = s.hst := rfl
@[simp] theorem setRec_bch (f : Rec → Rec) (s : State) : (setRec f s).bch = s.bch := rfl
@[simp] theorem setRec_tap (f : Rec → Rec) (s : State) : (setRec f s).tap = s.tap := rfl
@[simp] theorem setRec_eng (f : Rec → Rec) (s : State) : (setRec f s).eng = s.eng := rfl
@[simp] theorem setRec_pin (f : Rec → Rec) (s : State) : (setRec f s).pin = s.pin := rfl
@[simp] theorem setRec_batch (f : Rec → Rec) (s : State) : (setRec f s).batch = s.batch := rfl
@[simp] theorem setRec_pd (f : Rec → Rec) (s : State) : (setRec f s).pd = s.pd := rfl
@[simp] theorem setRec_free (f : Rec → Rec) (s : State) : (setRec f s).free = s.free := rfl
@[simp] theorem setRec_pending (f : Rec → Rec) (s : State) : (setRec f s).pending = s.pending := rfl

/-! ### setRed -/

@[simp] theorem setRed_sys (f : Red → Red) (s : State) : (setRed f s).sys = s.sys := rfl
@[simp] theorem setRed_wrm (f : Red → Red) (s : State) : (setRed f s).wrm = s.wrm := rfl
@[simp] theorem setRed_otp (f : Red → Red) (s : State) : (setRed f s).otp = s.otp := rfl
@[simp] theorem setRed_tim (f : Red → Red) (s : State) : (setRed f s).tim = s.tim := rfl
@[simp] theorem setRed_msr (f : Red → Red) (s : State) : (setRed f s).msr = s.msr := rfl
@[simp] theorem setRed_lop (f : Red → Red) (s : State) : (setRed f s).lop = s.lop := rfl
@[simp] theorem setRed_stg (f : Red → Red) (s : State) : (setRed f s).stg = s.stg := rfl
@[simp] theorem setRed_shr (f : Red → Red) (s : State) : (setRed f s).shr = s.shr := rfl
@[simp] theorem setRed_leh (f : Red → Red) (s : State) : (setRed f s).leh = s.leh := rfl
@[simp] theorem setRed_bat (f : Red → Red) (s : State) : (setRed f s).bat = s.bat := rfl
@[simp] theorem setRed_hsw (f : Red → Red) (s : State) : (setRed f s).hsw = s.hsw := rfl
@[simp] theorem setRed_seq (f : Red → Red) (s : State) : (setRed f s).seq = s.seq := rfl
@[simp] theorem setRed_recd (f : Red → Red) (s : State) : (setRed f s).recd = s.recd := rfl
@[simp] theorem setRed_flt (f : Red → Red) (s : State) : (setRed f s).flt = s.flt := rfl
@[simp] theorem setRed_mem (f : Red → Red) (s : State) : (setRed f s).mem = s.mem := rfl
@[simp] theorem setRed_red (f : Red → Red) (s : State) : (setRed f s).red = f s.red := rfl
@[simp] theorem setRed_tie (f : Red → Red) (s : State) : (setRed f s).tie = s.tie := rfl
@[simp] theorem setRed_pnt (f : Red → Red) (s : State) : (setRed f s).pnt = s.pnt := rfl
@[simp] theorem setRed_pmb (f : Red → Red) (s : State) : (setRed f s).pmb = s.pmb := rfl
@[simp] theorem setRed_hst (f : Red → Red) (s : State) : (setRed f s).hst = s.hst := rfl
@[simp] theorem setRed_bch (f : Red → Red) (s : State) : (setRed f s).bch = s.bch := rfl
@[simp] theorem setRed_tap (f : Red → Red) (s : State) : (setRed f s).tap = s.tap := rfl
@[simp] theorem setRed_eng (f : Red → Red) (s : State) : (setRed f s).eng = s.eng := rfl
@[simp] theorem setRed_pin (f : Red → Red) (s : State) : (setRed f s).pin = s.pin := rfl
@[simp] theorem setRed_batch (f : Red → Red) (s : State) : (setRed f s).batch = s.batch := rfl
@[simp] theorem setRed_pd (f : Red → Red) (s : State) : (setRed f s).pd = s.pd := rfl
@[simp] theorem setRed_free (f : Red → Red) (s : State) : (setRed f s).free = s.free := rfl
@[simp] theorem setRed_pending (f : Red → Red) (s : State) : (setRed f s).pending = s.pending := rfl

/-! ### setHst -/

@[simp] theorem setHst_sys (f : Hst → Hst) (s : State) : (setHst f s).sys = s.sys := rfl
@[simp] theorem setHst_wrm (f : Hst → Hst) (s : State) : (setHst f s).wrm = s.wrm := rfl
@[simp] theorem setHst_otp (f : Hst → Hst) (s : State) : (setHst f s).otp = s.otp := rfl
@[simp] theorem setHst_tim (f : Hst → Hst) (s : State) : (setHst f s).tim = s.tim := rfl
@[simp] theorem setHst_msr (f : Hst → Hst) (s : State) : (setHst f s).msr = s.msr := rfl
@[simp] theorem setHst_lop (f : Hst → Hst) (s : State) : (setHst f s).lop = s.lop := rfl
@[simp] theorem setHst_stg (f : Hst → Hst) (s : State) : (setHst f s).stg = s.stg := rfl
@[simp] theorem setHst_shr (f : Hst → Hst) (s : State) : (setHst f s).shr = s.shr := rfl
@[simp] theorem setHst_leh (f : Hst → Hst) (s : State) : (setHst f s).leh = s.leh := rfl
@[simp] theorem setHst_bat (f : Hst → Hst) (s : State) : (setHst f s).bat = s.bat := rfl
@[simp] theorem setHst_hsw (f : Hst → Hst) (s : State) : (setHst f s).hsw = s.hsw := rfl
@[simp] theorem setHst_seq (f : Hst → Hst) (s : State) : (setHst f s).seq = s.seq := rfl
@[simp] theorem setHst_recd (f : Hst → Hst) (s : State) : (setHst f s).recd = s.recd := rfl
@[simp] theorem setHst_flt (f : Hst → Hst) (s : State) : (setHst f s).flt = s.flt := rfl
@[simp] theorem setHst_mem (f : Hst → Hst) (s : State) : (setHst f s).mem = s.mem := rfl
@[simp] theorem setHst_red (f : Hst → Hst) (s : State) : (setHst f s).red = s.red := rfl
@[simp] theorem setHst_tie (f : Hst → Hst) (s : State) : (setHst f s).tie = s.tie := rfl
@[simp] theorem setHst_pnt (f : Hst → Hst) (s : State) : (setHst f s).pnt = s.pnt := rfl
@[simp] theorem setHst_pmb (f : Hst → Hst) (s : State) : (setHst f s).pmb = s.pmb := rfl
@[simp] theorem setHst_hst (f : Hst → Hst) (s : State) : (setHst f s).hst = f s.hst := rfl
@[simp] theorem setHst_bch (f : Hst → Hst) (s : State) : (setHst f s).bch = s.bch := rfl
@[simp] theorem setHst_tap (f : Hst → Hst) (s : State) : (setHst f s).tap = s.tap := rfl
@[simp] theorem setHst_eng (f : Hst → Hst) (s : State) : (setHst f s).eng = s.eng := rfl
@[simp] theorem setHst_pin (f : Hst → Hst) (s : State) : (setHst f s).pin = s.pin := rfl
@[simp] theorem setHst_batch (f : Hst → Hst) (s : State) : (setHst f s).batch = s.batch := rfl
@[simp] theorem setHst_pd (f : Hst → Hst) (s : State) : (setHst f s).pd = s.pd := rfl
@[simp] theorem setHst_free (f : Hst → Hst) (s : State) : (setHst f s).free = s.free := rfl
@[simp] theorem setHst_pending (f : Hst → Hst) (s : State) : (setHst f s).pending = s.pending := rfl

/-! ### setSeq -/

@[simp] theorem setSeq_sys (f : Seq → Seq) (s : State) : (setSeq f s).sys = s.sys := rfl
@[simp] theorem setSeq_wrm (f : Seq → Seq) (s : State) : (setSeq f s).wrm = s.wrm := rfl
@[simp] theorem setSeq_otp (f : Seq → Seq) (s : State) : (setSeq f s).otp = s.otp := rfl
@[simp] theorem setSeq_tim (f : Seq → Seq) (s : State) : (setSeq f s).tim = s.tim := rfl
@[simp] theorem setSeq_msr (f : Seq → Seq) (s : State) : (setSeq f s).msr = s.msr := rfl
@[simp] theorem setSeq_lop (f : Seq → Seq) (s : State) : (setSeq f s).lop = s.lop := rfl
@[simp] theorem setSeq_stg (f : Seq → Seq) (s : State) : (setSeq f s).stg = s.stg := rfl
@[simp] theorem setSeq_shr (f : Seq → Seq) (s : State) : (setSeq f s).shr = s.shr := rfl
@[simp] theorem setSeq_leh (f : Seq → Seq) (s : State) : (setSeq f s).leh = s.leh := rfl
@[simp] theorem setSeq_bat (f : Seq → Seq) (s : State) : (setSeq f s).bat = s.bat := rfl
@[simp] theorem setSeq_hsw (f : Seq → Seq) (s : State) : (setSeq f s).hsw = s.hsw := rfl
@[simp] theorem setSeq_seq (f : Seq → Seq) (s : State) : (setSeq f s).seq = f s.seq := rfl
@[simp] theorem setSeq_recd (f : Seq → Seq) (s : State) : (setSeq f s).recd = s.recd := rfl
@[simp] theorem setSeq_flt (f : Seq → Seq) (s : State) : (setSeq f s).flt = s.flt := rfl
@[simp] theorem setSeq_mem (f : Seq → Seq) (s : State) : (setSeq f s).mem = s.mem := rfl
@[simp] theorem setSeq_red (f : Seq → Seq) (s : State) : (setSeq f s).red = s.red := rfl
@[simp] theorem setSeq_tie (f : Seq → Seq) (s : State) : (setSeq f s).tie = s.tie := rfl
@[simp] theorem setSeq_pnt (f : Seq → Seq) (s : State) : (setSeq f s).pnt = s.pnt := rfl
@[simp] theorem setSeq_pmb (f : Seq → Seq) (s : State) : (setSeq f s).pmb = s.pmb := rfl
@[simp] theorem setSeq_hst (f : Seq → Seq) (s : State) : (setSeq f s).hst = s.hst := rfl
@[simp] theorem setSeq_bch (f : Seq → Seq) (s : State) : (setSeq f s).bch = s.bch := rfl
@[simp] theorem setSeq_tap (f : Seq → Seq) (s : State) : (setSeq f s).tap = s.tap := rfl
@[simp] theorem setSeq_eng (f : Seq → Seq) (s : State) : (setSeq f s).eng = s.eng := rfl
@[simp] theorem setSeq_pin (f : Seq → Seq) (s : State) : (setSeq f s).pin = s.pin := rfl
@[simp] theorem setSeq_batch (f : Seq → Seq) (s : State) : (setSeq f s).batch = s.batch := rfl
@[simp] theorem setSeq_pd (f : Seq → Seq) (s : State) : (setSeq f s).pd = s.pd := rfl
@[simp] theorem setSeq_free (f : Seq → Seq) (s : State) : (setSeq f s).free = s.free := rfl
@[simp] theorem setSeq_pending (f : Seq → Seq) (s : State) : (setSeq f s).pending = s.pending := rfl

/-! ### setTim -/

@[simp] theorem setTim_sys (f : Tim → Tim) (s : State) : (setTim f s).sys = s.sys := rfl
@[simp] theorem setTim_wrm (f : Tim → Tim) (s : State) : (setTim f s).wrm = s.wrm := rfl
@[simp] theorem setTim_otp (f : Tim → Tim) (s : State) : (setTim f s).otp = s.otp := rfl
@[simp] theorem setTim_tim (f : Tim → Tim) (s : State) : (setTim f s).tim = f s.tim := rfl
@[simp] theorem setTim_msr (f : Tim → Tim) (s : State) : (setTim f s).msr = s.msr := rfl
@[simp] theorem setTim_lop (f : Tim → Tim) (s : State) : (setTim f s).lop = s.lop := rfl
@[simp] theorem setTim_stg (f : Tim → Tim) (s : State) : (setTim f s).stg = s.stg := rfl
@[simp] theorem setTim_shr (f : Tim → Tim) (s : State) : (setTim f s).shr = s.shr := rfl
@[simp] theorem setTim_leh (f : Tim → Tim) (s : State) : (setTim f s).leh = s.leh := rfl
@[simp] theorem setTim_bat (f : Tim → Tim) (s : State) : (setTim f s).bat = s.bat := rfl
@[simp] theorem setTim_hsw (f : Tim → Tim) (s : State) : (setTim f s).hsw = s.hsw := rfl
@[simp] theorem setTim_seq (f : Tim → Tim) (s : State) : (setTim f s).seq = s.seq := rfl
@[simp] theorem setTim_recd (f : Tim → Tim) (s : State) : (setTim f s).recd = s.recd := rfl
@[simp] theorem setTim_flt (f : Tim → Tim) (s : State) : (setTim f s).flt = s.flt := rfl
@[simp] theorem setTim_mem (f : Tim → Tim) (s : State) : (setTim f s).mem = s.mem := rfl
@[simp] theorem setTim_red (f : Tim → Tim) (s : State) : (setTim f s).red = s.red := rfl
@[simp] theorem setTim_tie (f : Tim → Tim) (s : State) : (setTim f s).tie = s.tie := rfl
@[simp] theorem setTim_pnt (f : Tim → Tim) (s : State) : (setTim f s).pnt = s.pnt := rfl
@[simp] theorem setTim_pmb (f : Tim → Tim) (s : State) : (setTim f s).pmb = s.pmb := rfl
@[simp] theorem setTim_hst (f : Tim → Tim) (s : State) : (setTim f s).hst = s.hst := rfl
@[simp] theorem setTim_bch (f : Tim → Tim) (s : State) : (setTim f s).bch = s.bch := rfl
@[simp] theorem setTim_tap (f : Tim → Tim) (s : State) : (setTim f s).tap = s.tap := rfl
@[simp] theorem setTim_eng (f : Tim → Tim) (s : State) : (setTim f s).eng = s.eng := rfl
@[simp] theorem setTim_pin (f : Tim → Tim) (s : State) : (setTim f s).pin = s.pin := rfl
@[simp] theorem setTim_batch (f : Tim → Tim) (s : State) : (setTim f s).batch = s.batch := rfl
@[simp] theorem setTim_pd (f : Tim → Tim) (s : State) : (setTim f s).pd = s.pd := rfl
@[simp] theorem setTim_free (f : Tim → Tim) (s : State) : (setTim f s).free = s.free := rfl
@[simp] theorem setTim_pending (f : Tim → Tim) (s : State) : (setTim f s).pending = s.pending := rfl

/-! ### setWrm -/

@[simp] theorem setWrm_sys (f : Warmer → Warmer) (s : State) : (setWrm f s).sys = s.sys := rfl
@[simp] theorem setWrm_wrm (f : Warmer → Warmer) (s : State) : (setWrm f s).wrm = f s.wrm := rfl
@[simp] theorem setWrm_otp (f : Warmer → Warmer) (s : State) : (setWrm f s).otp = s.otp := rfl
@[simp] theorem setWrm_tim (f : Warmer → Warmer) (s : State) : (setWrm f s).tim = s.tim := rfl
@[simp] theorem setWrm_msr (f : Warmer → Warmer) (s : State) : (setWrm f s).msr = s.msr := rfl
@[simp] theorem setWrm_lop (f : Warmer → Warmer) (s : State) : (setWrm f s).lop = s.lop := rfl
@[simp] theorem setWrm_stg (f : Warmer → Warmer) (s : State) : (setWrm f s).stg = s.stg := rfl
@[simp] theorem setWrm_shr (f : Warmer → Warmer) (s : State) : (setWrm f s).shr = s.shr := rfl
@[simp] theorem setWrm_leh (f : Warmer → Warmer) (s : State) : (setWrm f s).leh = s.leh := rfl
@[simp] theorem setWrm_bat (f : Warmer → Warmer) (s : State) : (setWrm f s).bat = s.bat := rfl
@[simp] theorem setWrm_hsw (f : Warmer → Warmer) (s : State) : (setWrm f s).hsw = s.hsw := rfl
@[simp] theorem setWrm_seq (f : Warmer → Warmer) (s : State) : (setWrm f s).seq = s.seq := rfl
@[simp] theorem setWrm_recd (f : Warmer → Warmer) (s : State) : (setWrm f s).recd = s.recd := rfl
@[simp] theorem setWrm_flt (f : Warmer → Warmer) (s : State) : (setWrm f s).flt = s.flt := rfl
@[simp] theorem setWrm_mem (f : Warmer → Warmer) (s : State) : (setWrm f s).mem = s.mem := rfl
@[simp] theorem setWrm_red (f : Warmer → Warmer) (s : State) : (setWrm f s).red = s.red := rfl
@[simp] theorem setWrm_tie (f : Warmer → Warmer) (s : State) : (setWrm f s).tie = s.tie := rfl
@[simp] theorem setWrm_pnt (f : Warmer → Warmer) (s : State) : (setWrm f s).pnt = s.pnt := rfl
@[simp] theorem setWrm_pmb (f : Warmer → Warmer) (s : State) : (setWrm f s).pmb = s.pmb := rfl
@[simp] theorem setWrm_hst (f : Warmer → Warmer) (s : State) : (setWrm f s).hst = s.hst := rfl
@[simp] theorem setWrm_bch (f : Warmer → Warmer) (s : State) : (setWrm f s).bch = s.bch := rfl
@[simp] theorem setWrm_tap (f : Warmer → Warmer) (s : State) : (setWrm f s).tap = s.tap := rfl
@[simp] theorem setWrm_eng (f : Warmer → Warmer) (s : State) : (setWrm f s).eng = s.eng := rfl
@[simp] theorem setWrm_pin (f : Warmer → Warmer) (s : State) : (setWrm f s).pin = s.pin := rfl
@[simp] theorem setWrm_batch (f : Warmer → Warmer) (s : State) : (setWrm f s).batch = s.batch := rfl
@[simp] theorem setWrm_pd (f : Warmer → Warmer) (s : State) : (setWrm f s).pd = s.pd := rfl
@[simp] theorem setWrm_free (f : Warmer → Warmer) (s : State) : (setWrm f s).free = s.free := rfl
@[simp] theorem setWrm_pending (f : Warmer → Warmer) (s : State) : (setWrm f s).pending = s.pending := rfl

/-! ### setLehr -/

@[simp] theorem setLehr_sys (f : LehrSt → LehrSt) (s : State) : (setLehr f s).sys = s.sys := rfl
@[simp] theorem setLehr_wrm (f : LehrSt → LehrSt) (s : State) : (setLehr f s).wrm = s.wrm := rfl
@[simp] theorem setLehr_otp (f : LehrSt → LehrSt) (s : State) : (setLehr f s).otp = s.otp := rfl
@[simp] theorem setLehr_tim (f : LehrSt → LehrSt) (s : State) : (setLehr f s).tim = s.tim := rfl
@[simp] theorem setLehr_msr (f : LehrSt → LehrSt) (s : State) : (setLehr f s).msr = s.msr := rfl
@[simp] theorem setLehr_lop (f : LehrSt → LehrSt) (s : State) : (setLehr f s).lop = s.lop := rfl
@[simp] theorem setLehr_stg (f : LehrSt → LehrSt) (s : State) : (setLehr f s).stg = s.stg := rfl
@[simp] theorem setLehr_shr (f : LehrSt → LehrSt) (s : State) : (setLehr f s).shr = s.shr := rfl
@[simp] theorem setLehr_leh (f : LehrSt → LehrSt) (s : State) : (setLehr f s).leh = { s.leh with nxt := f s.leh.nxt } := rfl
@[simp] theorem setLehr_bat (f : LehrSt → LehrSt) (s : State) : (setLehr f s).bat = s.bat := rfl
@[simp] theorem setLehr_hsw (f : LehrSt → LehrSt) (s : State) : (setLehr f s).hsw = s.hsw := rfl
@[simp] theorem setLehr_seq (f : LehrSt → LehrSt) (s : State) : (setLehr f s).seq = s.seq := rfl
@[simp] theorem setLehr_recd (f : LehrSt → LehrSt) (s : State) : (setLehr f s).recd = s.recd := rfl
@[simp] theorem setLehr_flt (f : LehrSt → LehrSt) (s : State) : (setLehr f s).flt = s.flt := rfl
@[simp] theorem setLehr_mem (f : LehrSt → LehrSt) (s : State) : (setLehr f s).mem = s.mem := rfl
@[simp] theorem setLehr_red (f : LehrSt → LehrSt) (s : State) : (setLehr f s).red = s.red := rfl
@[simp] theorem setLehr_tie (f : LehrSt → LehrSt) (s : State) : (setLehr f s).tie = s.tie := rfl
@[simp] theorem setLehr_pnt (f : LehrSt → LehrSt) (s : State) : (setLehr f s).pnt = s.pnt := rfl
@[simp] theorem setLehr_pmb (f : LehrSt → LehrSt) (s : State) : (setLehr f s).pmb = s.pmb := rfl
@[simp] theorem setLehr_hst (f : LehrSt → LehrSt) (s : State) : (setLehr f s).hst = s.hst := rfl
@[simp] theorem setLehr_bch (f : LehrSt → LehrSt) (s : State) : (setLehr f s).bch = s.bch := rfl
@[simp] theorem setLehr_tap (f : LehrSt → LehrSt) (s : State) : (setLehr f s).tap = s.tap := rfl
@[simp] theorem setLehr_eng (f : LehrSt → LehrSt) (s : State) : (setLehr f s).eng = s.eng := rfl
@[simp] theorem setLehr_pin (f : LehrSt → LehrSt) (s : State) : (setLehr f s).pin = s.pin := rfl
@[simp] theorem setLehr_batch (f : LehrSt → LehrSt) (s : State) : (setLehr f s).batch = s.batch := rfl
@[simp] theorem setLehr_pd (f : LehrSt → LehrSt) (s : State) : (setLehr f s).pd = s.pd := rfl
@[simp] theorem setLehr_free (f : LehrSt → LehrSt) (s : State) : (setLehr f s).free = s.free := rfl
@[simp] theorem setLehr_pending (f : LehrSt → LehrSt) (s : State) : (setLehr f s).pending = s.pending := rfl

/-! ### setHold -/

@[simp] theorem setHold_sys (f : HoldUp → HoldUp) (s : State) : (setHold f s).sys = s.sys := rfl
@[simp] theorem setHold_wrm (f : HoldUp → HoldUp) (s : State) : (setHold f s).wrm = s.wrm := rfl
@[simp] theorem setHold_otp (f : HoldUp → HoldUp) (s : State) : (setHold f s).otp = s.otp := rfl
@[simp] theorem setHold_tim (f : HoldUp → HoldUp) (s : State) : (setHold f s).tim = s.tim := rfl
@[simp] theorem setHold_msr (f : HoldUp → HoldUp) (s : State) : (setHold f s).msr = s.msr := rfl
@[simp] theorem setHold_lop (f : HoldUp → HoldUp) (s : State) : (setHold f s).lop = s.lop := rfl
@[simp] theorem setHold_stg (f : HoldUp → HoldUp) (s : State) : (setHold f s).stg = s.stg := rfl
@[simp] theorem setHold_shr (f : HoldUp → HoldUp) (s : State) : (setHold f s).shr = { s.shr with hold := f s.shr.hold } := rfl
@[simp] theorem setHold_leh (f : HoldUp → HoldUp) (s : State) : (setHold f s).leh = s.leh := rfl
@[simp] theorem setHold_bat (f : HoldUp → HoldUp) (s : State) : (setHold f s).bat = s.bat := rfl
@[simp] theorem setHold_hsw (f : HoldUp → HoldUp) (s : State) : (setHold f s).hsw = s.hsw := rfl
@[simp] theorem setHold_seq (f : HoldUp → HoldUp) (s : State) : (setHold f s).seq = s.seq := rfl
@[simp] theorem setHold_recd (f : HoldUp → HoldUp) (s : State) : (setHold f s).recd = s.recd := rfl
@[simp] theorem setHold_flt (f : HoldUp → HoldUp) (s : State) : (setHold f s).flt = s.flt := rfl
@[simp] theorem setHold_mem (f : HoldUp → HoldUp) (s : State) : (setHold f s).mem = s.mem := rfl
@[simp] theorem setHold_red (f : HoldUp → HoldUp) (s : State) : (setHold f s).red = s.red := rfl
@[simp] theorem setHold_tie (f : HoldUp → HoldUp) (s : State) : (setHold f s).tie = s.tie := rfl
@[simp] theorem setHold_pnt (f : HoldUp → HoldUp) (s : State) : (setHold f s).pnt = s.pnt := rfl
@[simp] theorem setHold_pmb (f : HoldUp → HoldUp) (s : State) : (setHold f s).pmb = s.pmb := rfl
@[simp] theorem setHold_hst (f : HoldUp → HoldUp) (s : State) : (setHold f s).hst = s.hst := rfl
@[simp] theorem setHold_bch (f : HoldUp → HoldUp) (s : State) : (setHold f s).bch = s.bch := rfl
@[simp] theorem setHold_tap (f : HoldUp → HoldUp) (s : State) : (setHold f s).tap = s.tap := rfl
@[simp] theorem setHold_eng (f : HoldUp → HoldUp) (s : State) : (setHold f s).eng = s.eng := rfl
@[simp] theorem setHold_pin (f : HoldUp → HoldUp) (s : State) : (setHold f s).pin = s.pin := rfl
@[simp] theorem setHold_batch (f : HoldUp → HoldUp) (s : State) : (setHold f s).batch = s.batch := rfl
@[simp] theorem setHold_pd (f : HoldUp → HoldUp) (s : State) : (setHold f s).pd = s.pd := rfl
@[simp] theorem setHold_free (f : HoldUp → HoldUp) (s : State) : (setHold f s).free = s.free := rfl
@[simp] theorem setHold_pending (f : HoldUp → HoldUp) (s : State) : (setHold f s).pending = s.pending := rfl

/-! ### setMar -/

@[simp] theorem setMar_sys (f : MarverSt → MarverSt) (s : State) : (setMar f s).sys = s.sys := rfl
@[simp] theorem setMar_wrm (f : MarverSt → MarverSt) (s : State) : (setMar f s).wrm = s.wrm := rfl
@[simp] theorem setMar_otp (f : MarverSt → MarverSt) (s : State) : (setMar f s).otp = s.otp := rfl
@[simp] theorem setMar_tim (f : MarverSt → MarverSt) (s : State) : (setMar f s).tim = s.tim := rfl
@[simp] theorem setMar_msr (f : MarverSt → MarverSt) (s : State) : (setMar f s).msr = s.msr := rfl
@[simp] theorem setMar_lop (f : MarverSt → MarverSt) (s : State) : (setMar f s).lop = s.lop := rfl
@[simp] theorem setMar_stg (f : MarverSt → MarverSt) (s : State) : (setMar f s).stg = s.stg := rfl
@[simp] theorem setMar_shr (f : MarverSt → MarverSt) (s : State) : (setMar f s).shr = { s.shr with nxt := f s.shr.nxt } := rfl
@[simp] theorem setMar_leh (f : MarverSt → MarverSt) (s : State) : (setMar f s).leh = s.leh := rfl
@[simp] theorem setMar_bat (f : MarverSt → MarverSt) (s : State) : (setMar f s).bat = s.bat := rfl
@[simp] theorem setMar_hsw (f : MarverSt → MarverSt) (s : State) : (setMar f s).hsw = s.hsw := rfl
@[simp] theorem setMar_seq (f : MarverSt → MarverSt) (s : State) : (setMar f s).seq = s.seq := rfl
@[simp] theorem setMar_recd (f : MarverSt → MarverSt) (s : State) : (setMar f s).recd = s.recd := rfl
@[simp] theorem setMar_flt (f : MarverSt → MarverSt) (s : State) : (setMar f s).flt = s.flt := rfl
@[simp] theorem setMar_mem (f : MarverSt → MarverSt) (s : State) : (setMar f s).mem = s.mem := rfl
@[simp] theorem setMar_red (f : MarverSt → MarverSt) (s : State) : (setMar f s).red = s.red := rfl
@[simp] theorem setMar_tie (f : MarverSt → MarverSt) (s : State) : (setMar f s).tie = s.tie := rfl
@[simp] theorem setMar_pnt (f : MarverSt → MarverSt) (s : State) : (setMar f s).pnt = s.pnt := rfl
@[simp] theorem setMar_pmb (f : MarverSt → MarverSt) (s : State) : (setMar f s).pmb = s.pmb := rfl
@[simp] theorem setMar_hst (f : MarverSt → MarverSt) (s : State) : (setMar f s).hst = s.hst := rfl
@[simp] theorem setMar_bch (f : MarverSt → MarverSt) (s : State) : (setMar f s).bch = s.bch := rfl
@[simp] theorem setMar_tap (f : MarverSt → MarverSt) (s : State) : (setMar f s).tap = s.tap := rfl
@[simp] theorem setMar_eng (f : MarverSt → MarverSt) (s : State) : (setMar f s).eng = s.eng := rfl
@[simp] theorem setMar_pin (f : MarverSt → MarverSt) (s : State) : (setMar f s).pin = s.pin := rfl
@[simp] theorem setMar_batch (f : MarverSt → MarverSt) (s : State) : (setMar f s).batch = s.batch := rfl
@[simp] theorem setMar_pd (f : MarverSt → MarverSt) (s : State) : (setMar f s).pd = s.pd := rfl
@[simp] theorem setMar_free (f : MarverSt → MarverSt) (s : State) : (setMar f s).free = s.free := rfl
@[simp] theorem setMar_pending (f : MarverSt → MarverSt) (s : State) : (setMar f s).pending = s.pending := rfl

/-! ### setStr -/

@[simp] theorem setStr_sys (n : Nat) (f : BatString → BatString) (s : State) : (setStr n f s).sys = s.sys := rfl
@[simp] theorem setStr_wrm (n : Nat) (f : BatString → BatString) (s : State) : (setStr n f s).wrm = s.wrm := rfl
@[simp] theorem setStr_otp (n : Nat) (f : BatString → BatString) (s : State) : (setStr n f s).otp = s.otp := rfl
@[simp] theorem setStr_tim (n : Nat) (f : BatString → BatString) (s : State) : (setStr n f s).tim = s.tim := rfl
@[simp] theorem setStr_msr (n : Nat) (f : BatString → BatString) (s : State) : (setStr n f s).msr = s.msr := rfl
@[simp] theorem setStr_lop (n : Nat) (f : BatString → BatString) (s : State) : (setStr n f s).lop = s.lop := rfl
@[simp] theorem setStr_stg (n : Nat) (f : BatString → BatString) (s : State) : (setStr n f s).stg = s.stg := rfl
@[simp] theorem setStr_shr (n : Nat) (f : BatString → BatString) (s : State) : (setStr n f s).shr = s.shr := rfl
@[simp] theorem setStr_leh (n : Nat) (f : BatString → BatString) (s : State) : (setStr n f s).leh = s.leh := rfl
@[simp] theorem setStr_bat (n : Nat) (f : BatString → BatString) (s : State) : (setStr n f s).bat = { s.bat with nxt := { s.bat.nxt with strings := s.bat.nxt.strings.modify n f } } := rfl
@[simp] theorem setStr_hsw (n : Nat) (f : BatString → BatString) (s : State) : (setStr n f s).hsw = s.hsw := rfl
@[simp] theorem setStr_seq (n : Nat) (f : BatString → BatString) (s : State) : (setStr n f s).seq = s.seq := rfl
@[simp] theorem setStr_recd (n : Nat) (f : BatString → BatString) (s : State) : (setStr n f s).recd = s.recd := rfl
@[simp] theorem setStr_flt (n : Nat) (f : BatString → BatString) (s : State) : (setStr n f s).flt = s.flt := rfl
@[simp] theorem setStr_mem (n : Nat) (f : BatString → BatString) (s : State) : (setStr n f s).mem = s.mem := rfl
@[simp] theorem setStr_red (n : Nat) (f : BatString → BatString) (s : State) : (setStr n f s).red = s.red := rfl
@[simp] theorem setStr_tie (n : Nat) (f : BatString → BatString) (s : State) : (setStr n f s).tie = s.tie := rfl
@[simp] theorem setStr_pnt (n : Nat) (f : BatString → BatString) (s : State) : (setStr n f s).pnt = s.pnt := rfl
@[simp] theorem setStr_pmb (n : Nat) (f : BatString → BatString) (s : State) : (setStr n f s).pmb = s.pmb := rfl
@[simp] theorem setStr_hst (n : Nat) (f : BatString → BatString) (s : State) : (setStr n f s).hst = s.hst := rfl
@[simp] theorem setStr_bch (n : Nat) (f : BatString → BatString) (s : State) : (setStr n f s).bch = s.bch := rfl
@[simp] theorem setStr_tap (n : Nat) (f : BatString → BatString) (s : State) : (setStr n f s).tap = s.tap := rfl
@[simp] theorem setStr_eng (n : Nat) (f : BatString → BatString) (s : State) : (setStr n f s).eng = s.eng := rfl
@[simp] theorem setStr_pin (n : Nat) (f : BatString → BatString) (s : State) : (setStr n f s).pin = s.pin := rfl
@[simp] theorem setStr_batch (n : Nat) (f : BatString → BatString) (s : State) : (setStr n f s).batch = s.batch := rfl
@[simp] theorem setStr_pd (n : Nat) (f : BatString → BatString) (s : State) : (setStr n f s).pd = s.pd := rfl
@[simp] theorem setStr_free (n : Nat) (f : BatString → BatString) (s : State) : (setStr n f s).free = s.free := rfl
@[simp] theorem setStr_pending (n : Nat) (f : BatString → BatString) (s : State) : (setStr n f s).pending = s.pending := rfl

/-! ### setModule -/

@[simp] theorem setModule_sys (n : Nat) (f : BatModule → BatModule) (s : State) : (setModule n f s).sys = s.sys := rfl
@[simp] theorem setModule_wrm (n : Nat) (f : BatModule → BatModule) (s : State) : (setModule n f s).wrm = s.wrm := rfl
@[simp] theorem setModule_otp (n : Nat) (f : BatModule → BatModule) (s : State) : (setModule n f s).otp = s.otp := rfl
@[simp] theorem setModule_tim (n : Nat) (f : BatModule → BatModule) (s : State) : (setModule n f s).tim = s.tim := rfl
@[simp] theorem setModule_msr (n : Nat) (f : BatModule → BatModule) (s : State) : (setModule n f s).msr = s.msr := rfl
@[simp] theorem setModule_lop (n : Nat) (f : BatModule → BatModule) (s : State) : (setModule n f s).lop = s.lop := rfl
@[simp] theorem setModule_stg (n : Nat) (f : BatModule → BatModule) (s : State) : (setModule n f s).stg = s.stg := rfl
@[simp] theorem setModule_shr (n : Nat) (f : BatModule → BatModule) (s : State) : (setModule n f s).shr = s.shr := rfl
@[simp] theorem setModule_leh (n : Nat) (f : BatModule → BatModule) (s : State) : (setModule n f s).leh = s.leh := rfl
@[simp] theorem setModule_bat (n : Nat) (f : BatModule → BatModule) (s : State) : (setModule n f s).bat = { s.bat with modules := s.bat.modules.modify n f } := rfl
@[simp] theorem setModule_hsw (n : Nat) (f : BatModule → BatModule) (s : State) : (setModule n f s).hsw = s.hsw := rfl
@[simp] theorem setModule_seq (n : Nat) (f : BatModule → BatModule) (s : State) : (setModule n f s).seq = s.seq := rfl
@[simp] theorem setModule_recd (n : Nat) (f : BatModule → BatModule) (s : State) : (setModule n f s).recd = s.recd := rfl
@[simp] theorem setModule_flt (n : Nat) (f : BatModule → BatModule) (s : State) : (setModule n f s).flt = s.flt := rfl
@[simp] theorem setModule_mem (n : Nat) (f : BatModule → BatModule) (s : State) : (setModule n f s).mem = s.mem := rfl
@[simp] theorem setModule_red (n : Nat) (f : BatModule → BatModule) (s : State) : (setModule n f s).red = s.red := rfl
@[simp] theorem setModule_tie (n : Nat) (f : BatModule → BatModule) (s : State) : (setModule n f s).tie = s.tie := rfl
@[simp] theorem setModule_pnt (n : Nat) (f : BatModule → BatModule) (s : State) : (setModule n f s).pnt = s.pnt := rfl
@[simp] theorem setModule_pmb (n : Nat) (f : BatModule → BatModule) (s : State) : (setModule n f s).pmb = s.pmb := rfl
@[simp] theorem setModule_hst (n : Nat) (f : BatModule → BatModule) (s : State) : (setModule n f s).hst = s.hst := rfl
@[simp] theorem setModule_bch (n : Nat) (f : BatModule → BatModule) (s : State) : (setModule n f s).bch = s.bch := rfl
@[simp] theorem setModule_tap (n : Nat) (f : BatModule → BatModule) (s : State) : (setModule n f s).tap = s.tap := rfl
@[simp] theorem setModule_eng (n : Nat) (f : BatModule → BatModule) (s : State) : (setModule n f s).eng = s.eng := rfl
@[simp] theorem setModule_pin (n : Nat) (f : BatModule → BatModule) (s : State) : (setModule n f s).pin = s.pin := rfl
@[simp] theorem setModule_batch (n : Nat) (f : BatModule → BatModule) (s : State) : (setModule n f s).batch = s.batch := rfl
@[simp] theorem setModule_pd (n : Nat) (f : BatModule → BatModule) (s : State) : (setModule n f s).pd = s.pd := rfl
@[simp] theorem setModule_free (n : Nat) (f : BatModule → BatModule) (s : State) : (setModule n f s).free = s.free := rfl
@[simp] theorem setModule_pending (n : Nat) (f : BatModule → BatModule) (s : State) : (setModule n f s).pending = s.pending := rfl

/-! ### setCane -/

@[simp] theorem setCane_sys (n : Nat) (f : CanePort → CanePort) (s : State) : (setCane n f s).sys = s.sys := rfl
@[simp] theorem setCane_wrm (n : Nat) (f : CanePort → CanePort) (s : State) : (setCane n f s).wrm = s.wrm := rfl
@[simp] theorem setCane_otp (n : Nat) (f : CanePort → CanePort) (s : State) : (setCane n f s).otp = s.otp := rfl
@[simp] theorem setCane_tim (n : Nat) (f : CanePort → CanePort) (s : State) : (setCane n f s).tim = s.tim := rfl
@[simp] theorem setCane_msr (n : Nat) (f : CanePort → CanePort) (s : State) : (setCane n f s).msr = s.msr := rfl
@[simp] theorem setCane_lop (n : Nat) (f : CanePort → CanePort) (s : State) : (setCane n f s).lop = s.lop := rfl
@[simp] theorem setCane_stg (n : Nat) (f : CanePort → CanePort) (s : State) : (setCane n f s).stg = s.stg := rfl
@[simp] theorem setCane_shr (n : Nat) (f : CanePort → CanePort) (s : State) : (setCane n f s).shr = s.shr := rfl
@[simp] theorem setCane_leh (n : Nat) (f : CanePort → CanePort) (s : State) : (setCane n f s).leh = s.leh := rfl
@[simp] theorem setCane_bat (n : Nat) (f : CanePort → CanePort) (s : State) : (setCane n f s).bat = s.bat := rfl
@[simp] theorem setCane_hsw (n : Nat) (f : CanePort → CanePort) (s : State) : (setCane n f s).hsw = s.hsw := rfl
@[simp] theorem setCane_seq (n : Nat) (f : CanePort → CanePort) (s : State) : (setCane n f s).seq = s.seq := rfl
@[simp] theorem setCane_recd (n : Nat) (f : CanePort → CanePort) (s : State) : (setCane n f s).recd = s.recd := rfl
@[simp] theorem setCane_flt (n : Nat) (f : CanePort → CanePort) (s : State) : (setCane n f s).flt = s.flt := rfl
@[simp] theorem setCane_mem (n : Nat) (f : CanePort → CanePort) (s : State) : (setCane n f s).mem = s.mem := rfl
@[simp] theorem setCane_red (n : Nat) (f : CanePort → CanePort) (s : State) : (setCane n f s).red = s.red := rfl
@[simp] theorem setCane_tie (n : Nat) (f : CanePort → CanePort) (s : State) : (setCane n f s).tie = s.tie := rfl
@[simp] theorem setCane_pnt (n : Nat) (f : CanePort → CanePort) (s : State) : (setCane n f s).pnt = { s.pnt with ports := s.pnt.ports.modify n f } := rfl
@[simp] theorem setCane_pmb (n : Nat) (f : CanePort → CanePort) (s : State) : (setCane n f s).pmb = s.pmb := rfl
@[simp] theorem setCane_hst (n : Nat) (f : CanePort → CanePort) (s : State) : (setCane n f s).hst = s.hst := rfl
@[simp] theorem setCane_bch (n : Nat) (f : CanePort → CanePort) (s : State) : (setCane n f s).bch = s.bch := rfl
@[simp] theorem setCane_tap (n : Nat) (f : CanePort → CanePort) (s : State) : (setCane n f s).tap = s.tap := rfl
@[simp] theorem setCane_eng (n : Nat) (f : CanePort → CanePort) (s : State) : (setCane n f s).eng = s.eng := rfl
@[simp] theorem setCane_pin (n : Nat) (f : CanePort → CanePort) (s : State) : (setCane n f s).pin = s.pin := rfl
@[simp] theorem setCane_batch (n : Nat) (f : CanePort → CanePort) (s : State) : (setCane n f s).batch = s.batch := rfl
@[simp] theorem setCane_pd (n : Nat) (f : CanePort → CanePort) (s : State) : (setCane n f s).pd = s.pd := rfl
@[simp] theorem setCane_free (n : Nat) (f : CanePort → CanePort) (s : State) : (setCane n f s).free = s.free := rfl
@[simp] theorem setCane_pending (n : Nat) (f : CanePort → CanePort) (s : State) : (setCane n f s).pending = s.pending := rfl

/-! ### setNode -/

@[simp] theorem setNode_sys (n : Nat) (f : CaneNode → CaneNode) (s : State) : (setNode n f s).sys = s.sys := rfl
@[simp] theorem setNode_wrm (n : Nat) (f : CaneNode → CaneNode) (s : State) : (setNode n f s).wrm = s.wrm := rfl
@[simp] theorem setNode_otp (n : Nat) (f : CaneNode → CaneNode) (s : State) : (setNode n f s).otp = s.otp := rfl
@[simp] theorem setNode_tim (n : Nat) (f : CaneNode → CaneNode) (s : State) : (setNode n f s).tim = s.tim := rfl
@[simp] theorem setNode_msr (n : Nat) (f : CaneNode → CaneNode) (s : State) : (setNode n f s).msr = s.msr := rfl
@[simp] theorem setNode_lop (n : Nat) (f : CaneNode → CaneNode) (s : State) : (setNode n f s).lop = s.lop := rfl
@[simp] theorem setNode_stg (n : Nat) (f : CaneNode → CaneNode) (s : State) : (setNode n f s).stg = s.stg := rfl
@[simp] theorem setNode_shr (n : Nat) (f : CaneNode → CaneNode) (s : State) : (setNode n f s).shr = s.shr := rfl
@[simp] theorem setNode_leh (n : Nat) (f : CaneNode → CaneNode) (s : State) : (setNode n f s).leh = s.leh := rfl
@[simp] theorem setNode_bat (n : Nat) (f : CaneNode → CaneNode) (s : State) : (setNode n f s).bat = s.bat := rfl
@[simp] theorem setNode_hsw (n : Nat) (f : CaneNode → CaneNode) (s : State) : (setNode n f s).hsw = s.hsw := rfl
@[simp] theorem setNode_seq (n : Nat) (f : CaneNode → CaneNode) (s : State) : (setNode n f s).seq = s.seq := rfl
@[simp] theorem setNode_recd (n : Nat) (f : CaneNode → CaneNode) (s : State) : (setNode n f s).recd = s.recd := rfl
@[simp] theorem setNode_flt (n : Nat) (f : CaneNode → CaneNode) (s : State) : (setNode n f s).flt = s.flt := rfl
@[simp] theorem setNode_mem (n : Nat) (f : CaneNode → CaneNode) (s : State) : (setNode n f s).mem = s.mem := rfl
@[simp] theorem setNode_red (n : Nat) (f : CaneNode → CaneNode) (s : State) : (setNode n f s).red = s.red := rfl
@[simp] theorem setNode_tie (n : Nat) (f : CaneNode → CaneNode) (s : State) : (setNode n f s).tie = s.tie := rfl
@[simp] theorem setNode_pnt (n : Nat) (f : CaneNode → CaneNode) (s : State) : (setNode n f s).pnt = { s.pnt with nodes := s.pnt.nodes.modify n f } := rfl
@[simp] theorem setNode_pmb (n : Nat) (f : CaneNode → CaneNode) (s : State) : (setNode n f s).pmb = s.pmb := rfl
@[simp] theorem setNode_hst (n : Nat) (f : CaneNode → CaneNode) (s : State) : (setNode n f s).hst = s.hst := rfl
@[simp] theorem setNode_bch (n : Nat) (f : CaneNode → CaneNode) (s : State) : (setNode n f s).bch = s.bch := rfl
@[simp] theorem setNode_tap (n : Nat) (f : CaneNode → CaneNode) (s : State) : (setNode n f s).tap = s.tap := rfl
@[simp] theorem setNode_eng (n : Nat) (f : CaneNode → CaneNode) (s : State) : (setNode n f s).eng = s.eng := rfl
@[simp] theorem setNode_pin (n : Nat) (f : CaneNode → CaneNode) (s : State) : (setNode n f s).pin = s.pin := rfl
@[simp] theorem setNode_batch (n : Nat) (f : CaneNode → CaneNode) (s : State) : (setNode n f s).batch = s.batch := rfl
@[simp] theorem setNode_pd (n : Nat) (f : CaneNode → CaneNode) (s : State) : (setNode n f s).pd = s.pd := rfl
@[simp] theorem setNode_free (n : Nat) (f : CaneNode → CaneNode) (s : State) : (setNode n f s).free = s.free := rfl
@[simp] theorem setNode_pending (n : Nat) (f : CaneNode → CaneNode) (s : State) : (setNode n f s).pending = s.pending := rfl

/-! ### setChan -/

@[simp] theorem setChan_sys (n : Nat) (f : Channel → Channel) (s : State) : (setChan n f s).sys = s.sys := rfl
@[simp] theorem setChan_wrm (n : Nat) (f : Channel → Channel) (s : State) : (setChan n f s).wrm = s.wrm := rfl
@[simp] theorem setChan_otp (n : Nat) (f : Channel → Channel) (s : State) : (setChan n f s).otp = s.otp := rfl
@[simp] theorem setChan_tim (n : Nat) (f : Channel → Channel) (s : State) : (setChan n f s).tim = s.tim := rfl
@[simp] theorem setChan_msr (n : Nat) (f : Channel → Channel) (s : State) : (setChan n f s).msr = s.msr := rfl
@[simp] theorem setChan_lop (n : Nat) (f : Channel → Channel) (s : State) : (setChan n f s).lop = s.lop := rfl
@[simp] theorem setChan_stg (n : Nat) (f : Channel → Channel) (s : State) : (setChan n f s).stg = s.stg := rfl
@[simp] theorem setChan_shr (n : Nat) (f : Channel → Channel) (s : State) : (setChan n f s).shr = s.shr := rfl
@[simp] theorem setChan_leh (n : Nat) (f : Channel → Channel) (s : State) : (setChan n f s).leh = s.leh := rfl
@[simp] theorem setChan_bat (n : Nat) (f : Channel → Channel) (s : State) : (setChan n f s).bat = s.bat := rfl
@[simp] theorem setChan_hsw (n : Nat) (f : Channel → Channel) (s : State) : (setChan n f s).hsw = { s.hsw with chans := s.hsw.chans.modify n f } := rfl
@[simp] theorem setChan_seq (n : Nat) (f : Channel → Channel) (s : State) : (setChan n f s).seq = s.seq := rfl
@[simp] theorem setChan_recd (n : Nat) (f : Channel → Channel) (s : State) : (setChan n f s).recd = s.recd := rfl
@[simp] theorem setChan_flt (n : Nat) (f : Channel → Channel) (s : State) : (setChan n f s).flt = s.flt := rfl
@[simp] theorem setChan_mem (n : Nat) (f : Channel → Channel) (s : State) : (setChan n f s).mem = s.mem := rfl
@[simp] theorem setChan_red (n : Nat) (f : Channel → Channel) (s : State) : (setChan n f s).red = s.red := rfl
@[simp] theorem setChan_tie (n : Nat) (f : Channel → Channel) (s : State) : (setChan n f s).tie = s.tie := rfl
@[simp] theorem setChan_pnt (n : Nat) (f : Channel → Channel) (s : State) : (setChan n f s).pnt = s.pnt := rfl
@[simp] theorem setChan_pmb (n : Nat) (f : Channel → Channel) (s : State) : (setChan n f s).pmb = s.pmb := rfl
@[simp] theorem setChan_hst (n : Nat) (f : Channel → Channel) (s : State) : (setChan n f s).hst = s.hst := rfl
@[simp] theorem setChan_bch (n : Nat) (f : Channel → Channel) (s : State) : (setChan n f s).bch = s.bch := rfl
@[simp] theorem setChan_tap (n : Nat) (f : Channel → Channel) (s : State) : (setChan n f s).tap = s.tap := rfl
@[simp] theorem setChan_eng (n : Nat) (f : Channel → Channel) (s : State) : (setChan n f s).eng = s.eng := rfl
@[simp] theorem setChan_pin (n : Nat) (f : Channel → Channel) (s : State) : (setChan n f s).pin = s.pin := rfl
@[simp] theorem setChan_batch (n : Nat) (f : Channel → Channel) (s : State) : (setChan n f s).batch = s.batch := rfl
@[simp] theorem setChan_pd (n : Nat) (f : Channel → Channel) (s : State) : (setChan n f s).pd = s.pd := rfl
@[simp] theorem setChan_free (n : Nat) (f : Channel → Channel) (s : State) : (setChan n f s).free = s.free := rfl
@[simp] theorem setChan_pending (n : Nat) (f : Channel → Channel) (s : State) : (setChan n f s).pending = s.pending := rfl

/-! ### setLoop -/

@[simp] theorem setLoop_sys (n : Nat) (f : Loop → Loop) (s : State) : (setLoop n f s).sys = s.sys := rfl
@[simp] theorem setLoop_wrm (n : Nat) (f : Loop → Loop) (s : State) : (setLoop n f s).wrm = s.wrm := rfl
@[simp] theorem setLoop_otp (n : Nat) (f : Loop → Loop) (s : State) : (setLoop n f s).otp = s.otp := rfl
@[simp] theorem setLoop_tim (n : Nat) (f : Loop → Loop) (s : State) : (setLoop n f s).tim = s.tim := rfl
@[simp] theorem setLoop_msr (n : Nat) (f : Loop → Loop) (s : State) : (setLoop n f s).msr = s.msr := rfl
@[simp] theorem setLoop_lop (n : Nat) (f : Loop → Loop) (s : State) : (setLoop n f s).lop = { s.lop with loops := s.lop.loops.modify n f } := rfl
@[simp] theorem setLoop_stg (n : Nat) (f : Loop → Loop) (s : State) : (setLoop n f s).stg = s.stg := rfl
@[simp] theorem setLoop_shr (n : Nat) (f : Loop → Loop) (s : State) : (setLoop n f s).shr = s.shr := rfl
@[simp] theorem setLoop_leh (n : Nat) (f : Loop → Loop) (s : State) : (setLoop n f s).leh = s.leh := rfl
@[simp] theorem setLoop_bat (n : Nat) (f : Loop → Loop) (s : State) : (setLoop n f s).bat = s.bat := rfl
@[simp] theorem setLoop_hsw (n : Nat) (f : Loop → Loop) (s : State) : (setLoop n f s).hsw = s.hsw := rfl
@[simp] theorem setLoop_seq (n : Nat) (f : Loop → Loop) (s : State) : (setLoop n f s).seq = s.seq := rfl
@[simp] theorem setLoop_recd (n : Nat) (f : Loop → Loop) (s : State) : (setLoop n f s).recd = s.recd := rfl
@[simp] theorem setLoop_flt (n : Nat) (f : Loop → Loop) (s : State) : (setLoop n f s).flt = s.flt := rfl
@[simp] theorem setLoop_mem (n : Nat) (f : Loop → Loop) (s : State) : (setLoop n f s).mem = s.mem := rfl
@[simp] theorem setLoop_red (n : Nat) (f : Loop → Loop) (s : State) : (setLoop n f s).red = s.red := rfl
@[simp] theorem setLoop_tie (n : Nat) (f : Loop → Loop) (s : State) : (setLoop n f s).tie = s.tie := rfl
@[simp] theorem setLoop_pnt (n : Nat) (f : Loop → Loop) (s : State) : (setLoop n f s).pnt = s.pnt := rfl
@[simp] theorem setLoop_pmb (n : Nat) (f : Loop → Loop) (s : State) : (setLoop n f s).pmb = s.pmb := rfl
@[simp] theorem setLoop_hst (n : Nat) (f : Loop → Loop) (s : State) : (setLoop n f s).hst = s.hst := rfl
@[simp] theorem setLoop_bch (n : Nat) (f : Loop → Loop) (s : State) : (setLoop n f s).bch = s.bch := rfl
@[simp] theorem setLoop_tap (n : Nat) (f : Loop → Loop) (s : State) : (setLoop n f s).tap = s.tap := rfl
@[simp] theorem setLoop_eng (n : Nat) (f : Loop → Loop) (s : State) : (setLoop n f s).eng = s.eng := rfl
@[simp] theorem setLoop_pin (n : Nat) (f : Loop → Loop) (s : State) : (setLoop n f s).pin = s.pin := rfl
@[simp] theorem setLoop_batch (n : Nat) (f : Loop → Loop) (s : State) : (setLoop n f s).batch = s.batch := rfl
@[simp] theorem setLoop_pd (n : Nat) (f : Loop → Loop) (s : State) : (setLoop n f s).pd = s.pd := rfl
@[simp] theorem setLoop_free (n : Nat) (f : Loop → Loop) (s : State) : (setLoop n f s).free = s.free := rfl
@[simp] theorem setLoop_pending (n : Nat) (f : Loop → Loop) (s : State) : (setLoop n f s).pending = s.pending := rfl

/-! ### setStage -/

@[simp] theorem setStage_sys (n : Nat) (f : Stage → Stage) (s : State) : (setStage n f s).sys = s.sys := rfl
@[simp] theorem setStage_wrm (n : Nat) (f : Stage → Stage) (s : State) : (setStage n f s).wrm = s.wrm := rfl
@[simp] theorem setStage_otp (n : Nat) (f : Stage → Stage) (s : State) : (setStage n f s).otp = s.otp := rfl
@[simp] theorem setStage_tim (n : Nat) (f : Stage → Stage) (s : State) : (setStage n f s).tim = s.tim := rfl
@[simp] theorem setStage_msr (n : Nat) (f : Stage → Stage) (s : State) : (setStage n f s).msr = s.msr := rfl
@[simp] theorem setStage_lop (n : Nat) (f : Stage → Stage) (s : State) : (setStage n f s).lop = s.lop := rfl
@[simp] theorem setStage_stg (n : Nat) (f : Stage → Stage) (s : State) : (setStage n f s).stg = { s.stg with stages := s.stg.stages.modify n f } := rfl
@[simp] theorem setStage_shr (n : Nat) (f : Stage → Stage) (s : State) : (setStage n f s).shr = s.shr := rfl
@[simp] theorem setStage_leh (n : Nat) (f : Stage → Stage) (s : State) : (setStage n f s).leh = s.leh := rfl
@[simp] theorem setStage_bat (n : Nat) (f : Stage → Stage) (s : State) : (setStage n f s).bat = s.bat := rfl
@[simp] theorem setStage_hsw (n : Nat) (f : Stage → Stage) (s : State) : (setStage n f s).hsw = s.hsw := rfl
@[simp] theorem setStage_seq (n : Nat) (f : Stage → Stage) (s : State) : (setStage n f s).seq = s.seq := rfl
@[simp] theorem setStage_recd (n : Nat) (f : Stage → Stage) (s : State) : (setStage n f s).recd = s.recd := rfl
@[simp] theorem setStage_flt (n : Nat) (f : Stage → Stage) (s : State) : (setStage n f s).flt = s.flt := rfl
@[simp] theorem setStage_mem (n : Nat) (f : Stage → Stage) (s : State) : (setStage n f s).mem = s.mem := rfl
@[simp] theorem setStage_red (n : Nat) (f : Stage → Stage) (s : State) : (setStage n f s).red = s.red := rfl
@[simp] theorem setStage_tie (n : Nat) (f : Stage → Stage) (s : State) : (setStage n f s).tie = s.tie := rfl
@[simp] theorem setStage_pnt (n : Nat) (f : Stage → Stage) (s : State) : (setStage n f s).pnt = s.pnt := rfl
@[simp] theorem setStage_pmb (n : Nat) (f : Stage → Stage) (s : State) : (setStage n f s).pmb = s.pmb := rfl
@[simp] theorem setStage_hst (n : Nat) (f : Stage → Stage) (s : State) : (setStage n f s).hst = s.hst := rfl
@[simp] theorem setStage_bch (n : Nat) (f : Stage → Stage) (s : State) : (setStage n f s).bch = s.bch := rfl
@[simp] theorem setStage_tap (n : Nat) (f : Stage → Stage) (s : State) : (setStage n f s).tap = s.tap := rfl
@[simp] theorem setStage_eng (n : Nat) (f : Stage → Stage) (s : State) : (setStage n f s).eng = s.eng := rfl
@[simp] theorem setStage_pin (n : Nat) (f : Stage → Stage) (s : State) : (setStage n f s).pin = s.pin := rfl
@[simp] theorem setStage_batch (n : Nat) (f : Stage → Stage) (s : State) : (setStage n f s).batch = s.batch := rfl
@[simp] theorem setStage_pd (n : Nat) (f : Stage → Stage) (s : State) : (setStage n f s).pd = s.pd := rfl
@[simp] theorem setStage_free (n : Nat) (f : Stage → Stage) (s : State) : (setStage n f s).free = s.free := rfl
@[simp] theorem setStage_pending (n : Nat) (f : Stage → Stage) (s : State) : (setStage n f s).pending = s.pending := rfl

/-! ### setPhase -/

@[simp] theorem setPhase_sys (n : Nat) (f : Phase → Phase) (s : State) : (setPhase n f s).sys = s.sys := rfl
@[simp] theorem setPhase_wrm (n : Nat) (f : Phase → Phase) (s : State) : (setPhase n f s).wrm = s.wrm := rfl
@[simp] theorem setPhase_otp (n : Nat) (f : Phase → Phase) (s : State) : (setPhase n f s).otp = s.otp := rfl
@[simp] theorem setPhase_tim (n : Nat) (f : Phase → Phase) (s : State) : (setPhase n f s).tim = s.tim := rfl
@[simp] theorem setPhase_msr (n : Nat) (f : Phase → Phase) (s : State) : (setPhase n f s).msr = s.msr := rfl
@[simp] theorem setPhase_lop (n : Nat) (f : Phase → Phase) (s : State) : (setPhase n f s).lop = s.lop := rfl
@[simp] theorem setPhase_stg (n : Nat) (f : Phase → Phase) (s : State) : (setPhase n f s).stg = { s.stg with phases := s.stg.phases.modify n f } := rfl
@[simp] theorem setPhase_shr (n : Nat) (f : Phase → Phase) (s : State) : (setPhase n f s).shr = s.shr := rfl
@[simp] theorem setPhase_leh (n : Nat) (f : Phase → Phase) (s : State) : (setPhase n f s).leh = s.leh := rfl
@[simp] theorem setPhase_bat (n : Nat) (f : Phase → Phase) (s : State) : (setPhase n f s).bat = s.bat := rfl
@[simp] theorem setPhase_hsw (n : Nat) (f : Phase → Phase) (s : State) : (setPhase n f s).hsw = s.hsw := rfl
@[simp] theorem setPhase_seq (n : Nat) (f : Phase → Phase) (s : State) : (setPhase n f s).seq = s.seq := rfl
@[simp] theorem setPhase_recd (n : Nat) (f : Phase → Phase) (s : State) : (setPhase n f s).recd = s.recd := rfl
@[simp] theorem setPhase_flt (n : Nat) (f : Phase → Phase) (s : State) : (setPhase n f s).flt = s.flt := rfl
@[simp] theorem setPhase_mem (n : Nat) (f : Phase → Phase) (s : State) : (setPhase n f s).mem = s.mem := rfl
@[simp] theorem setPhase_red (n : Nat) (f : Phase → Phase) (s : State) : (setPhase n f s).red = s.red := rfl
@[simp] theorem setPhase_tie (n : Nat) (f : Phase → Phase) (s : State) : (setPhase n f s).tie = s.tie := rfl
@[simp] theorem setPhase_pnt (n : Nat) (f : Phase → Phase) (s : State) : (setPhase n f s).pnt = s.pnt := rfl
@[simp] theorem setPhase_pmb (n : Nat) (f : Phase → Phase) (s : State) : (setPhase n f s).pmb = s.pmb := rfl
@[simp] theorem setPhase_hst (n : Nat) (f : Phase → Phase) (s : State) : (setPhase n f s).hst = s.hst := rfl
@[simp] theorem setPhase_bch (n : Nat) (f : Phase → Phase) (s : State) : (setPhase n f s).bch = s.bch := rfl
@[simp] theorem setPhase_tap (n : Nat) (f : Phase → Phase) (s : State) : (setPhase n f s).tap = s.tap := rfl
@[simp] theorem setPhase_eng (n : Nat) (f : Phase → Phase) (s : State) : (setPhase n f s).eng = s.eng := rfl
@[simp] theorem setPhase_pin (n : Nat) (f : Phase → Phase) (s : State) : (setPhase n f s).pin = s.pin := rfl
@[simp] theorem setPhase_batch (n : Nat) (f : Phase → Phase) (s : State) : (setPhase n f s).batch = s.batch := rfl
@[simp] theorem setPhase_pd (n : Nat) (f : Phase → Phase) (s : State) : (setPhase n f s).pd = s.pd := rfl
@[simp] theorem setPhase_free (n : Nat) (f : Phase → Phase) (s : State) : (setPhase n f s).free = s.free := rfl
@[simp] theorem setPhase_pending (n : Nat) (f : Phase → Phase) (s : State) : (setPhase n f s).pending = s.pending := rfl

/-! ### setPmb -/

@[simp] theorem setPmb_sys (n : Nat) (f : PmbPort → PmbPort) (s : State) : (setPmb n f s).sys = s.sys := rfl
@[simp] theorem setPmb_wrm (n : Nat) (f : PmbPort → PmbPort) (s : State) : (setPmb n f s).wrm = s.wrm := rfl
@[simp] theorem setPmb_otp (n : Nat) (f : PmbPort → PmbPort) (s : State) : (setPmb n f s).otp = s.otp := rfl
@[simp] theorem setPmb_tim (n : Nat) (f : PmbPort → PmbPort) (s : State) : (setPmb n f s).tim = s.tim := rfl
@[simp] theorem setPmb_msr (n : Nat) (f : PmbPort → PmbPort) (s : State) : (setPmb n f s).msr = s.msr := rfl
@[simp] theorem setPmb_lop (n : Nat) (f : PmbPort → PmbPort) (s : State) : (setPmb n f s).lop = s.lop := rfl
@[simp] theorem setPmb_stg (n : Nat) (f : PmbPort → PmbPort) (s : State) : (setPmb n f s).stg = s.stg := rfl
@[simp] theorem setPmb_shr (n : Nat) (f : PmbPort → PmbPort) (s : State) : (setPmb n f s).shr = s.shr := rfl
@[simp] theorem setPmb_leh (n : Nat) (f : PmbPort → PmbPort) (s : State) : (setPmb n f s).leh = s.leh := rfl
@[simp] theorem setPmb_bat (n : Nat) (f : PmbPort → PmbPort) (s : State) : (setPmb n f s).bat = s.bat := rfl
@[simp] theorem setPmb_hsw (n : Nat) (f : PmbPort → PmbPort) (s : State) : (setPmb n f s).hsw = s.hsw := rfl
@[simp] theorem setPmb_seq (n : Nat) (f : PmbPort → PmbPort) (s : State) : (setPmb n f s).seq = s.seq := rfl
@[simp] theorem setPmb_recd (n : Nat) (f : PmbPort → PmbPort) (s : State) : (setPmb n f s).recd = s.recd := rfl
@[simp] theorem setPmb_flt (n : Nat) (f : PmbPort → PmbPort) (s : State) : (setPmb n f s).flt = s.flt := rfl
@[simp] theorem setPmb_mem (n : Nat) (f : PmbPort → PmbPort) (s : State) : (setPmb n f s).mem = s.mem := rfl
@[simp] theorem setPmb_red (n : Nat) (f : PmbPort → PmbPort) (s : State) : (setPmb n f s).red = s.red := rfl
@[simp] theorem setPmb_tie (n : Nat) (f : PmbPort → PmbPort) (s : State) : (setPmb n f s).tie = s.tie := rfl
@[simp] theorem setPmb_pnt (n : Nat) (f : PmbPort → PmbPort) (s : State) : (setPmb n f s).pnt = s.pnt := rfl
@[simp] theorem setPmb_pmb (n : Nat) (f : PmbPort → PmbPort) (s : State) : (setPmb n f s).pmb = { s.pmb with ports := s.pmb.ports.modify n f } := rfl
@[simp] theorem setPmb_hst (n : Nat) (f : PmbPort → PmbPort) (s : State) : (setPmb n f s).hst = s.hst := rfl
@[simp] theorem setPmb_bch (n : Nat) (f : PmbPort → PmbPort) (s : State) : (setPmb n f s).bch = s.bch := rfl
@[simp] theorem setPmb_tap (n : Nat) (f : PmbPort → PmbPort) (s : State) : (setPmb n f s).tap = s.tap := rfl
@[simp] theorem setPmb_eng (n : Nat) (f : PmbPort → PmbPort) (s : State) : (setPmb n f s).eng = s.eng := rfl
@[simp] theorem setPmb_pin (n : Nat) (f : PmbPort → PmbPort) (s : State) : (setPmb n f s).pin = s.pin := rfl
@[simp] theorem setPmb_batch (n : Nat) (f : PmbPort → PmbPort) (s : State) : (setPmb n f s).batch = s.batch := rfl
@[simp] theorem setPmb_pd (n : Nat) (f : PmbPort → PmbPort) (s : State) : (setPmb n f s).pd = s.pd := rfl
@[simp] theorem setPmb_free (n : Nat) (f : PmbPort → PmbPort) (s : State) : (setPmb n f s).free = s.free := rfl
@[simp] theorem setPmb_pending (n : Nat) (f : PmbPort → PmbPort) (s : State) : (setPmb n f s).pending = s.pending := rfl

/-! ### setTie -/

@[simp] theorem setTie_sys (n : Nat) (f : TiePort → TiePort) (s : State) : (setTie n f s).sys = s.sys := rfl
@[simp] theorem setTie_wrm (n : Nat) (f : TiePort → TiePort) (s : State) : (setTie n f s).wrm = s.wrm := rfl
@[simp] theorem setTie_otp (n : Nat) (f : TiePort → TiePort) (s : State) : (setTie n f s).otp = s.otp := rfl
@[simp] theorem setTie_tim (n : Nat) (f : TiePort → TiePort) (s : State) : (setTie n f s).tim = s.tim := rfl
@[simp] theorem setTie_msr (n : Nat) (f : TiePort → TiePort) (s : State) : (setTie n f s).msr = s.msr := rfl
@[simp] theorem setTie_lop (n : Nat) (f : TiePort → TiePort) (s : State) : (setTie n f s).lop = s.lop := rfl
@[simp] theorem setTie_stg (n : Nat) (f : TiePort → TiePort) (s : State) : (setTie n f s).stg = s.stg := rfl
@[simp] theorem setTie_shr (n : Nat) (f : TiePort → TiePort) (s : State) : (setTie n f s).shr = s.shr := rfl
@[simp] theorem setTie_leh (n : Nat) (f : TiePort → TiePort) (s : State) : (setTie n f s).leh = s.leh := rfl
@[simp] theorem setTie_bat (n : Nat) (f : TiePort → TiePort) (s : State) : (setTie n f s).bat = s.bat := rfl
@[simp] theorem setTie_hsw (n : Nat) (f : TiePort → TiePort) (s : State) : (setTie n f s).hsw = s.hsw := rfl
@[simp] theorem setTie_seq (n : Nat) (f : TiePort → TiePort) (s : State) : (setTie n f s).seq = s.seq := rfl
@[simp] theorem setTie_recd (n : Nat) (f : TiePort → TiePort) (s : State) : (setTie n f s).recd = s.recd := rfl
@[simp] theorem setTie_flt (n : Nat) (f : TiePort → TiePort) (s : State) : (setTie n f s).flt = s.flt := rfl
@[simp] theorem setTie_mem (n : Nat) (f : TiePort → TiePort) (s : State) : (setTie n f s).mem = s.mem := rfl
@[simp] theorem setTie_red (n : Nat) (f : TiePort → TiePort) (s : State) : (setTie n f s).red = s.red := rfl
@[simp] theorem setTie_tie (n : Nat) (f : TiePort → TiePort) (s : State) : (setTie n f s).tie = { s.tie with ports := s.tie.ports.modify n f } := rfl
@[simp] theorem setTie_pnt (n : Nat) (f : TiePort → TiePort) (s : State) : (setTie n f s).pnt = s.pnt := rfl
@[simp] theorem setTie_pmb (n : Nat) (f : TiePort → TiePort) (s : State) : (setTie n f s).pmb = s.pmb := rfl
@[simp] theorem setTie_hst (n : Nat) (f : TiePort → TiePort) (s : State) : (setTie n f s).hst = s.hst := rfl
@[simp] theorem setTie_bch (n : Nat) (f : TiePort → TiePort) (s : State) : (setTie n f s).bch = s.bch := rfl
@[simp] theorem setTie_tap (n : Nat) (f : TiePort → TiePort) (s : State) : (setTie n f s).tap = s.tap := rfl
@[simp] theorem setTie_eng (n : Nat) (f : TiePort → TiePort) (s : State) : (setTie n f s).eng = s.eng := rfl
@[simp] theorem setTie_pin (n : Nat) (f : TiePort → TiePort) (s : State) : (setTie n f s).pin = s.pin := rfl
@[simp] theorem setTie_batch (n : Nat) (f : TiePort → TiePort) (s : State) : (setTie n f s).batch = s.batch := rfl
@[simp] theorem setTie_pd (n : Nat) (f : TiePort → TiePort) (s : State) : (setTie n f s).pd = s.pd := rfl
@[simp] theorem setTie_free (n : Nat) (f : TiePort → TiePort) (s : State) : (setTie n f s).free = s.free := rfl
@[simp] theorem setTie_pending (n : Nat) (f : TiePort → TiePort) (s : State) : (setTie n f s).pending = s.pending := rfl

/-! ### raise -/

@[simp] theorem raise_sys (k : Nat × Nat) (i c : Nat) (s : State) : (raise k i c s).sys = s.sys := rfl
@[simp] theorem raise_wrm (k : Nat × Nat) (i c : Nat) (s : State) : (raise k i c s).wrm = s.wrm := rfl
@[simp] theorem raise_otp (k : Nat × Nat) (i c : Nat) (s : State) : (raise k i c s).otp = s.otp := rfl
@[simp] theorem raise_tim (k : Nat × Nat) (i c : Nat) (s : State) : (raise k i c s).tim = s.tim := rfl
@[simp] theorem raise_msr (k : Nat × Nat) (i c : Nat) (s : State) : (raise k i c s).msr = s.msr := rfl
@[simp] theorem raise_lop (k : Nat × Nat) (i c : Nat) (s : State) : (raise k i c s).lop = s.lop := rfl
@[simp] theorem raise_stg (k : Nat × Nat) (i c : Nat) (s : State) : (raise k i c s).stg = s.stg := rfl
@[simp] theorem raise_shr (k : Nat × Nat) (i c : Nat) (s : State) : (raise k i c s).shr = s.shr := rfl
@[simp] theorem raise_leh (k : Nat × Nat) (i c : Nat) (s : State) : (raise k i c s).leh = s.leh := rfl
@[simp] theorem raise_bat (k : Nat × Nat) (i c : Nat) (s : State) : (raise k i c s).bat = s.bat := rfl
@[simp] theorem raise_hsw (k : Nat × Nat) (i c : Nat) (s : State) : (raise k i c s).hsw = s.hsw := rfl
@[simp] theorem raise_seq (k : Nat × Nat) (i c : Nat) (s : State) : (raise k i c s).seq = s.seq := rfl
@[simp] theorem raise_recd (k : Nat × Nat) (i c : Nat) (s : State) : (raise k i c s).recd = s.recd := rfl
@[simp] theorem raise_flt (k : Nat × Nat) (i c : Nat) (s : State) : (raise k i c s).flt = { s.flt with inflight := s.flt.inflight ++
      [{ block := k.1, inst := i, kind := k.2, ctx := c, frame := s.tim.frame, tick := none }] } := rfl
@[simp] theorem raise_mem (k : Nat × Nat) (i c : Nat) (s : State) : (raise k i c s).mem = s.mem := rfl
@[simp] theorem raise_red (k : Nat × Nat) (i c : Nat) (s : State) : (raise k i c s).red = s.red := rfl
@[simp] theorem raise_tie (k : Nat × Nat) (i c : Nat) (s : State) : (raise k i c s).tie = s.tie := rfl
@[simp] theorem raise_pnt (k : Nat × Nat) (i c : Nat) (s : State) : (raise k i c s).pnt = s.pnt := rfl
@[simp] theorem raise_pmb (k : Nat × Nat) (i c : Nat) (s : State) : (raise k i c s).pmb = s.pmb := rfl
@[simp] theorem raise_hst (k : Nat × Nat) (i c : Nat) (s : State) : (raise k i c s).hst = s.hst := rfl
@[simp] theorem raise_bch (k : Nat × Nat) (i c : Nat) (s : State) : (raise k i c s).bch = s.bch := rfl
@[simp] theorem raise_tap (k : Nat × Nat) (i c : Nat) (s : State) : (raise k i c s).tap = s.tap := rfl
@[simp] theorem raise_eng (k : Nat × Nat) (i c : Nat) (s : State) : (raise k i c s).eng = s.eng := rfl
@[simp] theorem raise_pin (k : Nat × Nat) (i c : Nat) (s : State) : (raise k i c s).pin = s.pin := rfl
@[simp] theorem raise_batch (k : Nat × Nat) (i c : Nat) (s : State) : (raise k i c s).batch = s.batch := rfl
@[simp] theorem raise_pd (k : Nat × Nat) (i c : Nat) (s : State) : (raise k i c s).pd = s.pd := rfl
@[simp] theorem raise_free (k : Nat × Nat) (i c : Nat) (s : State) : (raise k i c s).free = s.free := rfl
@[simp] theorem raise_pending (k : Nat × Nat) (i c : Nat) (s : State) : (raise k i c s).pending = s.pending := rfl

/-! ### raiseT -/

@[simp] theorem raiseT_sys (k : Nat × Nat) (i c : Nat) (s : State) : (raiseT k i c s).sys = s.sys := rfl
@[simp] theorem raiseT_wrm (k : Nat × Nat) (i c : Nat) (s : State) : (raiseT k i c s).wrm = s.wrm := rfl
@[simp] theorem raiseT_otp (k : Nat × Nat) (i c : Nat) (s : State) : (raiseT k i c s).otp = s.otp := rfl
@[simp] theorem raiseT_tim (k : Nat × Nat) (i c : Nat) (s : State) : (raiseT k i c s).tim = s.tim := rfl
@[simp] theorem raiseT_msr (k : Nat × Nat) (i c : Nat) (s : State) : (raiseT k i c s).msr = s.msr := rfl
@[simp] theorem raiseT_lop (k : Nat × Nat) (i c : Nat) (s : State) : (raiseT k i c s).lop = s.lop := rfl
@[simp] theorem raiseT_stg (k : Nat × Nat) (i c : Nat) (s : State) : (raiseT k i c s).stg = s.stg := rfl
@[simp] theorem raiseT_shr (k : Nat × Nat) (i c : Nat) (s : State) : (raiseT k i c s).shr = s.shr := rfl
@[simp] theorem raiseT_leh (k : Nat × Nat) (i c : Nat) (s : State) : (raiseT k i c s).leh = s.leh := rfl
@[simp] theorem raiseT_bat (k : Nat × Nat) (i c : Nat) (s : State) : (raiseT k i c s).bat = s.bat := rfl
@[simp] theorem raiseT_hsw (k : Nat × Nat) (i c : Nat) (s : State) : (raiseT k i c s).hsw = s.hsw := rfl
@[simp] theorem raiseT_seq (k : Nat × Nat) (i c : Nat) (s : State) : (raiseT k i c s).seq = s.seq := rfl
@[simp] theorem raiseT_recd (k : Nat × Nat) (i c : Nat) (s : State) : (raiseT k i c s).recd = s.recd := rfl
@[simp] theorem raiseT_flt (k : Nat × Nat) (i c : Nat) (s : State) : (raiseT k i c s).flt = { s.flt with inflight := s.flt.inflight ++
      [{ block := k.1, inst := i, kind := k.2, ctx := c, frame := s.tim.frame, tick := some s.tim.tick }] } := rfl
@[simp] theorem raiseT_mem (k : Nat × Nat) (i c : Nat) (s : State) : (raiseT k i c s).mem = s.mem := rfl
@[simp] theorem raiseT_red (k : Nat × Nat) (i c : Nat) (s : State) : (raiseT k i c s).red = s.red := rfl
@[simp] theorem raiseT_tie (k : Nat × Nat) (i c : Nat) (s : State) : (raiseT k i c s).tie = s.tie := rfl
@[simp] theorem raiseT_pnt (k : Nat × Nat) (i c : Nat) (s : State) : (raiseT k i c s).pnt = s.pnt := rfl
@[simp] theorem raiseT_pmb (k : Nat × Nat) (i c : Nat) (s : State) : (raiseT k i c s).pmb = s.pmb := rfl
@[simp] theorem raiseT_hst (k : Nat × Nat) (i c : Nat) (s : State) : (raiseT k i c s).hst = s.hst := rfl
@[simp] theorem raiseT_bch (k : Nat × Nat) (i c : Nat) (s : State) : (raiseT k i c s).bch = s.bch := rfl
@[simp] theorem raiseT_tap (k : Nat × Nat) (i c : Nat) (s : State) : (raiseT k i c s).tap = s.tap := rfl
@[simp] theorem raiseT_eng (k : Nat × Nat) (i c : Nat) (s : State) : (raiseT k i c s).eng = s.eng := rfl
@[simp] theorem raiseT_pin (k : Nat × Nat) (i c : Nat) (s : State) : (raiseT k i c s).pin = s.pin := rfl
@[simp] theorem raiseT_batch (k : Nat × Nat) (i c : Nat) (s : State) : (raiseT k i c s).batch = s.batch := rfl
@[simp] theorem raiseT_pd (k : Nat × Nat) (i c : Nat) (s : State) : (raiseT k i c s).pd = s.pd := rfl
@[simp] theorem raiseT_free (k : Nat × Nat) (i c : Nat) (s : State) : (raiseT k i c s).free = s.free := rfl
@[simp] theorem raiseT_pending (k : Nat × Nat) (i c : Nat) (s : State) : (raiseT k i c s).pending = s.pending := rfl

/-! ### addRecord -/

@[simp] theorem addRecord_sys (r : Record) (s : State) : (addRecord r s).sys = s.sys := rfl
@[simp] theorem addRecord_wrm (r : Record) (s : State) : (addRecord r s).wrm = s.wrm := rfl
@[simp] theorem addRecord_otp (r : Record) (s : State) : (addRecord r s).otp = s.otp := rfl
@[simp] theorem addRecord_tim (r : Record) (s : State) : (addRecord r s).tim = s.tim := rfl
@[simp] theorem addRecord_msr (r : Record) (s : State) : (addRecord r s).msr = s.msr := rfl
@[simp] theorem addRecord_lop (r : Record) (s : State) : (addRecord r s).lop = s.lop := rfl
@[simp] theorem addRecord_stg (r : Record) (s : State) : (addRecord r s).stg = s.stg := rfl
@[simp] theorem addRecord_shr (r : Record) (s : State) : (addRecord r s).shr = s.shr := rfl
@[simp] theorem addRecord_leh (r : Record) (s : State) : (addRecord r s).leh = s.leh := rfl
@[simp] theorem addRecord_bat (r : Record) (s : State) : (addRecord r s).bat = s.bat := rfl
@[simp] theorem addRecord_hsw (r : Record) (s : State) : (addRecord r s).hsw = s.hsw := rfl
@[simp] theorem addRecord_seq (r : Record) (s : State) : (addRecord r s).seq = s.seq := rfl
@[simp] theorem addRecord_recd (r : Record) (s : State) : (addRecord r s).recd = { s.recd with frameRecs := s.recd.frameRecs ++ [{ r with frame := s.tim.frame }] } := rfl
@[simp] theorem addRecord_flt (r : Record) (s : State) : (addRecord r s).flt = s.flt := rfl
@[simp] theorem addRecord_mem (r : Record) (s : State) : (addRecord r s).mem = s.mem := rfl
@[simp] theorem addRecord_red (r : Record) (s : State) : (addRecord r s).red = s.red := rfl
@[simp] theorem addRecord_tie (r : Record) (s : State) : (addRecord r s).tie = s.tie := rfl
@[simp] theorem addRecord_pnt (r : Record) (s : State) : (addRecord r s).pnt = s.pnt := rfl
@[simp] theorem addRecord_pmb (r : Record) (s : State) : (addRecord r s).pmb = s.pmb := rfl
@[simp] theorem addRecord_hst (r : Record) (s : State) : (addRecord r s).hst = s.hst := rfl
@[simp] theorem addRecord_bch (r : Record) (s : State) : (addRecord r s).bch = s.bch := rfl
@[simp] theorem addRecord_tap (r : Record) (s : State) : (addRecord r s).tap = s.tap := rfl
@[simp] theorem addRecord_eng (r : Record) (s : State) : (addRecord r s).eng = s.eng := rfl
@[simp] theorem addRecord_pin (r : Record) (s : State) : (addRecord r s).pin = s.pin := rfl
@[simp] theorem addRecord_batch (r : Record) (s : State) : (addRecord r s).batch = s.batch := rfl
@[simp] theorem addRecord_pd (r : Record) (s : State) : (addRecord r s).pd = s.pd := rfl
@[simp] theorem addRecord_free (r : Record) (s : State) : (addRecord r s).free = s.free := rfl
@[simp] theorem addRecord_pending (r : Record) (s : State) : (addRecord r s).pending = s.pending := rfl

/-! ### keep -/

@[simp] theorem keep_sys (s t : State) : (keep s t).sys = t.sys := rfl
@[simp] theorem keep_wrm (s t : State) : (keep s t).wrm = t.wrm := rfl
@[simp] theorem keep_otp (s t : State) : (keep s t).otp = s.otp := rfl
@[simp] theorem keep_tim (s t : State) : (keep s t).tim = t.tim := rfl
@[simp] theorem keep_msr (s t : State) : (keep s t).msr = t.msr := rfl
@[simp] theorem keep_lop (s t : State) : (keep s t).lop = t.lop := rfl
@[simp] theorem keep_stg (s t : State) : (keep s t).stg = t.stg := rfl
@[simp] theorem keep_shr (s t : State) : (keep s t).shr = t.shr := rfl
@[simp] theorem keep_leh (s t : State) : (keep s t).leh = t.leh := rfl
@[simp] theorem keep_bat (s t : State) : (keep s t).bat = t.bat := rfl
@[simp] theorem keep_hsw (s t : State) : (keep s t).hsw = t.hsw := rfl
@[simp] theorem keep_seq (s t : State) : (keep s t).seq = t.seq := rfl
@[simp] theorem keep_recd (s t : State) : (keep s t).recd = t.recd := rfl
@[simp] theorem keep_flt (s t : State) : (keep s t).flt = t.flt := rfl
@[simp] theorem keep_mem (s t : State) : (keep s t).mem = t.mem := rfl
@[simp] theorem keep_red (s t : State) : (keep s t).red = t.red := rfl
@[simp] theorem keep_tie (s t : State) : (keep s t).tie = t.tie := rfl
@[simp] theorem keep_pnt (s t : State) : (keep s t).pnt = t.pnt := rfl
@[simp] theorem keep_pmb (s t : State) : (keep s t).pmb = t.pmb := rfl
@[simp] theorem keep_hst (s t : State) : (keep s t).hst = t.hst := rfl
@[simp] theorem keep_bch (s t : State) : (keep s t).bch = t.bch := rfl
@[simp] theorem keep_tap (s t : State) : (keep s t).tap = t.tap := rfl
@[simp] theorem keep_eng (s t : State) : (keep s t).eng = t.eng := rfl
@[simp] theorem keep_pin (s t : State) : (keep s t).pin = t.pin := rfl
@[simp] theorem keep_batch (s t : State) : (keep s t).batch = t.batch := rfl
@[simp] theorem keep_pd (s t : State) : (keep s t).pd = t.pd := rfl
@[simp] theorem keep_free (s t : State) : (keep s t).free = t.free := rfl
@[simp] theorem keep_pending (s t : State) : (keep s t).pending = s.pending := rfl

end Sys2Proof.Machine
end

