-- ==== Sys2Proof/Laws/Ops.lean ====
section
/-! SUPPORT. What each shared operation can do: the guards, the tables in canonical form, the commits and the acceptance of a
command. -/
namespace Sys2Proof

/-! ### Tables -/

/-- The entry written is the entry read, and every other entry stands. -/
@[simp] theorem Tab.get_put {α : Type} [Inhabited α] [DecidableEq α] (t : Tab α) (k j : Nat) (v : α) :
    (t.put k v).get j = if j = k then v else t.get j := by
  induction t with
  | nil =>
    unfold Tab.put
    split <;> simp only [Tab.get]
    · split <;> simp [*]
    · simp only [eq_comm]
  | cons p r ih =>
    obtain ⟨i, w⟩ := p
    unfold Tab.put
    split
    · split
      · rw [ih]
        split
        · rfl
        · simp only [Tab.get]; rw [if_neg (by omega)]
      · simp only [Tab.get]
        split
        · rw [if_neg (by omega)]
        · exact ih
    · split
      · simp only [Tab.get, eq_comm]
      · split
        · simp only [Tab.get]
          split
          · rw [if_pos (by omega)]
          · rw [if_neg (by omega), if_neg (by omega)]
        · simp only [Tab.get]
          split
          · rw [if_neg (by omega)]
          · exact ih

/-- One entry changed by a function. -/
@[simp] theorem Tab.get_modify {α : Type} [Inhabited α] [DecidableEq α] (t : Tab α) (k j : Nat) (f : α → α) :
    (t.modify k f).get j = if j = k then f (t.get k) else t.get j := by
  simp [Tab.modify]

/-- The canonical form, unfolded: the head is no default and lies below the rest. -/
theorem Tab.wf_cons {α : Type} [Inhabited α] [DecidableEq α] (i : Nat) (v : α) (r : Tab α) :
    Tab.wf ((i, v) :: r) = true ↔ v ≠ default ∧ (∀ p ∈ r, i < p.1) ∧ Tab.wf r = true := by
  induction r generalizing i v with
  | nil => simp [Tab.wf]
  | cons p r ih =>
    obtain ⟨j, w⟩ := p
    rw [Tab.wf]
    simp only [Bool.and_eq_true, decide_eq_true_eq]
    constructor
    · rintro ⟨⟨h1, h2⟩, h3⟩
      refine ⟨h2, ?_, h3⟩
      intro q hq
      rcases List.mem_cons.mp hq with rfl | hq
      · exact h1
      · exact Nat.lt_trans h1 (((ih j w).mp h3).2.1 q hq)
    · rintro ⟨h1, h2, h3⟩
      exact ⟨⟨h2 (j, w) (by simp), h1⟩, h3⟩

/-- Writing an entry lists no index but its own and those listed before. -/
theorem Tab.mem_put {α : Type} [Inhabited α] [DecidableEq α] (t : Tab α) (k : Nat) (v : α) (p : Nat × α)
    (h : p ∈ t.put k v) : (p = (k, v) ∧ v ≠ default) ∨ p ∈ t := by
  induction t with
  | nil => by_cases hv : v = default <;> simp_all [Tab.put]
  | cons q r ih =>
    obtain ⟨i, w⟩ := q
    unfold Tab.put at h
    by_cases hv : v = default
    · simp only [hv, if_true] at h
      split at h
      · rcases ih (by rw [hv]; exact h) with h | h <;> simp [h]
      · rcases List.mem_cons.mp h with h | h
        · simp [h]
        · rcases ih (by rw [hv]; exact h) with h | h <;> simp [h]
    · rw [if_neg hv] at h
      split at h
      · rcases List.mem_cons.mp h with h | h
        · exact .inl ⟨h, hv⟩
        · exact .inr h
      · split at h
        · rcases List.mem_cons.mp h with h | h
          · exact .inl ⟨h, hv⟩
          · simp [h]
        · rcases List.mem_cons.mp h with h | h
          · simp [h]
          · rcases ih h with h | h <;> simp [h]

/-- A write keeps the canonical form. -/
theorem Tab.put_wf {α : Type} [Inhabited α] [DecidableEq α] (t : Tab α) (k : Nat) (v : α) (h : t.wf = true) :
    (t.put k v).wf = true := by
  induction t with
  | nil => by_cases hv : v = default <;> simp [Tab.put, Tab.wf, hv]
  | cons p r ih =>
    obtain ⟨i, w⟩ := p
    have hw := (Tab.wf_cons i w r).mp h
    unfold Tab.put
    by_cases hv : v = default
    · rw [if_pos hv]
      split
      · exact ih hw.2.2
      · refine (Tab.wf_cons i w _).mpr ⟨hw.1, ?_, ih hw.2.2⟩
        intro q hq
        rcases Tab.mem_put r k v q hq with hq | hq
        · exact absurd hv hq.2
        · exact hw.2.1 q hq
    · rw [if_neg hv]
      split
      · rename_i hk
        refine (Tab.wf_cons k v _).mpr ⟨hv, ?_, h⟩
        intro q hq
        rcases List.mem_cons.mp hq with rfl | hq
        · exact hk
        · exact Nat.lt_trans hk (hw.2.1 q hq)
      · split
        · subst_vars
          exact (Tab.wf_cons _ v r).mpr ⟨hv, hw.2.1, hw.2.2⟩
        · rename_i h1 h2
          refine (Tab.wf_cons i w _).mpr ⟨hw.1, ?_, ih hw.2.2⟩
          intro q hq
          rcases Tab.mem_put r k v q hq with hq | hq
          · rw [hq.1]; simp; omega
          · exact hw.2.1 q hq

/-- So does a change of one entry. -/
theorem Tab.modify_wf {α : Type} [Inhabited α] [DecidableEq α] (t : Tab α) (k : Nat) (f : α → α) (h : t.wf = true) :
    (t.modify k f).wf = true := Tab.put_wf t k _ h

/-- And a change of several entries. -/
theorem Tab.modifyAll_wf {α : Type} [Inhabited α] [DecidableEq α] (ks : List Nat) (f : Nat → α → α) (t : Tab α)
    (h : t.wf = true) : (t.modifyAll ks f).wf = true := by
  unfold Tab.modifyAll
  induction ks generalizing t with
  | nil => exact h
  | cons k ks ih => exact ih _ (Tab.put_wf t k _ h)

/-- Entries outside a list of indices stand. -/
theorem Tab.get_modifyAll_other {α : Type} [Inhabited α] [DecidableEq α] (ks : List Nat) (f : Nat → α → α) (t : Tab α)
    (j : Nat) (h : j ∉ ks) : (t.modifyAll ks f).get j = t.get j := by
  unfold Tab.modifyAll
  induction ks generalizing t with
  | nil => rfl
  | cons k ks ih =>
    simp only [List.mem_cons, not_or] at h
    rw [List.foldl_cons, ih _ h.2, Tab.get_put, if_neg h.1]

/-- Each entry of a list of indices without repeats is changed once. -/
theorem Tab.get_modifyAll_mem {α : Type} [Inhabited α] [DecidableEq α] (ks : List Nat) (f : Nat → α → α) (t : Tab α)
    (j : Nat) (hn : ks.Nodup) (h : j ∈ ks) : (t.modifyAll ks f).get j = f j (t.get j) := by
  unfold Tab.modifyAll
  induction ks generalizing t with
  | nil => cases h
  | cons k ks ih =>
    rw [List.nodup_cons] at hn
    rw [List.foldl_cons]
    rcases List.mem_cons.mp h with rfl | h'
    · have := Tab.get_modifyAll_other ks f (t.put j (f j (t.get j))) j hn.1
      unfold Tab.modifyAll at this
      rw [this, Tab.get_put, if_pos rfl]
    · have hjk : j ≠ k := by rintro rfl; exact hn.1 h'
      rw [ih _ hn.2 h', Tab.get_put, if_neg hjk]

/-- Entries that no element of a list names stand through a list of writes. -/
theorem Tab.foldl_put_other {α β : Type} [Inhabited β] [DecidableEq β] (l : List α) (g : α → Nat) (v : α → β) (t : Tab β)
    (k : Nat) (h : ∀ y ∈ l, g y ≠ k) : (l.foldl (fun t y => t.put (g y) (v y)) t).get k = t.get k := by
  induction l generalizing t with
  | nil => rfl
  | cons y l ih =>
    rw [List.foldl_cons, ih _ (fun z hz => h z (by simp [hz])), Tab.get_put, if_neg (Ne.symm (h y (by simp)))]

/-- An entry that elements of a list name, all with one value, has that value after a list of writes. -/
theorem Tab.foldl_put {α β : Type} [Inhabited β] [DecidableEq β] (l : List α) (g : α → Nat) (v : α → β) (t : Tab β)
    (x : α) (hx : x ∈ l) (hv : ∀ y ∈ l, g y = g x → v y = v x) :
    (l.foldl (fun t y => t.put (g y) (v y)) t).get (g x) = v x := by
  induction l generalizing t x with
  | nil => cases hx
  | cons y l ih =>
    rw [List.foldl_cons]
    by_cases hm : ∀ z ∈ l, g z ≠ g x
    · rw [Tab.foldl_put_other l g v _ _ hm]
      rcases List.mem_cons.mp hx with rfl | hx
      · simp
      · exact absurd rfl (hm x hx)
    · simp only [Classical.not_forall] at hm
      obtain ⟨z, hz, hzn⟩ := hm
      have hzx := Classical.not_not.mp hzn
      have hzv := hv z (by simp [hz]) hzx
      rw [← hzx, ← hzv]
      exact ih _ z hz fun q hq hqz => (hv q (by simp [hq]) (hqz.trans hzx)).trans hzv.symm

namespace Machine

/-! ### Guards -/

theorem whenDue_pos {c : Bool} (s : State) (f : State → State) (h : c = true) : whenDue c s f = .next (keep s (f s)) := by
  simp [whenDue, h]

theorem whenDue_neg {c : Bool} (s : State) (f : State → State) (h : c = false) : whenDue c s f = .next s := by
  simp [whenDue, h]

theorem whenTime_pos {c : Bool} (s : State) (f : State → State) (ht : s.timeRuns = true) (h : c = true) :
    whenTime c s f = .next (keep s (f s)) := by
  simp [whenTime, whenDue, ht, h]

theorem whenDrives_pos {c : Bool} (s : State) (f : State → State) (ht : s.timeRuns = true) (hd : s.drives = true)
    (h : c = true) : whenDrives c s f = .next (keep s (f s)) := by
  simp [whenDrives, whenTime, whenDue, ht, hd, h]

theorem whenCoreDue_pos {c : Bool} (s : State) (f : State → State) (hu : s.coreUp = true) (h : c = true) :
    whenCoreDue c s f = .next (keep s (f s)) := by
  simp [whenCoreDue, whenDue, hu, h]

theorem whenPort_pos (p : PortId) (s : State) (f : Nat → State → State) (hu : s.portsUp = true) (hp : p ≠ .peer) :
    whenPort p s f = .next (keep s (ibrSettle (f (portCode p) s))) := by
  simp [whenPort, whenDue, hu, hp]

/-! ### The recorder's commits -/

/-- A state that differs from another only in what commits touch. -/
def recOnly (u t : State) : Prop :=
  t = { u with recd := u.recd.committed t.recd, flt := { u.flt with inflight := t.flt.inflight, chipWait := t.flt.chipWait } } ∧
  t.recd.frameRecs = u.recd.frameRecs ∧ (u.recd.flushing = true → t.recd.flushing = true)

theorem committed_self (r : Rec) : r.committed r = r := rfl

theorem committed_committed (a b c : Rec) : (a.committed b).committed c = a.committed c := rfl

theorem recOnly_refl (s : State) : recOnly s s := ⟨rfl, rfl, id⟩

theorem recOnly_recd {a b : State} (h : recOnly a b) : b.recd = a.recd.committed b.recd := congrArg State.recd h.1

theorem recOnly_trans {a b c : State} (h : recOnly a b) (k : recOnly b c) : recOnly a c := by
  refine ⟨?_, k.2.1.trans h.2.1, fun f => k.2.2 (h.2.2 f)⟩
  have hb := recOnly_recd h
  generalize hr : c.recd = r at *
  rw [k.1, hb, committed_committed, hr]
  generalize b.recd = q at *
  rw [h.1]

theorem dropFrozen_committed (log : Nat) (r : Rec) :
    dropFrozen log r = r.committed (dropFrozen log r) ∧ (dropFrozen log r).frameRecs = r.frameRecs ∧
    (dropFrozen log r).flushing = r.flushing := by
  simp only [dropFrozen, Rec.setLog, Rec.log]
  split <;> (try split) <;> exact ⟨rfl, rfl, rfl⟩

theorem recOnly_setRecd {u t : State} (h : recOnly u t) (r : Rec) (hr : r.frameRecs = t.recd.frameRecs)
    (hc : r = t.recd.committed r) (hl : t.recd.flushing = true → r.flushing = true) : recOnly u { t with recd := r } := by
  have hb := recOnly_recd h
  refine ⟨?_, hr.trans h.2.1, fun f => hl (h.2.2 f)⟩
  have : r = u.recd.committed r := by rw [hc, hb]; rfl
  show { t with recd := r } = { u with recd := u.recd.committed r, flt := { u.flt with inflight := t.flt.inflight, chipWait := t.flt.chipWait } }
  rw [← this]
  generalize t.recd = q at *
  rw [h.1]

theorem stageOne_recOnly (a b c : Bool) (x : Record) (s : State) : recOnly s (stageOne a b c x s) := by
  unfold stageOne
  simp only
  split
  · obtain ⟨h1, h2, h2'⟩ := dropFrozen_committed 0
      { s.recd with
        stageOvf := inc32 s.recd.stageOvf, lostNext := true, ovfRaised := true
        freezeOvf := if (s.recd.frozen 0 || s.recd.frozen 1) = true then inc32 s.recd.freezeOvf else s.recd.freezeOvf }
    obtain ⟨h3, h4, h4'⟩ := dropFrozen_committed 1 (dropFrozen 0 { s.recd with
        stageOvf := inc32 s.recd.stageOvf, lostNext := true, ovfRaised := true
        freezeOvf := if (s.recd.frozen 0 || s.recd.frozen 1) = true then inc32 s.recd.freezeOvf else s.recd.freezeOvf })
    have k := recOnly_setRecd (recOnly_refl s) _ (h4.trans h2) (h3.trans (by rw [h1]; rfl))
      (fun f => by rw [h4', h2']; exact f)
    unfold raiseIf
    split
    · exact recOnly_trans k ⟨rfl, rfl, id⟩
    · exact k
  · exact ⟨rfl, rfl, id⟩

theorem foldStage_recOnly (a b c : Bool) (l : List Record) (s : State) :
    recOnly s (l.foldl (fun s x => stageOne a b c x s) s) := by
  induction l generalizing s with
  | nil => exact recOnly_refl s
  | cons x l ih => exact recOnly_trans (stageOne_recOnly a b c x s) (ih _)

theorem armReset_recOnly (n : Nat) (s : State) : recOnly s (armReset n s) := by
  unfold armReset
  split <;> exact ⟨rfl, rfl, id⟩

theorem commitOne_recOnly (w : WaitCommit) (s : State) : recOnly s (commitOne w s) := by
  unfold commitOne
  simp only
  split
  · refine recOnly_trans ?_ (armReset_recOnly _ _)
    exact recOnly_setRecd (foldStage_recOnly _ _ _ _ s) _ rfl rfl (fun _ => rfl)
  · split
    · exact foldStage_recOnly _ _ _ _ s
    · exact recOnly_setRecd (foldStage_recOnly _ _ _ _ s) _ rfl rfl id

theorem drainWaiting_recOnly (l : List WaitCommit) (s : State) : recOnly s (drainWaiting l s) := by
  induction l generalizing s with
  | nil => exact ⟨rfl, rfl, id⟩
  | cons w l ih =>
    unfold drainWaiting
    split
    · exact recOnly_trans (commitOne_recOnly w s) (ih _)
    · exact ⟨rfl, rfl, id⟩

/-- The commits touch the recorder's records and the messages on their way only, and take nothing from the running frame's
list. -/
theorem tryCommit_recOnly (s : State) : recOnly s (tryCommit s) := by
  unfold tryCommit
  split
  · exact recOnly_refl s
  · exact drainWaiting_recOnly _ s

/-! ### The acceptance of a command -/

@[simp] theorem accepting_sys (h : CmdHeader) (op : Nat) (p : List Byte) (s : State) : (s.accepting h op p).sys = s.sys := by
  cases hk : h.key <;> simp [State.accepting, spendCounter, noteTaken, hk]
@[simp] theorem accepting_wrm (h : CmdHeader) (op : Nat) (p : List Byte) (s : State) : (s.accepting h op p).wrm = s.wrm := by
  cases hk : h.key <;> simp [State.accepting, spendCounter, noteTaken, hk]
@[simp] theorem accepting_otp (h : CmdHeader) (op : Nat) (p : List Byte) (s : State) : (s.accepting h op p).otp = s.otp := by
  cases hk : h.key <;> simp [State.accepting, spendCounter, noteTaken, hk]
@[simp] theorem accepting_msr (h : CmdHeader) (op : Nat) (p : List Byte) (s : State) : (s.accepting h op p).msr = s.msr := by
  cases hk : h.key <;> simp [State.accepting, spendCounter, noteTaken, hk]
@[simp] theorem accepting_lop (h : CmdHeader) (op : Nat) (p : List Byte) (s : State) : (s.accepting h op p).lop = s.lop := by
  cases hk : h.key <;> simp [State.accepting, spendCounter, noteTaken, hk]
@[simp] theorem accepting_stg (h : CmdHeader) (op : Nat) (p : List Byte) (s : State) : (s.accepting h op p).stg = s.stg := by
  cases hk : h.key <;> simp [State.accepting, spendCounter, noteTaken, hk]
@[simp] theorem accepting_shr (h : CmdHeader) (op : Nat) (p : List Byte) (s : State) : (s.accepting h op p).shr = s.shr := by
  cases hk : h.key <;> simp [State.accepting, spendCounter, noteTaken, hk]
@[simp] theorem accepting_leh (h : CmdHeader) (op : Nat) (p : List Byte) (s : State) : (s.accepting h op p).leh = s.leh := by
  cases hk : h.key <;> simp [State.accepting, spendCounter, noteTaken, hk]
@[simp] theorem accepting_bat (h : CmdHeader) (op : Nat) (p : List Byte) (s : State) : (s.accepting h op p).bat = s.bat := by
  cases hk : h.key <;> simp [State.accepting, spendCounter, noteTaken, hk]
@[simp] theorem accepting_hsw (h : CmdHeader) (op : Nat) (p : List Byte) (s : State) : (s.accepting h op p).hsw = s.hsw := by
  cases hk : h.key <;> simp [State.accepting, spendCounter, noteTaken, hk]
@[simp] theorem accepting_seq (h : CmdHeader) (op : Nat) (p : List Byte) (s : State) : (s.accepting h op p).seq = s.seq := by
  cases hk : h.key <;> simp [State.accepting, spendCounter, noteTaken, hk]
@[simp] theorem accepting_flt (h : CmdHeader) (op : Nat) (p : List Byte) (s : State) : (s.accepting h op p).flt = s.flt := by
  cases hk : h.key <;> simp [State.accepting, spendCounter, noteTaken, hk]
@[simp] theorem accepting_mem (h : CmdHeader) (op : Nat) (p : List Byte) (s : State) : (s.accepting h op p).mem = s.mem := by
  cases hk : h.key <;> simp [State.accepting, spendCounter, noteTaken, hk]
@[simp] theorem accepting_red (h : CmdHeader) (op : Nat) (p : List Byte) (s : State) : (s.accepting h op p).red = s.red := by
  cases hk : h.key <;> simp [State.accepting, spendCounter, noteTaken, hk]
@[simp] theorem accepting_tie (h : CmdHeader) (op : Nat) (p : List Byte) (s : State) : (s.accepting h op p).tie = s.tie := by
  cases hk : h.key <;> simp [State.accepting, spendCounter, noteTaken, hk]
@[simp] theorem accepting_pnt (h : CmdHeader) (op : Nat) (p : List Byte) (s : State) : (s.accepting h op p).pnt = s.pnt := by
  cases hk : h.key <;> simp [State.accepting, spendCounter, noteTaken, hk]
@[simp] theorem accepting_pmb (h : CmdHeader) (op : Nat) (p : List Byte) (s : State) : (s.accepting h op p).pmb = s.pmb := by
  cases hk : h.key <;> simp [State.accepting, spendCounter, noteTaken, hk]
@[simp] theorem accepting_bch (h : CmdHeader) (op : Nat) (p : List Byte) (s : State) : (s.accepting h op p).bch = s.bch := by
  cases hk : h.key <;> simp [State.accepting, spendCounter, noteTaken, hk]
@[simp] theorem accepting_tap (h : CmdHeader) (op : Nat) (p : List Byte) (s : State) : (s.accepting h op p).tap = s.tap := by
  cases hk : h.key <;> simp [State.accepting, spendCounter, noteTaken, hk]
@[simp] theorem accepting_eng (h : CmdHeader) (op : Nat) (p : List Byte) (s : State) : (s.accepting h op p).eng = s.eng := by
  cases hk : h.key <;> simp [State.accepting, spendCounter, noteTaken, hk]
@[simp] theorem accepting_pin (h : CmdHeader) (op : Nat) (p : List Byte) (s : State) : (s.accepting h op p).pin = s.pin := by
  cases hk : h.key <;> simp [State.accepting, spendCounter, noteTaken, hk]
@[simp] theorem accepting_batch (h : CmdHeader) (op : Nat) (p : List Byte) (s : State) : (s.accepting h op p).batch = s.batch := by
  cases hk : h.key <;> simp [State.accepting, spendCounter, noteTaken, hk]
@[simp] theorem accepting_pd (h : CmdHeader) (op : Nat) (p : List Byte) (s : State) : (s.accepting h op p).pd = s.pd := by
  cases hk : h.key <;> simp [State.accepting, spendCounter, noteTaken, hk]
@[simp] theorem accepting_free (h : CmdHeader) (op : Nat) (p : List Byte) (s : State) : (s.accepting h op p).free = s.free := by
  cases hk : h.key <;> simp [State.accepting, spendCounter, noteTaken, hk]
@[simp] theorem accepting_pending (h : CmdHeader) (op : Nat) (p : List Byte) (s : State) : (s.accepting h op p).pending = s.pending := by
  cases hk : h.key <;> simp [State.accepting, spendCounter, noteTaken, hk]
@[simp] theorem accepting_recd (h : CmdHeader) (op : Nat) (p : List Byte) (s : State) : (s.accepting h op p).recd =
    { s.recd with cmdItems := s.recd.cmdItems ++ [commandItem (headerBytes h op p.length) p op] } := by
  cases hk : h.key <;> simp [State.accepting, spendCounter, noteTaken, hk]
@[simp] theorem accepting_tim (h : CmdHeader) (op : Nat) (p : List Byte) (s : State) : (s.accepting h op p).tim = { s.tim with taken := s.tim.taken + 1 } := by
  cases hk : h.key <;> simp [State.accepting, spendCounter, noteTaken, hk]
@[simp] theorem accepting_hst (h : CmdHeader) (op : Nat) (p : List Byte) (s : State) : (s.accepting h op p).hst = { s.hst with accCtr := s.countersAfter h } := by
  cases hk : h.key <;> simp [State.accepting, spendCounter, noteTaken, State.countersAfter, hk]
@[simp] theorem accepting_cfg (h : CmdHeader) (op : Nat) (p : List Byte) (s : State) : (s.accepting h op p).cfg = s.cfg := by simp [State.cfg]
@[simp] theorem accepting_drives (h : CmdHeader) (op : Nat) (p : List Byte) (s : State) : (s.accepting h op p).drives = s.drives := by simp [State.drives]

/-- What a boundary that takes commands is (R61, R62, R494). -/
theorem takes_spec {s : State} (h : s.takes = true) :
    s.coreUp = true ∧ s.tim.begun = true ∧ s.bch.inPause = false ∧ s.tim.taken < 48 := by
  simpa [State.takes, and_assoc] using h

/-- Once a boundary is under way, its first half is behind it. -/
theorem beginBoundary_begun {s : State} (h : s.tim.begun = true) : beginBoundary s = s := by simp [beginBoundary, h]

/-- A command at a boundary that takes it. -/
theorem acceptAlone_takes (h : CmdHeader) (op : Nat) (p : List Byte) (f : State → CmdOut) (s : State) (ht : s.takes = true) :
    acceptAlone h op p f s = .next (keep s (concludeCmd h op p (executeCmd h op f (noteTaken h op p s)) false)) := by
  obtain ⟨hu, hb, _, _⟩ := takes_spec ht
  have hk : keep s s = s := rfl
  simp [acceptAlone, whenCoreDue, whenDue, hu, hb, State.atBoundary, beginBoundary_begun, hk, ht]

/-- A command at a boundary that is due and not under way begins it, and is a step of the boundary begun. -/
theorem acceptAlone_due (h : CmdHeader) (op : Nat) (p : List Byte) (f : State → CmdOut) (s : State) (hu : s.coreUp = true)
    (hd : s.tim.frameDue = true) :
    acceptAlone h op p f s =
      if (keep s (beginBoundary s)).takes = true then acceptAlone h op p f (keep s (beginBoundary s))
      else .next (keep s (beginBoundary s)) := by
  have hd' : (s.coreUp && s.atBoundary) = true := by simp [hu, hd, State.atBoundary]
  by_cases ht : (keep s (beginBoundary s)).takes = true
  · rw [if_pos ht, acceptAlone_takes _ _ _ _ _ ht]
    unfold acceptAlone whenCoreDue whenDue
    simp only [hd', ht, if_true]
    rfl
  · rw [if_neg ht]
    unfold acceptAlone whenCoreDue whenDue
    simp only [hd', ht, if_true]
    rfl

/-- The command executes unless crucible does not serve its block. -/
theorem executeCmd_served (h : CmdHeader) (op : Nat) (p : List Byte) (f : State → CmdOut) (s : State)
    (hc : s.sys.crucible = false ∨ crucibleBlocks.contains (op / 256) = true) :
    executeCmd h op f (noteTaken h op p s) = f (s.accepting h op p) := by
  have hcr : (s.accepting h op p).sys.crucible = s.sys.crucible := by simp
  unfold executeCmd
  show (if ((s.accepting h op p).sys.crucible && !crucibleBlocks.contains (op / 256)) = true then _ else _) = _
  rw [hcr]
  rcases hc with hc | hc <;> rw [hc] <;> simp [State.accepting]

/-- Its record is added, and its reply written, with nothing else touched. -/
theorem concludeCmd_spec (h : CmdHeader) (op : Nat) (p : List Byte) (o : CmdOut) (hd : o.deferred = false) :
    concludeCmd h op p o false =
      writeReply h.port h.mbox (replyBytes o.st op o.status o.st.tim.frame h.counter h.key o.reply)
        (addRecord (commandRecord o.st h op o.status p) o.st) := by
  simp [concludeCmd, hd, replyBytes, macOf, addRecord, State.cfg]

/-- The acceptance of a command whose effect, with crucible's own refusal, leaves the ports, the peer, the fuses and the tables
alone: it answers a next state with the reply, the record and the effect, and nothing else. -/
theorem acceptAlone_out (h : CmdHeader) (op : Nat) (p : List Byte) (f : State → CmdOut) (s : State)
    (hu : s.takes = true) (u : State) (st : Nat) (body : List Byte) (objs : List (Nat × Nat × Nat))
    (he : executeCmd h op f (noteTaken h op p s) = { st := u, status := st, reply := body, objs := objs, deferred := false })
    (hh : u.hst = (s.accepting h op p).hst) (ht : u.otp = s.otp) (hs : u.sys.crucible = s.sys.crucible)
    (hfr : u.tim.frame = s.tim.frame) (hb : u.batch = s.batch) :
    ∃ t, acceptAlone h op p f s = .next t ∧
      t.recd.frameRecs = u.recd.frameRecs ++ [{ commandRecord s h op st p with frame := s.tim.frame }] ∧
      t.recd.cmdItems = u.recd.cmdItems ∧ t.tim.taken = u.tim.taken ∧
      Replied h op st body { s with red := u.red } t ∧ OnlyPorts { u with pending := s.pending } t := by
  have hcrit : isCritical u op = isCritical s op := by simp [isCritical, hs, State.cfg, hb]
  have hrb : ∀ a b c d e, replyBytes u op a b c d e = replyBytes s op a b c d e := by
    intro a b c d e; simp [replyBytes, macOf, ht, State.cfg, hb]
  refine ⟨_, acceptAlone_takes h op p f s hu, ?_⟩
  simp only [he]
  rw [concludeCmd_spec _ _ _ _ rfl]
  simp only [hrb, hfr]
  have hrec : commandRecord u h op st p = commandRecord s h op st p := by
    simp [commandRecord, hcrit]
  rw [hrec]
  by_cases hp : h.port = .peer
  · rw [hp]
    refine ⟨?_, rfl, rfl, ⟨fun _ => ⟨?_, ?_⟩, fun hn => absurd hp hn⟩, ?_⟩
    · simp [writeReply, keep, addRecord, hfr]
    · simp [writeReply, keep, addRecord, hh, State.countersAfter]
    · simp [writeReply, keep, addRecord, State.replyTo, replyBytes, macOf, State.cfg]
    · simp [OnlyPorts, writeReply, keep, addRecord, ht]
  · have hw : ∀ b x, writeReply h.port h.mbox b x = { x with
        hst := { x.hst with mboxes := x.hst.mboxes.modify h.mbox fun m : Mailbox =>
          { m with st := .done, ready := true, reply := b } } } := by
      intro b x
      cases hq : h.port with
      | peer => exact absurd hq hp
      | mgt => rfl
      | fhp => rfl
    rw [hw]
    refine ⟨?_, rfl, rfl, ⟨fun hn => absurd hn hp, fun _ => ⟨?_, ?_⟩⟩, ?_⟩
    · simp [keep, addRecord, hfr]
    · simp [keep, addRecord, hh, State.countersAfter, State.replyTo, replyBytes, macOf, State.cfg]
    · simp [keep, addRecord]
    · simp [OnlyPorts, keep, addRecord, ht]

/-- The same for a command that crucible serves, or outside crucible: its own effect is the one that counts. -/
theorem acceptAlone_answered (h : CmdHeader) (op : Nat) (p : List Byte) (f : State → CmdOut) (s : State)
    (hu : s.takes = true) (hc : s.sys.crucible = false ∨ crucibleBlocks.contains (op / 256) = true) (u : State)
    (st : Nat) (body : List Byte) (objs : List (Nat × Nat × Nat))
    (ho : f (s.accepting h op p) = { st := u, status := st, reply := body, objs := objs, deferred := false })
    (hh : u.hst = (s.accepting h op p).hst) (ht : u.otp = s.otp) (hs : u.sys.crucible = s.sys.crucible)
    (hfr : u.tim.frame = s.tim.frame) (hb : u.batch = s.batch) :
    ∃ t, acceptAlone h op p f s = .next t ∧
      t.recd.frameRecs = u.recd.frameRecs ++ [{ commandRecord s h op st p with frame := s.tim.frame }] ∧
      t.recd.cmdItems = u.recd.cmdItems ∧ t.tim.taken = u.tim.taken ∧
      Replied h op st body { s with red := u.red } t ∧ OnlyPorts { u with pending := s.pending } t :=
  acceptAlone_out h op p f s hu u st body objs ((executeCmd_served h op p f s hc).trans ho) hh ht hs hfr hb

/-- The same where the effect leaves the clock and the running frame's records alone too. -/
theorem acceptAlone_done (h : CmdHeader) (op : Nat) (p : List Byte) (f : State → CmdOut) (s : State)
    (hu : s.takes = true) (hc : s.sys.crucible = false ∨ crucibleBlocks.contains (op / 256) = true) (u : State)
    (body : List Byte) (objs : List (Nat × Nat × Nat)) (ho : f (s.accepting h op p) = wrote u objs body)
    (hh : u.hst = (s.accepting h op p).hst) (hr : u.red = s.red) (ht : u.otp = s.otp) (hs : u.sys.crucible = s.sys.crucible)
    (htm : u.tim = (s.accepting h op p).tim) (hb : u.batch = s.batch) (hf : u.recd.frameRecs = s.recd.frameRecs)
    (hi : u.recd.cmdItems = (s.accepting h op p).recd.cmdItems) :
    ∃ t, acceptAlone h op p f s = .next t ∧ Answered h op 0 p body s t ∧ OnlyPorts { u with pending := s.pending } t := by
  obtain ⟨t, h1, h2, h3, h4, h5, h6⟩ :=
    acceptAlone_answered h op p f s hu hc u 0 body objs ho hh ht hs (by rw [htm]; simp) hb
  rw [hr] at h5
  refine ⟨t, h1, ⟨⟨by rw [h2, hf], by rw [h3, hi]; simp, by rw [h4, htm]; simp⟩, h5⟩, h6⟩

/-- The acceptance of a command whose reply comes later. -/
theorem acceptAlone_putOff (h : CmdHeader) (op : Nat) (p : List Byte) (f : State → CmdOut) (s : State)
    (hu : s.takes = true) (hc : s.sys.crucible = false ∨ crucibleBlocks.contains (op / 256) = true) (u : State) (w : Hst)
    (ho : f (s.accepting h op p) = later u)
    (h1 : u.hst = { w with accCtr := s.countersAfter h }) (h3 : w.deferred = s.hst.deferred) (hr : u.red = s.red)
    (ht : u.otp = s.otp) (hs : u.sys.crucible = s.sys.crucible)
    (htm : u.tim = (s.accepting h op p).tim) (hb : u.batch = s.batch) (hf : u.recd.frameRecs = s.recd.frameRecs)
    (hi : u.recd.cmdItems = (s.accepting h op p).recd.cmdItems) :
    ∃ t, acceptAlone h op p f s = .next t ∧ PutOff h op p w s t ∧ OnlyPorts { u with pending := s.pending } t := by
  have he := executeCmd_served h op p f s hc
  rw [ho] at he
  have hfr : u.tim.frame = s.tim.frame := by rw [htm]; simp
  have hcrit : isCritical u op = isCritical s op := by simp [isCritical, hs, State.cfg, hb]
  have hrec : commandRecord u h op 0 p = commandRecord s h op 0 p := by simp [commandRecord, hcrit]
  refine ⟨_, acceptAlone_takes h op p f s hu, ?_⟩
  simp only [he]
  refine ⟨⟨⟨?_, ?_, ?_⟩, ?_, ?_⟩, ?_⟩
  · simp [keep, concludeCmd, later, addRecord, hrec, hfr, hf]
  · simpa [keep, concludeCmd, later, addRecord] using hi
  · simp [keep, concludeCmd, later, addRecord, htm]
  · simp [keep, concludeCmd, later, addRecord, hr]
  · simp [keep, concludeCmd, later, addRecord, h1, h3, hfr]
  · simp [OnlyPorts, keep, concludeCmd, later, addRecord, ht]

end Machine
end Sys2Proof
end

