-- ==== Sys2Proof/Laws/Stages.lean ====
section
/-! SUPPORT. What the shared operations of loops, stages and phases touch (chapters 04 and 05). -/
namespace Sys2Proof.Machine

@[simp] theorem setLoop_loop (n m : Nat) (f : Loop → Loop) (s : State) :
    (setLoop n f s).loop m = if m = n then f (s.loop n) else s.loop m := by simp [State.loop, setLoop]
@[simp] theorem setStage_stage (n m : Nat) (f : Stage → Stage) (s : State) :
    (setStage n f s).stage m = if m = n then f (s.stage n) else s.stage m := by simp [State.stage, setStage]
@[simp] theorem setPhase_phase (n m : Nat) (f : Phase → Phase) (s : State) :
    (setPhase n f s).phase m = if m = n then f (s.phase n) else s.phase m := by simp [State.phase, setPhase]
@[simp] theorem setStage_loop (n m : Nat) (f : Stage → Stage) (s : State) : (setStage n f s).loop m = s.loop m := rfl
@[simp] theorem setPhase_loop (n m : Nat) (f : Phase → Phase) (s : State) : (setPhase n f s).loop m = s.loop m := rfl
@[simp] theorem setLoop_stage (n m : Nat) (f : Loop → Loop) (s : State) : (setLoop n f s).stage m = s.stage m := rfl
@[simp] theorem setPhase_stage (n m : Nat) (f : Phase → Phase) (s : State) : (setPhase n f s).stage m = s.stage m := rfl
@[simp] theorem setLoop_phase (n m : Nat) (f : Loop → Loop) (s : State) : (setLoop n f s).phase m = s.phase m := rfl
@[simp] theorem setStage_phase (n m : Nat) (f : Stage → Stage) (s : State) : (setStage n f s).phase m = s.phase m := rfl
@[simp] theorem raise_loop (k : Nat × Nat) (i c m : Nat) (s : State) : (raise k i c s).loop m = s.loop m := rfl
@[simp] theorem raise_stage (k : Nat × Nat) (i c m : Nat) (s : State) : (raise k i c s).stage m = s.stage m := rfl
@[simp] theorem raise_phase (k : Nat × Nat) (i c m : Nat) (s : State) : (raise k i c s).phase m = s.phase m := rfl

/-- A fold of steps that each keep a property of the state keeps it. -/
theorem foldl_inv {α : Type} (P : State → Prop) (f : State → α → State) (l : List α) (s : State) (h0 : P s)
    (h : ∀ s x, P s → P (f s x)) : P (l.foldl f s) := by
  induction l generalizing s with
  | nil => exact h0
  | cons x l ih => exact ih _ (h s x h0)

/-- Only loops, stages, phases and the messages on their way differ. -/
def loopsOnly (s t : State) : Prop :=
  t = { s with lop := t.lop, stg := t.stg, flt := { s.flt with inflight := t.flt.inflight } }

theorem loopsOnly_refl (s : State) : loopsOnly s s := rfl

theorem loopsOnly_trans {a b c : State} (h : loopsOnly a b) (k : loopsOnly b c) : loopsOnly a c := by
  unfold loopsOnly at *
  rw [k, h]

theorem loopsOnly_setLoop {a b : State} (h : loopsOnly a b) (n : Nat) (f : Loop → Loop) : loopsOnly a (setLoop n f b) :=
  loopsOnly_trans h rfl
theorem loopsOnly_setStage {a b : State} (h : loopsOnly a b) (n : Nat) (f : Stage → Stage) : loopsOnly a (setStage n f b) :=
  loopsOnly_trans h rfl
theorem loopsOnly_setPhase {a b : State} (h : loopsOnly a b) (n : Nat) (f : Phase → Phase) : loopsOnly a (setPhase n f b) :=
  loopsOnly_trans h rfl
theorem loopsOnly_raise {a b : State} (h : loopsOnly a b) (k : Nat × Nat) (i c : Nat) : loopsOnly a (raise k i c b) :=
  loopsOnly_trans h rfl

/-- Only phases differ. -/
def phasesOnly (s t : State) : Prop := t = { s with stg := { s.stg with phases := t.stg.phases } }

theorem phasesOnly_refl (s : State) : phasesOnly s s := rfl

theorem phasesOnly_trans {a b c : State} (h : phasesOnly a b) (k : phasesOnly b c) : phasesOnly a c := by
  unfold phasesOnly at *
  rw [k, h]

theorem phasesOnly_setPhase {a b : State} (h : phasesOnly a b) (n : Nat) (f : Phase → Phase) :
    phasesOnly a (setPhase n f b) := phasesOnly_trans h rfl

theorem phasesOnly_loops {a b : State} (h : phasesOnly a b) : loopsOnly a b := by
  unfold phasesOnly loopsOnly at *; rw [h]

theorem phasesOnly_stage {a b : State} (h : phasesOnly a b) (n : Nat) : b.stage n = a.stage n := by
  unfold State.stage; rw [h]

theorem phasesOnly_loop {a b : State} (h : phasesOnly a b) (n : Nat) : b.loop n = a.loop n := by
  unfold State.loop; rw [h]

theorem setOffsets_phasesOnly (st : Nat) (s : State) : phasesOnly s (setOffsets st s) :=
  foldl_inv (phasesOnly s) _ _ s rfl fun _ _ h => phasesOnly_setPhase h _ _

theorem setOffsets_active (st m : Nat) (s : State) :
    ((setOffsets st s).phase m).active = (s.phase m).active ∧ ((setOffsets st s).phase m).masked = (s.phase m).masked := by
  unfold setOffsets
  refine foldl_inv (fun t => (t.phase m).active = (s.phase m).active ∧ (t.phase m).masked = (s.phase m).masked) _ _ s
    ⟨rfl, rfl⟩ ?_
  intro t x h
  simp only [setPhase_phase]
  split
  · subst_vars; exact h
  · exact h

theorem settlePhase_phasesOnly (i : Nat) (s : State) : phasesOnly s (settlePhase i s) := by
  unfold settlePhase
  simp only
  repeat' split
  all_goals rfl

theorem settlePhases_phasesOnly (s : State) : phasesOnly s (settlePhases s) :=
  foldl_inv (phasesOnly s) _ _ s rfl fun _ _ h => phasesOnly_trans h (settlePhase_phasesOnly _ _)

theorem settlePhase_active (i m : Nat) (s : State) :
    ((settlePhase i s).phase m).active = (s.phase m).active ∧ ((settlePhase i s).phase m).masked = (s.phase m).masked := by
  unfold settlePhase
  simp only
  have hs : ∀ l : PwmLevel,
      ((setPhase i (fun p => { p with onTime := false, blanked := false, pwm := l }) s).phase m).active = (s.phase m).active ∧
      ((setPhase i (fun p => { p with onTime := false, blanked := false, pwm := l }) s).phase m).masked =
        (s.phase m).masked := by
    intro l
    rw [setPhase_phase]
    split <;> simp_all
  repeat' split
  all_goals first | exact ⟨rfl, rfl⟩ | exact hs _

theorem settlePhases_active (m : Nat) (s : State) :
    ((settlePhases s).phase m).active = (s.phase m).active ∧ ((settlePhases s).phase m).masked = (s.phase m).masked := by
  unfold settlePhases
  refine foldl_inv (fun t => (t.phase m).active = (s.phase m).active ∧ (t.phase m).masked = (s.phase m).masked) _ _ s
    ⟨rfl, rfl⟩ ?_
  intro t x h
  have := settlePhase_active x m t
  exact ⟨this.1.trans h.1, this.2.trans h.2⟩

theorem allActive_loopsOnly (st : Nat) (s : State) : loopsOnly s (allActive st s) :=
  loopsOnly_trans (b := setStage st (fun x => { x with shedding := none, j := 0, dwell := 0 })
    { s with stg := { s.stg with phases := s.stg.phases.modifyAll (phasesOf s.cfg st) fun (_ : Nat) (p : Phase) =>
      { p with active := (s.stage st).live && !p.masked, shed := false, atten := 256
               nxtActive := (s.stage st).live && !p.masked, nxtShed := false, nxtAtten := 256 } } })
    rfl (phasesOnly_loops (setOffsets_phasesOnly st _))

theorem allActive_loop (st m : Nat) (s : State) : (allActive st s).loop m = s.loop m := by
  unfold allActive
  simp only
  rw [phasesOnly_loop (setOffsets_phasesOnly st _)]
  rfl

theorem allActive_stage (st m : Nat) (s : State) :
    (allActive st s).stage m = if m = st then { s.stage st with shedding := none, j := 0, dwell := 0 } else s.stage m := by
  unfold allActive
  simp only
  rw [phasesOnly_stage (setOffsets_phasesOnly st _), setStage_stage]
  rfl

theorem phasesOf_nodup (b : Batch) (st : Nat) : (phasesOf b st).Nodup := List.Nodup.sublist List.filter_sublist List.nodup_range

theorem allActive_active (st m : Nat) (s : State) :
    ((allActive st s).phase m).masked = (s.phase m).masked ∧
    (m ∈ phasesOf s.cfg st → ((allActive st s).phase m).active = ((s.stage st).live && !(s.phase m).masked)) := by
  unfold allActive
  simp only
  rw [(setOffsets_active st m _).1, (setOffsets_active st m _).2, setStage_phase]
  unfold State.phase
  by_cases h : m ∈ phasesOf s.cfg st
  · rw [Tab.get_modifyAll_mem _ _ _ _ (phasesOf_nodup _ _) h]
    exact ⟨rfl, fun _ => rfl⟩
  · rw [Tab.get_modifyAll_other _ _ _ _ h]
    exact ⟨rfl, fun k => absurd k h⟩

theorem startLoop_loopsOnly (l : Nat) (s : State) : loopsOnly s (startLoop l s) := rfl

theorem startLoop_stage (l m : Nat) (s : State) : (startLoop l s).stage m = s.stage m := rfl

theorem startLoop_phase (l m : Nat) (s : State) : (startLoop l s).phase m = s.phase m := rfl

theorem startLoop_other (l m : Nat) (s : State) (h : m ≠ l) : (startLoop l s).loop m = s.loop m := by
  simp [startLoop, State.loop, setLoop, h]

theorem startLoop_enabled (l m : Nat) (s : State) : ((startLoop l s).loop m).enabled = (s.loop m).enabled := by
  by_cases h : m = l
  · subst h; simp [startLoop, State.loop, setLoop]
  · rw [startLoop_other l m s h]

theorem startStage_loopsOnly (st : Nat) (s : State) : loopsOnly s (startStage st s) := by
  unfold startStage
  simp only
  split
  · exact rfl
  · split
    · exact loopsOnly_trans (loopsOnly_trans (loopsOnly_setStage (loopsOnly_setStage
        (loopsOnly_setStage (loopsOnly_refl s) _ _) _ _) _ _) (allActive_loopsOnly st _)) (startLoop_loopsOnly st _)
    · exact loopsOnly_trans (loopsOnly_setStage (loopsOnly_setStage (loopsOnly_setStage (loopsOnly_refl s) _ _) _ _) _ _)
        (allActive_loopsOnly st _)

/-- A start makes a stage RUNNING where it finds an unmasked phase, else HALTED (R161). -/
theorem startStage_st (st : Nat) (s : State) :
    ((startStage st s).stage st).st = if (s.unmasked st).isEmpty then .halted else .running := by
  unfold startStage
  simp only
  split
  · simp
  · split
    · rw [startLoop_stage, allActive_stage]; simp
    · rw [allActive_stage]; simp

theorem startStage_kept (st m : Nat) (s : State) :
    ((startStage st s).stage m).enabled = (s.stage m).enabled ∧ ((startStage st s).stage m).ovLatch = (s.stage m).ovLatch ∧
    ((startStage st s).loop m).enabled = (s.loop m).enabled ∧ ((startStage st s).phase m).masked = (s.phase m).masked := by
  unfold startStage
  simp only
  split
  · simp; split <;> simp_all
  · split
    · rw [startLoop_stage, allActive_stage, startLoop_enabled, allActive_loop, startLoop_phase, (allActive_active _ _ _).1]
      simp; split <;> simp_all
    · rw [allActive_stage, allActive_loop, (allActive_active _ _ _).1]
      simp; split <;> simp_all

theorem startStage_other (st m : Nat) (s : State) (h : m ≠ st) : (startStage st s).stage m = s.stage m := by
  unfold startStage
  simp only
  split
  · simp [h]
  · split
    · rw [startLoop_stage, allActive_stage]; simp [h]
    · rw [allActive_stage]; simp [h]

/-- A start makes every unmasked phase of the stage active (R161). -/
theorem startStage_active (st m : Nat) (s : State) (hn : (s.unmasked st).isEmpty = false) (hm : m ∈ phasesOf s.cfg st) :
    ((startStage st s).phase m).active = !(s.phase m).masked := by
  unfold startStage
  simp only
  rw [if_neg (by simp [hn])]
  generalize hX : setStage st (fun x => { x with modeTick := x.mode, rampRef := x.refValue }) _ = X
  have hc : X.cfg = s.cfg := by rw [← hX]; rfl
  have hp : X.phase m = s.phase m := by rw [← hX]; rfl
  have hl : (X.stage st).live = true := by rw [← hX]; simp [Stage.live]
  have := (allActive_active st m X).2 (by rw [hc]; exact hm)
  split
  · rw [startLoop_phase, this, hl, hp]; rfl
  · rw [this, hl, hp]; rfl

theorem quitStage_loopsOnly (st : Nat) (dest : StageState) (s : State) : loopsOnly s (quitStage st dest s) :=
  loopsOnly_trans (loopsOnly_trans (loopsOnly_setStage (loopsOnly_refl s) _ _) (allActive_loopsOnly st _)) (phasesOnly_loops (settlePhases_phasesOnly _))

theorem quitStage_stage (st m : Nat) (dest : StageState) (s : State) :
    (quitStage st dest s).stage m = if m = st then { s.stage st with
      st := dest, switching := false, offDue := false, midDue := false, handStep := none, transferDue := false
      inHoldup := false, shedding := none, j := 0, dwell := 0 } else s.stage m := by
  unfold quitStage
  rw [phasesOnly_stage (settlePhases_phasesOnly _), allActive_stage]
  split <;> simp_all

theorem changeMode_loopsOnly (st : Nat) (m : Mode) (s : State) : loopsOnly s (changeMode st m s) := by
  unfold changeMode
  simp only
  split
  · rfl
  · exact loopsOnly_trans (loopsOnly_trans (loopsOnly_setStage (loopsOnly_refl s) _ _) (allActive_loopsOnly st _)) (phasesOnly_loops (settlePhases_phasesOnly _))

theorem changeMode_mode (st : Nat) (m : Mode) (s : State) :
    ((changeMode st m s).stage st).mode = m ∧ ((changeMode st m s).stage st).cmdMode = (s.stage st).cmdMode ∧
    ((changeMode st m s).stage st).st = (s.stage st).st := by
  unfold changeMode
  simp only
  split
  · simp_all
  · rw [phasesOnly_stage (settlePhases_phasesOnly _), allActive_stage]
    simp

theorem dropLoop_loopsOnly (l : Nat) (b : Bool) (s : State) : loopsOnly s (dropLoop l b s) := rfl

theorem enableLoop_loopsOnly (l : Nat) (on : Bool) (s : State) : loopsOnly s (enableLoop l on s) := by
  unfold enableLoop
  simp only
  split
  · split
    · rfl
    · split
      · exact loopsOnly_trans (loopsOnly_setLoop (loopsOnly_refl s) _ _) (startLoop_loopsOnly l _)
      · split
        · exact loopsOnly_trans (loopsOnly_setLoop (loopsOnly_refl s) _ _) (startLoop_loopsOnly l _)
        · exact loopsOnly_trans (loopsOnly_setLoop (loopsOnly_refl s) _ _) (startLoop_loopsOnly l _)
        · split
          · exact loopsOnly_trans (loopsOnly_setLoop (loopsOnly_refl s) _ _) (startStage_loopsOnly l _)
          · rfl
        · rfl
  · split
    · rfl
    · rfl

/-- The enable of every loop after one of them is commanded (R135). -/
theorem enableLoop_enabled (l m : Nat) (on : Bool) (s : State) :
    ((enableLoop l on s).loop m).enabled = if m = l then on else (s.loop m).enabled := by
  have h0 : ∀ t : State, (t.loop m).enabled = (if m = l then true else (s.loop m).enabled) →
      ((startLoop l t).loop m).enabled = (if m = l then true else (s.loop m).enabled) ∧
      ((startStage l t).loop m).enabled = (if m = l then true else (s.loop m).enabled) := fun t ht =>
    ⟨(startLoop_enabled l m t).trans ht, (startStage_kept l m t).2.2.1.trans ht⟩
  have h1 : ((setLoop l (fun x => { x with enabled := true, stopped := false, running := false }) s).loop m).enabled =
      if m = l then true else (s.loop m).enabled := by
    rw [setLoop_loop]; split <;> rfl
  unfold enableLoop
  cases on
  · simp only [Bool.false_eq_true, if_false]
    split
    · simp only [setLoop_loop, dropLoop]; split <;> simp_all
    · split <;> simp_all
  · simp only [if_true]
    split
    · split <;> simp_all
    · split
      · exact (h0 _ h1).1
      · split
        · exact (h0 _ h1).1
        · exact (h0 _ h1).1
        · split
          · exact (h0 _ h1).2
          · exact h1
        · exact h1

end Sys2Proof.Machine
end

