-- ==== Sys2Proof/Laws/Channels.lean ====
section
/-! SUPPORT. What the shared operations of channels touch (chapter 09, R201). -/
namespace Sys2Proof.Machine

@[simp] theorem setChan_chan (n m : Nat) (f : Channel → Channel) (s : State) :
    (setChan n f s).chan m = if m = n then f (s.chan n) else s.chan m := by simp [State.chan, setChan]
@[simp] theorem raise_chan (k : Nat × Nat) (i c m : Nat) (s : State) : (raise k i c s).chan m = s.chan m := rfl

/-- Only one channel and the messages on their way differ. -/
def chanOnly (c : Nat) (s t : State) : Prop :=
  (∀ m, m ≠ c → t.chan m = s.chan m) ∧
  t = { s with hsw := { s.hsw with chans := t.hsw.chans }, flt := { s.flt with inflight := t.flt.inflight } }

theorem chanOnly_refl (c : Nat) (s : State) : chanOnly c s s := ⟨fun _ _ => rfl, rfl⟩

theorem chanOnly_trans {c : Nat} {x y z : State} (h : chanOnly c x y) (k : chanOnly c y z) : chanOnly c x z := by
  refine ⟨fun m hm => (k.1 m hm).trans (h.1 m hm), ?_⟩
  rw [k.2, h.2]

theorem setChan_chanOnly (c : Nat) (f : Channel → Channel) (s : State) : chanOnly c s (setChan c f s) :=
  ⟨fun m hm => by simp [hm], rfl⟩

theorem raise_chanOnly (c : Nat) (k : Nat × Nat) (i x : Nat) (s : State) : chanOnly c s (raise k i x s) :=
  ⟨fun _ _ => rfl, rfl⟩

theorem startChan_chanOnly (c : Nat) (s : State) : chanOnly c s (startChan c s) :=
  chanOnly_trans (raise_chanOnly c _ _ _ s) (setChan_chanOnly c _ _)

/-- A start makes a channel STARTING and leaves its enable and its shed limit. -/
theorem startChan_kept (c : Nat) (s : State) :
    ((startChan c s).chan c).st = .starting ∧ ((startChan c s).chan c).shed = (s.chan c).shed ∧
    ((startChan c s).chan c).enabled = (s.chan c).enabled := by
  unfold startChan
  simp only [setChan_chan, if_true]
  split
  · exact ⟨rfl, rfl, rfl⟩
  · split
    · exact ⟨rfl, rfl, rfl⟩
    · split <;> exact ⟨rfl, rfl, rfl⟩

/-- A start leaves none pending, and no latch that has been sampled, except under a shutdown of the power die. -/
theorem startChan_latch (c : Nat) (s : State) :
    ((startChan c s).chan c).pending = false ∧
    (s.sys.pdShutdown = false → (s.chan c).tripSeen = true → ((startChan c s).chan c).latched = none) := by
  unfold startChan
  simp only [setChan_chan, if_true]
  refine ⟨?_, ?_⟩
  · split
    · rfl
    · split
      · rfl
      · split <;> rfl
  · intro hp ht
    simp [hp, ht]
    split <;> rfl

/-- A turn-off leaves the channel in the state that it leads to, with its enable. -/
theorem turnOff_kept (c : Nat) (dest : ChState) (s : State) :
    ((turnOff c dest s).chan c).st = dest ∧ ((turnOff c dest s).chan c).enabled = (s.chan c).enabled := by
  unfold turnOff
  simp only [setChan_chan, if_true]
  split <;> exact ⟨rfl, rfl⟩

theorem turnOff_chanOnly (c : Nat) (dest : ChState) (s : State) : chanOnly c s (turnOff c dest s) := setChan_chanOnly c _ s

theorem toggleChan_chanOnly (c f : Nat) (s : State) : chanOnly c s (toggleChan c f s) := by
  unfold toggleChan
  simp only
  split
  · split <;> exact setChan_chanOnly c _ s
  · split
    · exact setChan_chanOnly c _ s
    · split
      · exact setChan_chanOnly c _ s
      · split
        · exact setChan_chanOnly c _ s
        · exact startChan_chanOnly c s

theorem toggleChan_kept (c f : Nat) (s : State) :
    ((toggleChan c f s).chan c).shed = (s.chan c).shed ∧ ((toggleChan c f s).chan c).enabled = (s.chan c).enabled := by
  unfold toggleChan
  simp only
  split
  · split <;> simp
  · split
    · simp
    · split
      · simp
      · split
        · simp
        · exact (startChan_kept c s).2

/-- A shed limit is released: the channel's limit ends, its slot leaves the lists, and no other channel changes. -/
theorem releaseShed_spec (c f : Nat) (s : State) (hf : s.tim.frame = f) :
    (∀ m, m ≠ c → (releaseShed c f s).chan m = s.chan m) ∧ ((releaseShed c f s).chan c).shed = none ∧
    releaseShed c f s = { s with
      hsw := { s.hsw with chans := (releaseShed c f s).hsw.chans }
      flt := { s.flt with inflight := (releaseShed c f s).flt.inflight }
      shr := { s.shr with hold := { s.shr.hold with
        standing := s.shr.hold.standing.filter (· ≠ c), trippedUnder := s.shr.hold.trippedUnder.filter (· ≠ c) } } } := by
  let s0 := setHold (fun h => { h with
    standing := h.standing.filter (· ≠ c), trippedUnder := h.trippedUnder.filter (· ≠ c) }) s
  let s2 := raise kShedRelease c 0 (setChan c (fun x => { x with shed := none }) s0)
  have h2 : chanOnly c s0 s2 := chanOnly_trans (setChan_chanOnly c _ _) (raise_chanOnly c _ _ _ _)
  have hs : (s2.chan c).shed = none := by simp [s2]
  have key : ∀ t, chanOnly c s0 t → (t.chan c).shed = none →
      (∀ m, m ≠ c → t.chan m = s.chan m) ∧ (t.chan c).shed = none ∧
      t = { s with
        hsw := { s.hsw with chans := t.hsw.chans }, flt := { s.flt with inflight := t.flt.inflight }
        shr := { s.shr with hold := { s.shr.hold with
          standing := s.shr.hold.standing.filter (· ≠ c), trippedUnder := s.shr.hold.trippedUnder.filter (· ≠ c) } } } := by
    intro t ht hn
    refine ⟨fun m hm => ht.1 m hm, hn, ?_⟩
    rw [ht.2]
    rfl
  have hr : releaseShed c f s = if s.shr.hold.trippedUnder.contains c && s.cfg.hold.shedRestart && (s.chan c).st = .tripped &&
      !(s.chan c).pending then toggleChan c f s2 else s2 := by
    unfold releaseShed
    simp only [hf, if_true]
    rfl
  rw [hr]
  split
  · exact key _ (chanOnly_trans h2 (toggleChan_chanOnly c f s2)) (by rw [(toggleChan_kept c f s2).1, hs])
  · exact key _ h2 hs

end Sys2Proof.Machine
end

