-- ==== Sys2Proof/Laws/PerInstr.lean ====
section
/-! SUPPORT. The family Payload: what every well-formed command of the catalogue puts into its window, one lemma per constructor;
steps that are no command of the catalogue put nothing there. -/
namespace Sys2Proof.Laws.Payload
open Sys2Proof.Machine

/-- An opcode's high byte is a block that Table 1.5 assigns (R28), and the payload fits a window with header and MAC (R464). -/
def Statement (i : Instr) : Prop :=
  ∀ op p, i.wf = true → encodeCmd i = some (op, p) → op < 0x1400 ∧ p.length ≤ 992

theorem leBytes_length (n v : Nat) : (leBytes n v).length = n := by
  induction n generalizing v with
  | zero => rfl
  | succ n ih => simp [leBytes, ih]

theorem padTo_length (n : Nat) (l : List Byte) : (padTo n l).length = n := by
  simp [padTo, slice] <;> omega

/-- A step that is no command of the catalogue. -/
theorem of_none {i : Instr} (h : encodeCmd i = none) : Statement i := by
  intro op p _ he; rw [h] at he; cases he

/-- A command of the catalogue. -/
theorem of_some {i : Instr} {op : Nat} {p : List Byte} (h : encodeCmd i = some (op, p)) (h1 : op < 0x1400)
    (h2 : i.wf = true → p.length ≤ 992) : Statement i := by
  intro op' p' hw he
  rw [h] at he; cases he
  exact ⟨h1, h2 hw⟩

theorem cmdChipIdent (x0 : CmdHeader) : Statement (.cmdChipIdent x0) :=
  of_some rfl (by decide) fun _ => by decide
theorem cmdSysReset (x0 : CmdHeader) : Statement (.cmdSysReset x0) :=
  of_some rfl (by decide) fun _ => by decide
theorem cmdSysLifecycle (x0 : CmdHeader) (x1 : Nat) : Statement (.cmdSysLifecycle x0 x1) :=
  of_some rfl (by decide) fun _ => by simp [leBytes_length]
theorem cmdSysKeyProgram (x0 : CmdHeader) (x1 : Nat) (x2 : List Byte) : Statement (.cmdSysKeyProgram x0 x1 x2) :=
  of_some rfl (by decide) fun _ => by simp [leBytes_length, padTo_length]
theorem cmdSysRootProgram (x0 : CmdHeader) (x1 : Nat) (x2 : List Byte) : Statement (.cmdSysRootProgram x0 x1 x2) :=
  of_some rfl (by decide) fun _ => by simp [leBytes_length, padTo_length]
theorem cmdChassisTimeSet (x0 : CmdHeader) (x1 : Nat) : Statement (.cmdChassisTimeSet x0 x1) :=
  of_some rfl (by decide) fun _ => by simp [leBytes_length]
theorem cmdHstNop (x0 : CmdHeader) (x1 : List Byte) : Statement (.cmdHstNop x0 x1) :=
  of_some rfl (by decide) fun h => by
    simp only [Instr.wf, Bool.and_eq_true, decide_eq_true_eq] at h; omega
theorem cmdFltReactionSet (x0 : CmdHeader) (x1 : Nat) (x2 : Nat) (x3 : Byte) : Statement (.cmdFltReactionSet x0 x1 x2 x3) :=
  of_some rfl (by decide) fun _ => by simp [leBytes_length]
theorem cmdFltLostClear (x0 : CmdHeader) : Statement (.cmdFltLostClear x0) :=
  of_some rfl (by decide) fun _ => by decide
theorem cmdPeakClear (x0 : CmdHeader) (x1 : Nat) (x2 : Nat) : Statement (.cmdPeakClear x0 x1 x2) :=
  of_some rfl (by decide) fun _ => by simp [leBytes_length]
theorem cmdWmSet (x0 : CmdHeader) (x1 : Nat) (x2 : Byte) (x3 : Nat) (x4 : Nat) (x5 : Nat) (x6 : Byte) (x7 : Byte) : Statement (.cmdWmSet x0 x1 x2 x3 x4 x5 x6 x7) :=
  of_some rfl (by decide) fun _ => by simp [leBytes_length]
theorem cmdLoopEnable (x0 : CmdHeader) (x1 : BitVec 8) (x2 : BitVec 8) : Statement (.cmdLoopEnable x0 x1 x2) :=
  of_some rfl (by decide) fun _ => by simp [leBytes_length]
theorem cmdLoopRestore (x0 : CmdHeader) (x1 : Nat) : Statement (.cmdLoopRestore x0 x1) :=
  of_some rfl (by decide) fun _ => by simp [leBytes_length]
theorem cmdStageEnable (x0 : CmdHeader) (x1 : Nat) (x2 : Bool) : Statement (.cmdStageEnable x0 x1 x2) :=
  of_some rfl (by decide) fun _ => by simp [leBytes_length]
theorem cmdStageModeSet (x0 : CmdHeader) (x1 : Nat) (x2 : Nat) : Statement (.cmdStageModeSet x0 x1 x2) :=
  of_some rfl (by decide) fun _ => by simp [leBytes_length]
theorem cmdStageRefSet (x0 : CmdHeader) (x1 : Nat) (x2 : Nat) (x3 : Int) : Statement (.cmdStageRefSet x0 x1 x2 x3) :=
  of_some rfl (by decide) fun _ => by simp [leBytes_length, leInt]
theorem cmdStageOvClear (x0 : CmdHeader) (x1 : Nat) : Statement (.cmdStageOvClear x0 x1) :=
  of_some rfl (by decide) fun _ => by simp [leBytes_length]
theorem cmdPhaseUnmask (x0 : CmdHeader) (x1 : Nat) : Statement (.cmdPhaseUnmask x0 x1) :=
  of_some rfl (by decide) fun _ => by simp [leBytes_length]
theorem cmdRectParkSet (x0 : CmdHeader) (x1 : Nat) (x2 : Nat) : Statement (.cmdRectParkSet x0 x1 x2) :=
  of_some rfl (by decide) fun _ => by simp [leBytes_length]
theorem cmdRectReturn (x0 : CmdHeader) (x1 : Nat) : Statement (.cmdRectReturn x0 x1) :=
  of_some rfl (by decide) fun _ => by simp [leBytes_length]
theorem cmdShedRelease (x0 : CmdHeader) : Statement (.cmdShedRelease x0) :=
  of_some rfl (by decide) fun _ => by decide
theorem cmdDomainEnable (x0 : CmdHeader) (x1 : Nat) (x2 : Bool) : Statement (.cmdDomainEnable x0 x1 x2) :=
  of_some rfl (by decide) fun _ => by simp [leBytes_length]
theorem cmdDomainSet (x0 : CmdHeader) (x1 : Nat) (x2 : Byte) (x3 : Nat) (x4 : Nat) (x5 : Nat) : Statement (.cmdDomainSet x0 x1 x2 x3 x4 x5) :=
  of_some rfl (by decide) fun _ => by simp [leBytes_length]
theorem cmdGrantSet (x0 : CmdHeader) (x1 : Nat) (x2 : Bool) (x3 : Nat) : Statement (.cmdGrantSet x0 x1 x2 x3) :=
  of_some rfl (by decide) fun _ => by simp [leBytes_length]
theorem cmdLehrCapSet (x0 : CmdHeader) (x1 : Nat) : Statement (.cmdLehrCapSet x0 x1) :=
  of_some rfl (by decide) fun _ => by simp [leBytes_length]
theorem cmdBatSocSet (x0 : CmdHeader) (x1 : Nat) (x2 : Nat) (x3 : Nat) : Statement (.cmdBatSocSet x0 x1 x2 x3) :=
  of_some rfl (by decide) fun _ => by simp [leBytes_length]
theorem cmdBatRelearn (x0 : CmdHeader) (x1 : Nat) : Statement (.cmdBatRelearn x0 x1) :=
  of_some rfl (by decide) fun _ => by simp [leBytes_length]
theorem cmdBatCyclesSet (x0 : CmdHeader) (x1 : Nat) (x2 : Nat) : Statement (.cmdBatCyclesSet x0 x1 x2) :=
  of_some rfl (by decide) fun _ => by simp [leBytes_length]
theorem cmdBatZtableReset (x0 : CmdHeader) (x1 : Nat) : Statement (.cmdBatZtableReset x0 x1) :=
  of_some rfl (by decide) fun _ => by simp [leBytes_length]
theorem cmdBatZtableRead (x0 : CmdHeader) (x1 : Nat) : Statement (.cmdBatZtableRead x0 x1) :=
  of_some rfl (by decide) fun _ => by simp [leBytes_length]
theorem cmdHswSet (x0 : CmdHeader) (x1 : Nat) (x2 : Bool) : Statement (.cmdHswSet x0 x1 x2) :=
  of_some rfl (by decide) fun _ => by simp [leBytes_length]
theorem cmdHswToggle (x0 : CmdHeader) (x1 : Nat) : Statement (.cmdHswToggle x0 x1) :=
  of_some rfl (by decide) fun _ => by simp [leBytes_length]
theorem cmdHswLimitSet (x0 : CmdHeader) (x1 : Nat) (x2 : Nat) : Statement (.cmdHswLimitSet x0 x1 x2) :=
  of_some rfl (by decide) fun _ => by simp [leBytes_length]
theorem cmdHswFailClear (x0 : CmdHeader) (x1 : Nat) : Statement (.cmdHswFailClear x0 x1) :=
  of_some rfl (by decide) fun _ => by simp [leBytes_length]
theorem cmdSeqGroupSet (x0 : CmdHeader) (x1 : Nat) (x2 : Bool) : Statement (.cmdSeqGroupSet x0 x1 x2) :=
  of_some rfl (by decide) fun _ => by simp [leBytes_length]
theorem cmdSeqClear (x0 : CmdHeader) (x1 : Nat) : Statement (.cmdSeqClear x0 x1) :=
  of_some rfl (by decide) fun _ => by simp [leBytes_length]
theorem cmdSeqLogRead (x0 : CmdHeader) (x1 : Nat) : Statement (.cmdSeqLogRead x0 x1) :=
  of_some rfl (by decide) fun _ => by simp [leBytes_length]
theorem cmdSeqLogClear (x0 : CmdHeader) : Statement (.cmdSeqLogClear x0) :=
  of_some rfl (by decide) fun _ => by decide
theorem cmdRecFlush (x0 : CmdHeader) : Statement (.cmdRecFlush x0) :=
  of_some rfl (by decide) fun _ => by decide
theorem cmdRecFreeze (x0 : CmdHeader) (x1 : Nat) : Statement (.cmdRecFreeze x0 x1) :=
  of_some rfl (by decide) fun _ => by simp [leBytes_length]
theorem cmdRecThaw (x0 : CmdHeader) (x1 : Nat) : Statement (.cmdRecThaw x0 x1) :=
  of_some rfl (by decide) fun _ => by simp [leBytes_length]
theorem cmdRecOpenClear (x0 : CmdHeader) : Statement (.cmdRecOpenClear x0) :=
  of_some rfl (by decide) fun _ => by decide
theorem cmdRecSealedOpen (x0 : CmdHeader) : Statement (.cmdRecSealedOpen x0) :=
  of_some rfl (by decide) fun _ => by decide
theorem cmdRecSealedClose (x0 : CmdHeader) : Statement (.cmdRecSealedClose x0) :=
  of_some rfl (by decide) fun _ => by decide
theorem cmdRecSealedClear (x0 : CmdHeader) : Statement (.cmdRecSealedClear x0) :=
  of_some rfl (by decide) fun _ => by decide
theorem cmdRecFlightTrigger (x0 : CmdHeader) : Statement (.cmdRecFlightTrigger x0) :=
  of_some rfl (by decide) fun _ => by decide
theorem cmdRecFlightRead (x0 : CmdHeader) (x1 : Nat) (x2 : Nat) : Statement (.cmdRecFlightRead x0 x1 x2) :=
  of_some rfl (by decide) fun _ => by simp [leBytes_length]
theorem cmdRecFlightRelease (x0 : CmdHeader) : Statement (.cmdRecFlightRelease x0) :=
  of_some rfl (by decide) fun _ => by decide
theorem cmdRecNote (x0 : CmdHeader) (x1 : List Byte) : Statement (.cmdRecNote x0 x1) :=
  of_some rfl (by decide) fun _ => by simp [padTo_length]
theorem cmdRedHandover (x0 : CmdHeader) : Statement (.cmdRedHandover x0) :=
  of_some rfl (by decide) fun _ => by decide
theorem cmdRedInhibit (x0 : CmdHeader) (x1 : Bool) : Statement (.cmdRedInhibit x0 x1) :=
  of_some rfl (by decide) fun _ => by simp [leBytes_length]
theorem cmdTieRequest (x0 : CmdHeader) (x1 : Nat) (x2 : Nat) : Statement (.cmdTieRequest x0 x1 x2) :=
  of_some rfl (by decide) fun _ => by simp [leBytes_length]
theorem cmdTieRelease (x0 : CmdHeader) (x1 : Nat) : Statement (.cmdTieRelease x0 x1) :=
  of_some rfl (by decide) fun _ => by simp [leBytes_length]
theorem cmdTiePortSet (x0 : CmdHeader) (x1 : Nat) (x2 : Byte) (x3 : Byte) : Statement (.cmdTiePortSet x0 x1 x2 x3) :=
  of_some rfl (by decide) fun _ => by simp [leBytes_length]
theorem cmdCanePortSet (x0 : CmdHeader) (x1 : Nat) (x2 : Bool) : Statement (.cmdCanePortSet x0 x1 x2) :=
  of_some rfl (by decide) fun _ => by simp [leBytes_length]
theorem cmdCaneNodeRetry (x0 : CmdHeader) (x1 : Nat) (x2 : Nat) : Statement (.cmdCaneNodeRetry x0 x1 x2) :=
  of_some rfl (by decide) fun _ => by simp [leBytes_length]
theorem cmdPmbRecover (x0 : CmdHeader) (x1 : Nat) : Statement (.cmdPmbRecover x0 x1) :=
  of_some rfl (by decide) fun _ => by simp [leBytes_length]
theorem cmdPmbTransact (x0 : CmdHeader) (x1 : Nat) (x2 : Nat) (x3 : Nat) (x4 : Nat) (x5 : Bool) (x6 : Nat) : Statement (.cmdPmbTransact x0 x1 x2 x3 x4 x5 x6) :=
  of_some rfl (by decide) fun _ => by simp [leBytes_length]
theorem cmdBchBegin (x0 : CmdHeader) (x1 : Nat) (x2 : Nat) (x3 : List Byte) : Statement (.cmdBchBegin x0 x1 x2 x3) :=
  of_some rfl (by decide) fun _ => by simp [leBytes_length, padTo_length]
theorem cmdBchChunk (x0 : CmdHeader) (x1 : Nat) (x2 : Nat) (x3 : Nat) (x4 : List Byte) : Statement (.cmdBchChunk x0 x1 x2 x3 x4) :=
  of_some rfl (by decide) fun _ => by simp [leBytes_length, padTo_length]
theorem cmdBchAbandon (x0 : CmdHeader) : Statement (.cmdBchAbandon x0) :=
  of_some rfl (by decide) fun _ => by decide
theorem cmdBchStatus (x0 : CmdHeader) : Statement (.cmdBchStatus x0) :=
  of_some rfl (by decide) fun _ => by decide
theorem cmdBchActivate (x0 : CmdHeader) (x1 : Nat) (x2 : List Byte) : Statement (.cmdBchActivate x0 x1 x2) :=
  of_some rfl (by decide) fun _ => by simp [leBytes_length, padTo_length]
theorem cmdBchRootRevoke (x0 : CmdHeader) (x1 : Nat) : Statement (.cmdBchRootRevoke x0 x1) :=
  of_some rfl (by decide) fun _ => by simp [leBytes_length]
theorem cmdMemBistSlice (x0 : CmdHeader) (x1 : Nat) : Statement (.cmdMemBistSlice x0 x1) :=
  of_some rfl (by decide) fun _ => by simp [leBytes_length]
theorem cmdMemBistFull (x0 : CmdHeader) : Statement (.cmdMemBistFull x0) :=
  of_some rfl (by decide) fun _ => by decide
theorem commandVerified : Statement .commandVerified := of_none rfl
theorem lockoutEnd (x0 : PortId) : Statement (.lockoutEnd x0) := of_none rfl
theorem authCountRestart (x0 : PortId) : Statement (.authCountRestart x0) := of_none rfl
theorem fuseBlowComplete (x0 : Bool) : Statement (.fuseBlowComplete x0) := of_none rfl
theorem deferredMramReadComplete (x0 : Nat) : Statement (.deferredMramReadComplete x0) := of_none rfl
theorem chunkWriteComplete : Statement .chunkWriteComplete := of_none rfl
theorem doorbellNormal (x0 : PortId) : Statement (.doorbellNormal x0) := of_none rfl
theorem doorbellUrgent (x0 : PortId) : Statement (.doorbellUrgent x0) := of_none rfl
theorem replyReadyClear (x0 : PortId) (x1 : Bool) : Statement (.replyReadyClear x0 x1) := of_none rfl
theorem busyRingClear (x0 : PortId) (x1 : Bool) : Statement (.busyRingClear x0 x1) := of_none rfl
theorem lopEnableWrite (x0 : PortId) (x1 : Word) : Statement (.lopEnableWrite x0 x1) := of_none rfl
theorem sysLockSet (x0 : PortId) : Statement (.sysLockSet x0) := of_none rfl
theorem timFrameLoRead (x0 : PortId) : Statement (.timFrameLoRead x0) := of_none rfl
theorem timChassisLoRead (x0 : PortId) : Statement (.timChassisLoRead x0) := of_none rfl
theorem timSlackWorstRead (x0 : PortId) : Statement (.timSlackWorstRead x0) := of_none rfl
theorem fltIntOvfRead (x0 : PortId) : Statement (.fltIntOvfRead x0) := of_none rfl
theorem msrCapOvfRead (x0 : PortId) : Statement (.msrCapOvfRead x0) := of_none rfl
theorem fltIntData3Read (x0 : PortId) : Statement (.fltIntData3Read x0) := of_none rfl
theorem msrCapData3Read (x0 : PortId) : Statement (.msrCapData3Read x0) := of_none rfl
theorem fltErrClearWrite (x0 : Word) : Statement (.fltErrClearWrite x0) := of_none rfl
theorem fltNmaCauseClear (x0 : Word) : Statement (.fltNmaCauseClear x0) := of_none rfl
theorem wmEventClear (x0 : Nat) (x1 : Word) : Statement (.wmEventClear x0 x1) := of_none rfl
theorem batLevelEventClear (x0 : Word) : Statement (.batLevelEventClear x0) := of_none rfl
theorem hswTripEventClear (x0 : Nat) (x1 : Word) : Statement (.hswTripEventClear x0 x1) := of_none rfl
theorem lehDomSelWrite (x0 : PortId) (x1 : Nat) : Statement (.lehDomSelWrite x0 x1) := of_none rfl
theorem hswChSelWrite (x0 : PortId) (x1 : Nat) : Statement (.hswChSelWrite x0 x1) := of_none rfl
theorem seqRailSelWrite (x0 : PortId) (x1 : Nat) : Statement (.seqRailSelWrite x0 x1) := of_none rfl
theorem tieMarkerSelWrite (x0 : PortId) (x1 : Nat) : Statement (.tieMarkerSelWrite x0 x1) := of_none rfl
theorem pntNodeSelWrite (x0 : PortId) (x1 : Nat) : Statement (.pntNodeSelWrite x0 x1) := of_none rfl
theorem pmbPortSelWrite (x0 : PortId) (x1 : Nat) : Statement (.pmbPortSelWrite x0 x1) := of_none rfl
theorem fltReactSelWrite (x0 : PortId) (x1 : Nat) : Statement (.fltReactSelWrite x0 x1) := of_none rfl
theorem hstKeySelWrite (x0 : PortId) (x1 : Nat) : Statement (.hstKeySelWrite x0 x1) := of_none rfl
theorem peekEntryRead (x0 : PortId) (x1 : Nat) : Statement (.peekEntryRead x0 x1) := of_none rfl
theorem registerWrite (x0 : PortId) (x1 : Nat) (x2 : List Byte) : Statement (.registerWrite x0 x1 x2) := of_none rfl
theorem mgtWriteTransaction (x0 : Nat) (x1 : List Byte) : Statement (.mgtWriteTransaction x0 x1) := of_none rfl
theorem mgtReadTransaction (x0 : Nat) (x1 : Nat) : Statement (.mgtReadTransaction x0 x1) := of_none rfl
theorem mgtStartStopAbandon (x0 : Bool) (x1 : Bool) : Statement (.mgtStartStopAbandon x0 x1) := of_none rfl
theorem sdaReleased : Statement .sdaReleased := of_none rfl
theorem inBandRequest (x0 : Bool) : Statement (.inBandRequest x0) := of_none rfl
theorem fhpWrite (x0 : Nat) (x1 : List Byte) (x2 : Nat) : Statement (.fhpWrite x0 x1 x2) := of_none rfl
theorem fhpRead (x0 : Nat) (x1 : Nat) (x2 : Nat) (x3 : Bool) : Statement (.fhpRead x0 x1 x2 x3) := of_none rfl
theorem fhpQuadRead (x0 : Nat) (x1 : Nat) (x2 : Nat) (x3 : Bool) : Statement (.fhpQuadRead x0 x1 x2 x3) := of_none rfl
theorem fhpStatus : Statement .fhpStatus := of_none rfl
theorem hostNvWriteComplete : Statement .hostNvWriteComplete := of_none rfl
theorem syncEdgeAccepted (x0 : Nat) (x1 : Int) : Statement (.syncEdgeAccepted x0 x1) := of_none rfl
theorem syncEdgeEarly : Statement .syncEdgeEarly := of_none rfl
theorem syncEdgeMissed : Statement .syncEdgeMissed := of_none rfl
theorem syncAcquireTimeout : Statement .syncAcquireTimeout := of_none rfl
theorem tickBoundary (x0 : TickInputs) : Statement (.tickBoundary x0) := of_none rfl
theorem frameBoundary (x0 : FrameInputs) : Statement (.frameBoundary x0) := of_none rfl
theorem frameNumberSave : Statement .frameNumberSave := of_none rfl
theorem trefLoss : Statement .trefLoss := of_none rfl
theorem trefMeasurementComplete (x0 : Int) : Statement (.trefMeasurementComplete x0) := of_none rfl
theorem trefLock : Statement .trefLock := of_none rfl
theorem ppsEdge : Statement .ppsEdge := of_none rfl
theorem ppsLoss : Statement .ppsLoss := of_none rfl
theorem fastConversion (x0 : Nat) (x1 : Nat) (x2 : Int) : Statement (.fastConversion x0 x1 x2) := of_none rfl
theorem slowConversionComplete (x0 : Nat) (x1 : Int) : Statement (.slowConversionComplete x0 x1) := of_none rfl
theorem wmComparatorEdge (x0 : Nat) (x1 : Bool) (x2 : Bool) (x3 : Nat) (x4 : Int) : Statement (.wmComparatorEdge x0 x1 x2 x3 x4) :=
  of_none rfl
theorem wmNarrowStep (x0 : Nat) : Statement (.wmNarrowStep x0) := of_none rfl
theorem sensorRestored (x0 : Nat) : Statement (.sensorRestored x0) := of_none rfl
theorem thermSubwindowEnd : Statement .thermSubwindowEnd := of_none rfl
theorem overtempShutdown (x0 : Bool) : Statement (.overtempShutdown x0) := of_none rfl
theorem overtempRelease (x0 : Bool) : Statement (.overtempRelease x0) := of_none rfl
theorem blendEnd (x0 : Nat) : Statement (.blendEnd x0) := of_none rfl
theorem residual (x0 : Nat) (x1 : Nat) : Statement (.residual x0 x1) := of_none rfl
theorem onTimeStart (x0 : Nat) : Statement (.onTimeStart x0) := of_none rfl
theorem blankingEnd (x0 : Nat) : Statement (.blankingEnd x0) := of_none rfl
theorem peakComparatorTrip (x0 : PeakTrip) : Statement (.peakComparatorTrip x0) := of_none rfl
theorem cycleLimitTrip (x0 : Nat) (x1 : Int) : Statement (.cycleLimitTrip x0 x1) := of_none rfl
theorem maxDutyClamp (x0 : Nat) : Statement (.maxDutyClamp x0) := of_none rfl
theorem cycleLimit (x0 : Nat) : Statement (.cycleLimit x0) := of_none rfl
theorem shedStart (x0 : Nat) : Statement (.shedStart x0) := of_none rfl
theorem phaseShed (x0 : Nat) : Statement (.phaseShed x0) := of_none rfl
theorem phaseOpen (x0 : Nat) : Statement (.phaseOpen x0) := of_none rfl
theorem pmbPoll (x0 : Nat) : Statement (.pmbPoll x0) := of_none rfl
theorem pmbTransactionComplete (x0 : Nat) (x1 : PmbResult) : Statement (.pmbTransactionComplete x0 x1) := of_none rfl
theorem pmbAlert (x0 : Nat) : Statement (.pmbAlert x0) := of_none rfl
theorem pmbStretchTimeout (x0 : Nat) : Statement (.pmbStretchTimeout x0) := of_none rfl
theorem pmbBusHung (x0 : Nat) (x1 : Bool) : Statement (.pmbBusHung x0 x1) := of_none rfl
theorem pmbRecoveryRetry (x0 : Nat) (x1 : Bool) : Statement (.pmbRecoveryRetry x0 x1) := of_none rfl
theorem rectNoAck (x0 : Nat) : Statement (.rectNoAck x0) := of_none rfl
theorem rectSilent (x0 : Nat) : Statement (.rectSilent x0) := of_none rfl
theorem rectUnparkTimeout (x0 : Nat) : Statement (.rectUnparkTimeout x0) := of_none rfl
theorem rectServing (x0 : Nat) : Statement (.rectServing x0) := of_none rfl
theorem shareTol (x0 : Nat) : Statement (.shareTol x0) := of_none rfl
theorem rectPark : Statement .rectPark := of_none rfl
theorem handbackStart : Statement .handbackStart := of_none rfl
theorem shedInterval (x0 : Int) : Statement (.shedInterval x0) := of_none rfl
theorem demandSilent (x0 : Nat) : Statement (.demandSilent x0) := of_none rfl
theorem grantRefresh (x0 : Nat) : Statement (.grantRefresh x0) := of_none rfl
theorem startupGrantHoldEnd : Statement .startupGrantHoldEnd := of_none rfl
theorem grantOverdraw (x0 : Nat) : Statement (.grantOverdraw x0) := of_none rfl
theorem enforceStart (x0 : Nat) : Statement (.enforceStart x0) := of_none rfl
theorem enforceEnd (x0 : Nat) : Statement (.enforceEnd x0) := of_none rfl
theorem bgResume : Statement .bgResume := of_none rfl
theorem recorderHousekeeping : Statement .recorderHousekeeping := of_none rfl
theorem sramScrubStripe (x0 : StripeUpsets) : Statement (.sramScrubStripe x0) := of_none rfl
theorem mramScrubLine (x0 : LineUpsets) : Statement (.mramScrubLine x0) := of_none rfl
theorem bistSlice (x0 : Bool) (x1 : Bool) : Statement (.bistSlice x0 x1) := of_none rfl
theorem pointCompaction : Statement .pointCompaction := of_none rfl
theorem ztableWrite : Statement .ztableWrite := of_none rfl
theorem integrationStepClose (x0 : Nat) : Statement (.integrationStepClose x0) := of_none rfl
theorem restCorrection (x0 : Nat) : Statement (.restCorrection x0) := of_none rfl
theorem voltageCorrection (x0 : Nat) : Statement (.voltageCorrection x0) := of_none rfl
theorem chargeTermination (x0 : Nat) : Statement (.chargeTermination x0) := of_none rfl
theorem chargeTimeout (x0 : Nat) : Statement (.chargeTimeout x0) := of_none rfl
theorem inhibitClear (x0 : Nat) : Statement (.inhibitClear x0) := of_none rfl
theorem eodReached (x0 : Nat) : Statement (.eodReached x0) := of_none rfl
theorem endClear (x0 : Nat) : Statement (.endClear x0) := of_none rfl
theorem impedanceUpdate (x0 : Nat) : Statement (.impedanceUpdate x0) := of_none rfl
theorem cycleRecordQueue (x0 : Nat) : Statement (.cycleRecordQueue x0) := of_none rfl
theorem moduleSilent (x0 : Nat) : Statement (.moduleSilent x0) := of_none rfl
theorem currentLimitEngage (x0 : ChanMoment) : Statement (.currentLimitEngage x0) := of_none rfl
theorem timerTrip (x0 : ChanMoment) : Statement (.timerTrip x0) := of_none rfl
theorem gatePulldownDelay (x0 : Nat) : Statement (.gatePulldownDelay x0) := of_none rfl
theorem breakerTrip (x0 : Nat) : Statement (.breakerTrip x0) := of_none rfl
theorem seatDebounceComplete (x0 : Nat) : Statement (.seatDebounceComplete x0) := of_none rfl
theorem coolDownEnd (x0 : Nat) : Statement (.coolDownEnd x0) := of_none rfl
theorem gateStuck (x0 : Nat) : Statement (.gateStuck x0) := of_none rfl
theorem fetShort (x0 : Nat) : Statement (.fetShort x0) := of_none rfl
theorem keeperInsertDelayEnd (x0 : Nat) : Statement (.keeperInsertDelayEnd x0) := of_none rfl
theorem keeperVinOv (x0 : Nat) : Statement (.keeperVinOv x0) := of_none rfl
theorem ewAssert (x0 : Nat) : Statement (.ewAssert x0) := of_none rfl
theorem railEdge (x0 : Nat) : Statement (.railEdge x0) := of_none rfl
theorem riseTimeout (x0 : Nat) : Statement (.riseTimeout x0) := of_none rfl
theorem fallTimeout (x0 : Nat) : Statement (.fallTimeout x0) := of_none rfl
theorem railUv (x0 : Nat) : Statement (.railUv x0) := of_none rfl
theorem railOv (x0 : Nat) : Statement (.railOv x0) := of_none rfl
theorem retryClear (x0 : Nat) : Statement (.retryClear x0) := of_none rfl
theorem seqfSeen : Statement .seqfSeen := of_none rfl
theorem minOffEnd (x0 : Nat) : Statement (.minOffEnd x0) := of_none rfl
theorem groupUnfreeze (x0 : Nat) : Statement (.groupUnfreeze x0) := of_none rfl
theorem flushComplete : Statement .flushComplete := of_none rfl
theorem sealedSessionExpiry (x0 : PortId) : Statement (.sealedSessionExpiry x0) := of_none rfl
theorem freezeLapsed (x0 : Nat) : Statement (.freezeLapsed x0) := of_none rfl
theorem pfiAssert : Statement .pfiAssert := of_none rfl
theorem powerFailFlushComplete : Statement .powerFailFlushComplete := of_none rfl
theorem flightPostEnd : Statement .flightPostEnd := of_none rfl
theorem flightCopyComplete : Statement .flightCopyComplete := of_none rfl
theorem faultMessage (x0 : Nat) : Statement (.faultMessage x0) := of_none rfl
theorem faultDispatch : Statement .faultDispatch := of_none rfl
theorem chipReset : Statement .chipReset := of_none rfl
theorem errPulseEnd : Statement .errPulseEnd := of_none rfl
theorem alertPinMinLowEnd (x0 : Bool) : Statement (.alertPinMinLowEnd x0) := of_none rfl
theorem bypass : Statement .bypass := of_none rfl
theorem samplePreload (x0 : List Bool) : Statement (.samplePreload x0) := of_none rfl
theorem extest : Statement .extest := of_none rfl
theorem idcode : Statement .idcode := of_none rfl
theorem clamp : Statement .clamp := of_none rfl
theorem highz : Statement .highz := of_none rfl
theorem intScan : Statement .intScan := of_none rfl
theorem intMbist : Statement .intMbist := of_none rfl
theorem intMemacc : Statement .intMemacc := of_none rfl
theorem holdNPulse : Statement .holdNPulse := of_none rfl
theorem peerLiveTimeout : Statement .peerLiveTimeout := of_none rfl
theorem peerAck (x0 : Nat) : Statement (.peerAck x0) := of_none rfl
theorem peerHello (x0 : PeerHdr) (x1 : Bool) (x2 : List Byte) (x3 : Nat) (x4 : Punty) : Statement (.peerHello x0 x1 x2 x3 x4) :=
  of_none rfl
theorem peerRenew (x0 : PeerHdr) (x1 : Nat) (x2 : Nat) : Statement (.peerRenew x0 x1 x2) := of_none rfl
theorem peerMirror (x0 : PeerHdr) (x1 : Nat) (x2 : List Byte) : Statement (.peerMirror x0 x1 x2) := of_none rfl
theorem peerMirrorEnd (x0 : PeerHdr) (x1 : Nat) (x2 : Nat) (x3 : Nat) : Statement (.peerMirrorEnd x0 x1 x2 x3) := of_none rfl
theorem peerCounter (x0 : PeerHdr) (x1 : Nat) (x2 : Nat) : Statement (.peerCounter x0 x1 x2) := of_none rfl
theorem peerCounterAck (x0 : PeerHdr) (x1 : Nat) (x2 : Nat) : Statement (.peerCounterAck x0 x1 x2) := of_none rfl
theorem peerForward (x0 : PeerHdr) (x1 : Nat) (x2 : List Byte) : Statement (.peerForward x0 x1 x2) := of_none rfl
theorem peerForwardReply (x0 : PeerHdr) (x1 : Nat) (x2 : List Byte) : Statement (.peerForwardReply x0 x1 x2) := of_none rfl
theorem peerGuard (x0 : PeerHdr) (x1 : Nat) : Statement (.peerGuard x0 x1) := of_none rfl
theorem peerGuardAck (x0 : PeerHdr) (x1 : Nat) : Statement (.peerGuardAck x0 x1) := of_none rfl
theorem peerYield (x0 : PeerHdr) (x1 : Nat) : Statement (.peerYield x0 x1) := of_none rfl
theorem peerCrcDiscard : Statement .peerCrcDiscard := of_none rfl
theorem peerRetransmit : Statement .peerRetransmit := of_none rfl
theorem renewSend : Statement .renewSend := of_none rfl
theorem holdSilent : Statement .holdSilent := of_none rfl
theorem peerSilent : Statement .peerSilent := of_none rfl
theorem puntyClaim (x0 : BitVec 64) (x1 : BitVec 32) : Statement (.puntyClaim x0 x1) := of_none rfl
theorem claimDrive : Statement .claimDrive := of_none rfl
theorem displaced : Statement .displaced := of_none rfl
theorem guardTrip (x0 : Nat) : Statement (.guardTrip x0) := of_none rfl
theorem irlerAck (x0 : Nat) (x1 : Nat) : Statement (.irlerAck x0 x1) := of_none rfl
theorem irlerHello (x0 : Nat) (x1 : Nat) (x2 : Nat) (x3 : Byte) (x4 : Nat) (x5 : Nat) (x6 : Nat) : Statement (.irlerHello x0 x1 x2 x3 x4 x5 x6) :=
  of_none rfl
theorem irlerRequest (x0 : Nat) (x1 : Nat) (x2 : Bool) (x3 : Nat) (x4 : Nat) : Statement (.irlerRequest x0 x1 x2 x3 x4) :=
  of_none rfl
theorem irlerOffer (x0 : Nat) (x1 : Nat) (x2 : Nat) (x3 : Nat) (x4 : Nat) : Statement (.irlerOffer x0 x1 x2 x3 x4) := of_none rfl
theorem irlerAccept (x0 : Nat) (x1 : Nat) (x2 : Nat) (x3 : Nat) : Statement (.irlerAccept x0 x1 x2 x3) := of_none rfl
theorem irlerRefuse (x0 : Nat) (x1 : Nat) (x2 : Nat) : Statement (.irlerRefuse x0 x1 x2) := of_none rfl
theorem irlerCollision (x0 : Nat) (x1 : Nat) (x2 : Nat) : Statement (.irlerCollision x0 x1 x2) := of_none rfl
theorem irlerMatch (x0 : Nat) (x1 : Nat) (x2 : Nat) : Statement (.irlerMatch x0 x1 x2) := of_none rfl
theorem irlerClosed (x0 : Nat) (x1 : Nat) (x2 : Nat) : Statement (.irlerClosed x0 x1 x2) := of_none rfl
theorem irlerRenew (x0 : Nat) (x1 : Nat) (x2 : Nat) (x3 : Nat) : Statement (.irlerRenew x0 x1 x2 x3) := of_none rfl
theorem irlerRelease (x0 : Nat) (x1 : Nat) (x2 : Nat) : Statement (.irlerRelease x0 x1 x2) := of_none rfl
theorem irlerMarkerData (x0 : Nat) (x1 : Nat) (x2 : Nat) (x3 : Nat) (x4 : Int) (x5 : Nat) : Statement (.irlerMarkerData x0 x1 x2 x3 x4 x5) :=
  of_none rfl
theorem irlerCrc (x0 : Nat) : Statement (.irlerCrc x0) := of_none rfl
theorem irlerRetransmit (x0 : Nat) : Statement (.irlerRetransmit x0) := of_none rfl
theorem irlerLineCollision (x0 : Nat) : Statement (.irlerLineCollision x0) := of_none rfl
theorem irlerBackoffEnd (x0 : Nat) : Statement (.irlerBackoffEnd x0) := of_none rfl
theorem irlerSendStart (x0 : Nat) : Statement (.irlerSendStart x0) := of_none rfl
theorem offerTimeout (x0 : Nat) : Statement (.offerTimeout x0) := of_none rfl
theorem tieMatchFail (x0 : Nat) : Statement (.tieMatchFail x0) := of_none rfl
theorem farEndSilent (x0 : Nat) : Statement (.farEndSilent x0) := of_none rfl
theorem tieLeaseExpiry (x0 : Nat) : Statement (.tieLeaseExpiry x0) := of_none rfl
theorem tieRenewSend (x0 : Nat) : Statement (.tieRenewSend x0) := of_none rfl
theorem releaseDeadline (x0 : Nat) : Statement (.releaseDeadline x0) := of_none rfl
theorem markerReadInterval (x0 : Nat) : Statement (.markerReadInterval x0) := of_none rfl
theorem resumeWindowExpiry (x0 : Nat) : Statement (.resumeWindowExpiry x0) := of_none rfl
theorem caneLinkUp (x0 : Nat) : Statement (.caneLinkUp x0) := of_none rfl
theorem caneLinkDown (x0 : Nat) : Statement (.caneLinkDown x0) := of_none rfl
theorem caneAck (x0 : Nat) (x1 : Nat) : Statement (.caneAck x0 x1) := of_none rfl
theorem canePointUpdate (x0 : Nat) (x1 : Nat) (x2 : List (Nat × Byte × Int)) : Statement (.canePointUpdate x0 x1 x2) :=
  of_none rfl
theorem caneDemand (x0 : Nat) (x1 : Nat) (x2 : List (Nat × Nat)) : Statement (.caneDemand x0 x1 x2) := of_none rfl
theorem caneFaultNote (x0 : Nat) (x1 : Nat) (x2 : Nat) (x3 : Int) : Statement (.caneFaultNote x0 x1 x2 x3) := of_none rfl
theorem caneNodeInfo (x0 : Nat) (x1 : Nat) (x2 : Nat) (x3 : List Byte) (x4 : Nat) (x5 : Nat) : Statement (.caneNodeInfo x0 x1 x2 x3 x4 x5) :=
  of_none rfl
theorem caneCrc (x0 : Nat) : Statement (.caneCrc x0) := of_none rfl
theorem caneRetransmit (x0 : Nat) : Statement (.caneRetransmit x0) := of_none rfl
theorem nodeQuery (x0 : Nat) : Statement (.nodeQuery x0) := of_none rfl
theorem nodeLost (x0 : Nat) : Statement (.nodeLost x0) := of_none rfl
theorem activationVerifyComplete : Statement .activationVerifyComplete := of_none rfl
theorem activationLoadComplete : Statement .activationLoadComplete := of_none rfl
theorem commitMarkerWritten : Statement .commitMarkerWritten := of_none rfl
theorem activationSwitch : Statement .activationSwitch := of_none rfl
theorem activationPauseEnd : Statement .activationPauseEnd := of_none rfl
theorem activationDone : Statement .activationDone := of_none rfl
theorem warmerPeriod (x0 : WarmInputs) : Statement (.warmerPeriod x0) := of_none rfl
theorem coreRelease : Statement .coreRelease := of_none rfl
theorem supplyOutOfRange (x0 : Nat) : Statement (.supplyOutOfRange x0) := of_none rfl
theorem supplySettleTimeout : Statement .supplySettleTimeout := of_none rfl
theorem offMinEnd : Statement .offMinEnd := of_none rfl
theorem powerOnCold : Statement .powerOnCold := of_none rfl
theorem powerOn : Statement .powerOn := of_none rfl
theorem pinReset : Statement .pinReset := of_none rfl
theorem boot (x0 : BootInputs) : Statement (.boot x0) := of_none rfl
theorem dieLinkWordSend : Statement .dieLinkWordSend := of_none rfl
theorem coreDieAbsent : Statement .coreDieAbsent := of_none rfl
theorem dieLinkLoss : Statement .dieLinkLoss := of_none rfl
theorem dieLinkError (x0 : Bool) : Statement (.dieLinkError x0) := of_none rfl
theorem freeRunPhaseZero : Statement .freeRunPhaseZero := of_none rfl
theorem syncOutEdge (x0 : Bool) : Statement (.syncOutEdge x0) := of_none rfl
theorem currentLimitRelease (x0 : ChanMoment) : Statement (.currentLimitRelease x0) := of_none rfl
theorem pullCountedAsToggle (x0 : Nat) : Statement (.pullCountedAsToggle x0) := of_none rfl
theorem supplyInRange (x0 : Nat) : Statement (.supplyInRange x0) := of_none rfl
theorem loopEvaluationComplete (x0 : Nat) (x1 : Int) (x2 : List Nat) : Statement (.loopEvaluationComplete x0 x1 x2) := of_none rfl
theorem frameWorkComplete (x0 : Engine) : Statement (.frameWorkComplete x0) := of_none rfl
theorem fhpInvalidFrame : Statement .fhpInvalidFrame := of_none rfl

end Sys2Proof.Laws.Payload
end

