-- ==== Sys2Proof/Laws/Resets.lean ====
section
/-! SUPPORT. What a reset of the core die leaves (R514, R515, Table 19.7). -/
namespace Sys2Proof.Machine

/-- A cut of the flight copy touches the flight window's fields alone. -/
theorem flightCut_frame (s : State) : flightCut s = { s with recd := { s.recd with
    area := (flightCut s).recd.area, areaHeld := (flightCut s).recd.areaHeld, copyWas := (flightCut s).recd.copyWas
    copied := (flightCut s).recd.copied, flight := (flightCut s).recd.flight } } := by
  unfold flightCut
  simp only
  split <;> rfl

/-- Every component of a reset core die that the settling of the phase pins leaves alone, field by field. -/
theorem coreReset_fields (kind : Nat) (s : State) :
    (coreReset kind s).sys = resetSys kind s.sys ∧ (coreReset kind s).wrm = s.wrm ∧ (coreReset kind s).otp = s.otp ∧
    (coreReset kind s).tim = resetTim (decide (kind ≤ 1)) s.tim ∧ (coreReset kind s).hsw.chans = tabMap (fun _ x => { x with held := none }) (holdCodes s).hsw.chans ∧
    (coreReset kind s).recd.sealedLog = s.recd.sealedLog ∧ (coreReset kind s).recd.openLog = s.recd.openLog ∧
    (coreReset kind s).mem = resetMem (decide (kind ≤ 1)) s.mem ∧ (coreReset kind s).flt = resetFlt kind s.flt ∧
    (coreReset kind s).bch = resetBch s.bch ∧ (coreReset kind s).pd = s.pd ∧ (coreReset kind s).batch = none ∧
    (coreReset kind s).seq.en = (if decide (kind ≤ 1) then 0 else s.seq.en) ∧
    (coreReset kind s).hst.accCtr = s.hst.accCtr ∧ (coreReset kind s).pin.rstLow = decide (kind = 2) := by
  unfold coreReset
  rw [settlePhases_phasesOnly, flightCut_frame]
  simp only [resetRec, and_self]

/-- A table changed by a function of the entries that leaves the default entry alone and does nothing a second time. -/
theorem tabMap_get {α : Type} [Inhabited α] [DecidableEq α] (f : α → α) (hd : f default = default) (hi : ∀ x, f (f x) = f x)
    (t : Tab α) (j : Nat) : (tabMap (fun _ x => f x) t).get j = f (t.get j) := by
  have key : ∀ (ks : List Nat) (t : Tab α), (j ∈ ks ∨ f (t.get j) = t.get j) →
      (t.modifyAll ks fun _ x => f x).get j = f (t.get j) := by
    intro ks
    induction ks with
    | nil => intro t h; rcases h with h | h
             · cases h
             · exact h.symm
    | cons k ks ih =>
      intro t h
      show (Tab.modifyAll (t.put k (f (t.get k))) ks fun _ x => f x).get j = _
      by_cases hk : j = k
      · subst hk
        rw [ih _ (.inr (by rw [Tab.get_put, if_pos rfl, hi])), Tab.get_put, if_pos rfl, hi]
      · rw [ih, Tab.get_put, if_neg hk]
        rw [Tab.get_put, if_neg hk]
        rcases h with h | h
        · exact .inl ((List.mem_cons.mp h).resolve_left hk)
        · exact .inr h
  apply key
  by_cases hj : j ∈ t.map (·.1)
  · exact .inl hj
  · right
    have : t.get j = default := by
      clear key
      induction t with
      | nil => rfl
      | cons p t ih =>
        obtain ⟨i, v⟩ := p
        simp only [List.map_cons, List.mem_cons, not_or] at hj
        show (if i = j then v else Tab.get t j) = default
        rw [if_neg (fun h => hj.1 h.symm), ih hj.2]
    rw [this, hd]

/-- What each channel holds once the power die goes on by itself: the code that the core die last commanded. -/
theorem holdCodes_chan (s : State) (c : Nat) : (holdCodes s).chan c =
    if s.chanUsed c then { s.chan c with heldCode := some ((s.chan c).heldCode.getD (s.coreCode c)) } else s.chan c := by
  have hc : ∀ (l : List Nat) (u : State), u.cfg = s.cfg → l.Nodup →
      ((l.foldl (fun s c => if s.chanUsed c then setChan c (fun x => { x with heldCode := some (x.heldCode.getD (s.coreCode c)) }) s
        else s) u).chan c = if c ∈ l ∧ s.chanUsed c = true then
          { u.chan c with heldCode := some ((u.chan c).heldCode.getD (u.coreCode c)) } else u.chan c) := by
    intro l
    induction l with
    | nil => intro u _ _; simp
    | cons k l ih =>
      intro u hu hn
      rw [List.nodup_cons] at hn
      have huk : u.chanUsed k = s.chanUsed k := by simp [State.chanUsed, hu]
      rw [List.foldl_cons, huk]
      cases hk : s.chanUsed k with
      | false =>
        simp only [Bool.false_eq_true, if_false]
        rw [ih u hu hn.2]
        by_cases hck : c = k
        · subst hck; simp [hk]
        · simp [hck]
      | true =>
        simp only [if_true]
        rw [ih (setChan k (fun x => { x with heldCode := some (x.heldCode.getD (u.coreCode k)) }) u) hu hn.2]
        by_cases hck : c = k
        · subst hck; simp [hn.1, hk]
        · have e1 : ∀ f, (setChan k f u).chan c = u.chan c := fun f => by rw [setChan_chan, if_neg hck]
          have e2 : ∀ f, (setChan k f u).coreCode c = u.coreCode c := by
            intro f; unfold State.coreCode State.confCode State.confMa; rw [e1]; rfl
          rw [e1, e2]; simp [hck]
  have := hc (List.range 54) s rfl List.nodup_range
  unfold holdCodes
  rw [this]
  by_cases hu : s.chanUsed c = true
  · have h54 : c < 54 := by
      simp only [State.chanUsed, Bool.and_eq_true, decide_eq_true_eq] at hu; exact hu.1
    simp [hu, h54]
  · simp [hu]

/-- What each channel holds after a reset of the core die. -/
theorem coreReset_chan (kind : Nat) (s : State) (c : Nat) : (coreReset kind s).chan c =
    if s.chanUsed c then { s.chan c with held := none, heldCode := some ((s.chan c).heldCode.getD (s.coreCode c)) }
    else { s.chan c with held := none } := by
  have h := (coreReset_fields kind s).2.2.2.2.1
  have e : ((coreReset kind s).chan c) = { (holdCodes s).chan c with held := none } := by
    show (coreReset kind s).hsw.chans.get c = _
    rw [h]
    exact tabMap_get (fun x : Channel => { x with held := none }) rfl (fun _ => rfl) _ _
  rw [e, holdCodes_chan]
  split <;> rfl

end Sys2Proof.Machine
end

