-- ==== Sys2Proof/Tests/Slice0.lean ====
section
/-! SUPPORT. Tests of the model: ill-formed commands that WellFormed refuses, values from the spec's words, and for each statement
with hypotheses a device that meets them. -/
namespace Sys2Proof.Tests
open Sys2Proof.Machine

set_option maxRecDepth 4000

/-! ### Ill-formed commands, one for each check (WellFormed.lean) -/

theorem test_wf_header :
    Instr.wf (.cmdSysReset { port := .mgt, mbox := 2 }) = false ∧
    Instr.wf (.cmdSysReset { port := .fhp, mbox := 1 }) = false ∧
    Instr.wf (.cmdSysReset { port := .peer, mbox := 3 }) = false ∧
    Instr.wf (.cmdSysReset { counter := 4294967296 }) = false ∧
    Instr.wf (.cmdSysReset { key := some 4 }) = false ∧
    Instr.wf (.cmdSysReset { port := .peer, mbox := 7, counter := 4294967295, key := some 3 }) = true ∧
    Instr.wf (.cmdStageRefSet {} 0 1 (-2147483649)) = false ∧
    Instr.wf (.fhpWrite 0 (List.replicate 4097 0) 0) = false ∧
    Instr.wf (.railEdge 4095) = true := by
  decide +kernel

theorem test_wf_catalogue :
    ([.cmdSysLifecycle {} 256,
      .cmdSysKeyProgram {} 256 (List.replicate 32 0),
      .cmdSysKeyProgram {} 0 (List.replicate 33 0),
      .cmdSysRootProgram {} 256 (List.replicate 48 0),
      .cmdSysRootProgram {} 0 (List.replicate 49 0),
      .cmdChassisTimeSet {} 18446744073709551616,
      .cmdHstNop {} (List.replicate 65 0),
      .cmdFltReactionSet {} 256 0 0,
      .cmdFltReactionSet {} 0 256 0,
      .cmdPeakClear {} 4294967296 0,
      .cmdPeakClear {} 0 256,
      .cmdWmSet {} 256 0 0 0 0 0 0,
      .cmdWmSet {} 0 0 65536 0 0 0 0,
      .cmdWmSet {} 0 0 0 65536 0 0 0,
      .cmdWmSet {} 0 0 0 0 256 0 0,
      .cmdLoopRestore {} 256] : List Instr).all (fun i => !i.wf) = true ∧
    ([.cmdStageEnable {} 256 false,
      .cmdStageModeSet {} 256 0,
      .cmdStageModeSet {} 0 256,
      .cmdStageRefSet {} 256 0 0,
      .cmdStageRefSet {} 0 256 0,
      .cmdStageRefSet {} 0 0 2147483648,
      .cmdStageOvClear {} 256,
      .cmdPhaseUnmask {} 256,
      .cmdRectParkSet {} 256 0,
      .cmdRectParkSet {} 0 256,
      .cmdRectReturn {} 256,
      .cmdDomainEnable {} 65536 false,
      .cmdDomainSet {} 65536 0 0 0 0,
      .cmdDomainSet {} 0 0 256 0 0,
      .cmdDomainSet {} 0 0 0 4294967296 0,
      .cmdDomainSet {} 0 0 0 0 256] : List Instr).all (fun i => !i.wf) = true ∧
    ([.cmdGrantSet {} 65536 false 0,
      .cmdGrantSet {} 0 false 4294967296,
      .cmdLehrCapSet {} 4294967296,
      .cmdBatSocSet {} 256 0 0,
      .cmdBatSocSet {} 0 4294967296 0,
      .cmdBatSocSet {} 0 0 4294967296,
      .cmdBatRelearn {} 256,
      .cmdBatCyclesSet {} 256 0,
      .cmdBatCyclesSet {} 0 4294967296,
      .cmdBatZtableReset {} 256,
      .cmdBatZtableRead {} 256,
      .cmdHswSet {} 256 false,
      .cmdHswToggle {} 256,
      .cmdHswLimitSet {} 256 0,
      .cmdHswLimitSet {} 0 4294967296,
      .cmdHswFailClear {} 256] : List Instr).all (fun i => !i.wf) = true ∧
    ([.cmdSeqGroupSet {} 256 false,
      .cmdSeqClear {} 256,
      .cmdSeqLogRead {} 4294967296,
      .cmdRecFreeze {} 256,
      .cmdRecThaw {} 256,
      .cmdRecFlightRead {} 4294967296 0,
      .cmdRecFlightRead {} 0 65536,
      .cmdRecNote {} (List.replicate 33 0),
      .cmdTieRequest {} 256 0,
      .cmdTieRequest {} 0 4294967296,
      .cmdTieRelease {} 256,
      .cmdTiePortSet {} 256 0 0,
      .cmdCanePortSet {} 256 false,
      .cmdCaneNodeRetry {} 256 0,
      .cmdCaneNodeRetry {} 0 256,
      .cmdPmbRecover {} 256] : List Instr).all (fun i => !i.wf) = true ∧
    ([.cmdPmbTransact {} 256 0 0 0 false 0,
      .cmdPmbTransact {} 0 256 0 0 false 0,
      .cmdPmbTransact {} 0 0 256 0 false 0,
      .cmdPmbTransact {} 0 0 0 256 false 0,
      .cmdPmbTransact {} 0 0 0 0 false 65536,
      .cmdBchBegin {} 4294967296 0 (List.replicate 48 0),
      .cmdBchBegin {} 0 65536 (List.replicate 48 0),
      .cmdBchBegin {} 0 0 (List.replicate 49 0),
      .cmdBchChunk {} 65536 0 0 (List.replicate 512 0),
      .cmdBchChunk {} 0 256 0 (List.replicate 512 0),
      .cmdBchChunk {} 0 0 4294967296 (List.replicate 512 0),
      .cmdBchChunk {} 0 0 0 (List.replicate 513 0),
      .cmdBchActivate {} 4294967296 (List.replicate 48 0),
      .cmdBchActivate {} 0 (List.replicate 49 0),
      .cmdBchRootRevoke {} 256,
      .cmdMemBistSlice {} 256] : List Instr).all (fun i => !i.wf) = true := by
  decide +kernel

theorem test_wf_rows0 :
    ([.wmEventClear 8 0,
      .hswTripEventClear 2 0,
      .lehDomSelWrite .mgt 4294967296,
      .hswChSelWrite .mgt 4294967296,
      .seqRailSelWrite .mgt 4294967296,
      .tieMarkerSelWrite .mgt 4294967296,
      .pntNodeSelWrite .mgt 4294967296,
      .pmbPortSelWrite .mgt 4294967296,
      .fltReactSelWrite .mgt 4294967296,
      .hstKeySelWrite .mgt 4294967296,
      .peekEntryRead .mgt 256,
      .registerWrite .mgt 65536 [0],
      .registerWrite .mgt 0 [],
      .mgtWriteTransaction 128 [],
      .mgtReadTransaction 128 0,
      .fhpWrite 4294967296 [0] 0] : List Instr).all (fun i => !i.wf) = true ∧
    ([.fhpWrite 0 [] 0,
      .fhpWrite 0 [0] 65536,
      .fhpRead 4294967296 0 0 false,
      .fhpRead 0 65536 0 false,
      .fhpRead 0 0 65536 false,
      .fhpQuadRead 4294967296 0 0 false,
      .fhpQuadRead 0 65536 0 false,
      .fhpQuadRead 0 0 65536 false,
      .fastConversion 8 0 0,
      .fastConversion 0 16 0,
      .slowConversionComplete 2 0,
      .wmComparatorEdge 128 false false 0 0,
      .wmNarrowStep 128,
      .sensorRestored 20,
      .blendEnd 8,
      .residual 8 0] : List Instr).all (fun i => !i.wf) = true ∧
    ([.residual 0 8,
      .onTimeStart 24,
      .blankingEnd 24,
      .peakComparatorTrip { phase := 24, senseUv := 0, ns := 0 },
      .cycleLimitTrip 24 0,
      .maxDutyClamp 24,
      .cycleLimit 24,
      .shedStart 6,
      .phaseShed 6,
      .phaseOpen 24,
      .pmbPoll 8,
      .pmbTransactionComplete 8 {},
      .pmbAlert 8,
      .pmbStretchTimeout 8,
      .pmbBusHung 8 false,
      .pmbRecoveryRetry 8 false] : List Instr).all (fun i => !i.wf) = true ∧
    ([.rectNoAck 36,
      .rectSilent 36,
      .rectUnparkTimeout 36,
      .rectServing 36,
      .shareTol 36,
      .demandSilent 512,
      .grantRefresh 512,
      .grantOverdraw 512,
      .enforceStart 48,
      .enforceEnd 48,
      .integrationStepClose 6,
      .restCorrection 6,
      .voltageCorrection 6,
      .chargeTermination 6,
      .chargeTimeout 6,
      .inhibitClear 6] : List Instr).all (fun i => !i.wf) = true := by
  decide +kernel

theorem test_wf_rows1 :
    ([.eodReached 6,
      .endClear 6,
      .impedanceUpdate 64,
      .cycleRecordQueue 6,
      .moduleSilent 64,
      .currentLimitEngage { chan := 54, ns := 0 },
      .timerTrip { chan := 54, ns := 0 },
      .gatePulldownDelay 54,
      .breakerTrip 54,
      .seatDebounceComplete 48,
      .coolDownEnd 54,
      .gateStuck 54,
      .fetShort 54,
      .keeperInsertDelayEnd 4,
      .keeperVinOv 4,
      .ewAssert 4] : List Instr).all (fun i => !i.wf) = true ∧
    ([.railEdge 4096,
      .riseTimeout 4096,
      .fallTimeout 4096,
      .railUv 4096,
      .railOv 4096,
      .retryClear 4096,
      .minOffEnd 64,
      .groupUnfreeze 64,
      .freezeLapsed 2,
      .peerAck 65536,
      .peerMirror {} 65536 [],
      .peerMirror {} 0 (List.replicate 273 0),
      .peerCounter {} 4 0,
      .peerCounter {} 0 4294967296,
      .peerCounterAck {} 4 0,
      .peerCounterAck {} 0 4294967296] : List Instr).all (fun i => !i.wf) = true ∧
    ([.peerForward {} 4 [],
      .peerForward {} 0 (List.replicate 1025 0),
      .peerForwardReply {} 4 [],
      .peerForwardReply {} 0 (List.replicate 1025 0),
      .peerGuard {} 54,
      .peerGuardAck {} 54,
      .guardTrip 54,
      .irlerAck 2 0,
      .irlerAck 0 256,
      .irlerHello 2 0 0 0 0 0 0,
      .irlerHello 0 256 0 0 0 0 0,
      .irlerRequest 2 0 false 0 0,
      .irlerRequest 0 256 false 0 0,
      .irlerOffer 2 0 0 0 0,
      .irlerOffer 0 256 0 0 0,
      .irlerAccept 2 0 0 0] : List Instr).all (fun i => !i.wf) = true ∧
    ([.irlerAccept 0 256 0 0,
      .irlerRefuse 2 0 0,
      .irlerRefuse 0 256 0,
      .irlerCollision 2 0 0,
      .irlerCollision 0 256 0,
      .irlerMatch 2 0 0,
      .irlerMatch 0 256 0,
      .irlerClosed 2 0 0,
      .irlerClosed 0 256 0,
      .irlerRenew 2 0 0 0,
      .irlerRenew 0 256 0 0,
      .irlerRelease 2 0 0,
      .irlerRelease 0 256 0,
      .irlerMarkerData 2 0 0 0 0 0,
      .irlerMarkerData 0 256 0 0 0 0,
      .irlerCrc 2] : List Instr).all (fun i => !i.wf) = true := by
  decide +kernel

theorem test_wf_rows2 :
    ([.irlerRetransmit 2,
      .irlerLineCollision 2,
      .irlerBackoffEnd 2,
      .irlerSendStart 2,
      .offerTimeout 2,
      .tieMatchFail 2,
      .farEndSilent 2,
      .tieLeaseExpiry 2,
      .tieRenewSend 2,
      .releaseDeadline 2,
      .markerReadInterval 2,
      .resumeWindowExpiry 2,
      .caneLinkUp 16,
      .caneLinkDown 16,
      .caneAck 64 0,
      .caneAck 0 65536] : List Instr).all (fun i => !i.wf) = true ∧
    ([.canePointUpdate 64 0 [],
      .canePointUpdate 0 65536 [],
      .caneDemand 64 0 [],
      .caneDemand 0 65536 [],
      .caneFaultNote 64 0 0 0,
      .caneFaultNote 0 65536 0 0,
      .caneNodeInfo 16 0 0 [] 0 0,
      .caneNodeInfo 0 0 64 [] 0 0,
      .caneCrc 16,
      .caneRetransmit 64,
      .nodeQuery 16,
      .nodeLost 64,
      .supplyOutOfRange 9,
      .currentLimitRelease { chan := 54, ns := 0 },
      .pullCountedAsToggle 48,
      .supplyInRange 9] : List Instr).all (fun i => !i.wf) = true ∧
    ([.loopEvaluationComplete 8 0 []] : List Instr).all (fun i => !i.wf) = true := by
  decide +kernel

/-! ### A device to state witnesses about -/

/-- A batch with one object of every kind and one more where two differ. -/
def wb : Batch := {
  ppsEn := true, syncOutEn := true
  slots := [(0, { enable := true, periodMask := 3 })], scan := [(0, [1]), (1, [2])]
  mons := [(1, { role := .stageOv 0 }), (2, { role := .shed }), (3, { enable := false })]
  loops := [(0, { present := true, n := 2, m := 2, p := 1, degrade := [(0, .stop), (1, .degraded 2), (8, .flag)] }),
    (6, { present := true, m := 2, degrade := [(0, .degraded 3)] })]
  regions := [(0, { pers := [2, 2] })]
  stages := [(0, { topology := 2, modesAllowed := 15, vMax := 48000, iChgMax := 5000, shedEn := true, shedDwell := 4, shedRamp := 4
                   openTicks := 3, limitTicks := 3 })]
  phases := [(0, { stage := 0, loopInput := 0 }), (1, { stage := 0, shedRank := 1, loopInput := 1 }), (2, { stage := 0 })]
  rects := [(0, { present := true, address := 0x10, rating := 3000000, unparkMs := 10 }),
    (1, { present := true, address := 0x11, rating := 3000000, parkRank := 1 }), (2, { present := true, port := 1, address := 0x12 })]
  doms := [(0, { present := true, slot := 0, node := 1, number := 3, floor := 10, ceiling := 1000 }),
    (511, { present := true, slot := 1, node := 1, number := 4 })]
  strings := [(0, { present := true, chargeAuto := true }), (5, { present := true, chargeAuto := false })]
  modules := [(0, { present := true, port := 2, address := 0x20, string := 0 })]
  chans := [(0, { present := true }), (1, { present := true }), (2, { present := true }), (3, { present := true }),
    (4, { present := true }), (5, { present := true }), (6, { present := true }), (7, { present := true }), (8, { present := true }),
    (47, { present := true }), (48, { present := true, ewEn := true }), (49, { present := true }), (52, { present := true }),
    (53, { present := true })]
  rails := [(0, { kind := 1, group := 2, en := 3 }), (1, { kind := 2, group := 2, node := 1, nodeRail := 1 }),
    (2, { kind := 1, group := 2, reaction := 2 }), (3, { kind := 1, group := 0 })]
  groups := [(0, { present := true }), (1, { present := true }), (2, { present := true, cooperate := true }), (3, { present := true }),
    (4, { present := true }), (63, { present := true })]
  ties := [(0, { portEn := true }), (1, { portEn := true })]
  nodes := [(1, { present := true, port := 0, position := 0 }), (2, { present := true, port := 0, position := 1 }),
    (63, { present := true, port := 15, position := 3 })]
}

/-- A holder in control that has run for a thousand frames under that batch. -/
def w : State := { State.reset with
  sys := { core := .running, coreAbsent := false, linkUp := true }
  otp := { lifecycle := .provisioned }
  wrm := { cold := false, released := true, outcome := .wake, pwrReq := true, inRange := BitVec.allOnes 7 }
  tim := { frame := 1000, tick := 9, begun := true, gen := .locked, measured := 512000, trefValid := true, ppsOk := true }
  lop := { loops := [(0, { enabled := true, running := true, rset := 1, region := 0, counters := [2, 5] }),
    (6, { enabled := true, running := true, region := 0, counters := [2, 5] })] }
  stg := {
    stages := [(0, { st := .running, enabled := true, mode := .charge, switching := true, dwell := 4, j := 4 })]
    phases := [(0, { active := true, nxtActive := true, limitRun := 3, openRun := 3 }), (1, { active := true, nxtActive := true }),
      (2, { masked := true })] }
  shr := {
    cur := { rects := [(0, { st := .serving }), (1, { st := .serving }), (2, { st := .faulted })] }
    nxt := { rects := [(0, { st := .serving, errRun := 1024, satRun := 1024 }), (1, { st := .serving }), (2, { st := .faulted })]
             dwell := 4096 } }
  leh := { nxt := {
    doms := [(0, { st := .active, ceiling := 1000, demandAge := 300, overFrames := 8, grant := 100 }), (511, { st := .held })]
    enf := [(0, { overFrames := 8 }), (1, { on := true, clean := 64 })] } }
  hsw := { chans := [(0, { st := .on, enabled := true, gate := true, pg := true, pgS := true }),
    (1, { st := .tripped, enabled := true, latched := some .timer, gapAll := true, gapRun := 390 }), (2, { st := .failed }),
    (3, { st := .seating, enabled := true, seatAll := true, seatRun := 390, seatS := true }),
    (4, { st := .seating, seatAll := true, seatRun := 390, seatS := true }),
    (5, { st := .seating, enabled := true, seatAll := true, seatRun := 390, seatS := true, cool := some 1001 }),
    (6, { st := .starting, enabled := true, gate := true, riseNs := 50000000 }),
    (7, { st := .tripped, enabled := true, latched := some .timer, seatS := true, pending := true, cool := some 1000 }),
    (8, { st := .on, enabled := true, gate := true, limit := true, pullDue := true, shed := some 20, cool := some 1000 }),
    (48, { st := .on, enabled := true, gate := true }), (49, { enabled := true, vinAll := true, vinRun := 1952 }),
    (52, { st := .on, gate := true }), (53, { st := .tripped, latched := some .breaker, pending := true, cool := some 999 })] }
  seq := {
    cur := [(1, { st := .latched, latching := true }), (2, { st := .up }), (3, { st := .resting }), (4, { st := .frozen })]
    nxt := [(1, { st := .latched, latching := true }), (2, { st := .up }), (3, { st := .resting }), (4, { st := .frozen })]
    rails := [(0, { up := true, retries := 1, inWin := 3906 }), (3, {})] }
  red := { st := .holder, drive := true, holdPull := true, peerUp := true, mirComplete := true }
  tie := { ports := [(0, { st := .idle, portEn := true }), (1, { st := .closed, portEn := true, cable := true })] }
  pnt := {
    ports := [(0, { up := true, rejected := [9] })]
    nodes := [(1, { joined := true }), (2, {})] }
  pin := { tickInputs := 64009 }
  batch := some wb, pd := some wb }

/-- Seven of the eight pieces of chunk 1, all zeros. -/
def wpPieces : Tab (List Byte) := (List.range 7).map fun p => (8 + p, List.replicate 512 0)

/-- The same with those pieces held under one CRC. -/
def wp (crc : Nat) : State := setBch (fun b => { b with
  staging := true, stCount := 2, pieces := wpPieces, pieceCrc := [(1, crc)] }) w

theorem wp_pieces : ((List.range 8).filter fun p => !((wpPieces.put 15 (padTo 512 [])).get (8 * 1 + p)).isEmpty).length = 8 := by
  decide +kernel

/-- The eighth piece completes the chunk under whichever CRC. -/
theorem wp_piece (c : Nat) : ((takePiece 1 7 c [] (wp c).bch).held 1).length = 8 ∧
    (takePiece 1 7 c [] (wp c).bch).chunkBytes 1 = (List.range 8).flatMap fun p => (wpPieces.put 15 (padTo 512 [])).get (8 * 1 + p) := by
  have h : (((wp c).bch.held 1).isEmpty || decide ((wp c).bch.pieceCrc.get 1 ≠ c)) = false := by
    have h1 : (wp c).bch.pieceCrc.get 1 = c := rfl
    have h2 : ((wp c).bch.held 1).isEmpty = false := by
      show ((List.range 8).filter fun p => !(wpPieces.get (8 * 1 + p)).isEmpty).isEmpty = false
      decide +kernel
    rw [h1, h2]; simp
  have h3 : (takePiece 1 7 c [] (wp c).bch).pieces = wpPieces.put 15 (padTo 512 []) := by
    unfold takePiece; simp only [h]; rfl
  unfold Bch.held Bch.chunkBytes
  rw [h3]; exact ⟨wp_pieces, rfl⟩

/-- The same with an operation of every background job in the frame's schedule. -/
def wj : State := { w with leh := { w.leh with
  jobs := (List.range 6).map fun j => (j, { run := 1, pos := if j = 1 then 262142 else if j = 3 then 131070 else 0 }) } }

/-- The same with string 5 steady for a voltage correction. -/
def wv : State := setStr 5 (fun x => { x with
  closed := true, voltage := some 48000, vcTime := 10000000000, fccMah := 100000 })
  { w with bat := { ztab := (List.range 128).map fun k => (k, { z := 1000, n := 1 }) } }

/-- The same with an impedance step of string 0 that module 0 has measured, from 48 V to v. -/
def wz (v : Int) : State :=
  setModule 0 (fun m => { m with silent := false, vBefore := some 48000, vAfter := some v, temp := some 2500 })
    (setStr 0 (fun x => { x with zstep := some { di := 1000 } }) w)

/-- The same at the boundary that ends its frame. -/
def wd (s : State) : State := setTim (fun t => { t with frameDue := true }) s

/-- The same with one happening of a rail for the running frame to take in. -/
def wh (rail kind : Nat) : State :=
  setRail rail (fun x => { x with pends := [{ kind := kind, bound := 64000, tag := { tag := 63999 } }] }) w

theorem railHead_w (i : Nat) : (setSeq (fun q => { q with seqfAt := some 64000 }) w).railHead i = none := by
  have h : (setSeq (fun q => { q with seqfAt := some 64000 }) w).rail i =
      if i = 0 then { up := true, retries := 1, inWin := 3906 } else {} := by
    rcases i with _ | _ | _ | _ | i <;> rfl
  unfold State.railHead
  rw [h]; split <;> first | rfl | (split at * <;> simp_all)

/-- The same with a PPS edge that finds chassis time at k, whichever instant of the tick the edge falls on. -/
def wpps (k : Nat) : State :=
  setTim (fun t => { t with chassis := (2 ^ 64 + k - natOf (Config.freeValue w.free) % 2 ^ 64) % 2 ^ 64 }) w

theorem chassis_wpps (k : Nat) (h : k < 2 ^ 64) :
    (advanceChassis (natOf (Config.freeValue (wpps k).free)) (wpps k).tim).chassis = k := by
  show ((2 ^ 64 + k - natOf (Config.freeValue w.free) % 2 ^ 64) % 2 ^ 64 + ((natOf (Config.freeValue w.free) * 1000000 + 0) / 1000000 -
    min 0 ((natOf (Config.freeValue w.free) * 1000000 + 0) / 1000000 / 1000))) % 2 ^ 64 = k
  rw [Nat.zero_min]; omega

/-- The device as delivered, not in control, with a block rung in the first mailbox. -/
def wr (block : List Byte) : State := { w with
  otp := {}, red := { st := .seeking }, hst := { mboxes := [(0, { st := .busy, block := block, rung := some 0 })] }
  sys := { w.sys with crucible := true } }

/-! ### Tests against the spec's words and published check values -/

/-- The state after a step that goes on; the reset state where it does not. -/
def after (o : Out) : State :=
  match o with
  | .next t => t
  | _ => State.reset

/-- The ASCII digits 1 to 9, on which check values of CRCs are given. -/
def digits : List Byte := [0x31, 0x32, 0x33, 0x34, 0x35, 0x36, 0x37, 0x38, 0x39]

/-- Check value published for CRC-32C (log entry 11). -/
theorem test_crc32c : crc32c digits = 0xE3069283 := by decide +kernel

/-- Check value published for polynomial 0x1021 started at 0xFFFF (R457). -/
theorem test_crc16 : crc16 digits = 0x29B1 := by decide +kernel

/-- FIPS 180 example "abc". -/
theorem test_sha256 : (sha256 [0x61, 0x62, 0x63]).take 4 = [0xBA, 0x78, 0x16, 0xBF] := by decide +kernel

/-- FIPS 180 example "abc". -/
theorem test_sha384 : (sha384 [0x61, 0x62, 0x63]).take 4 = [0xCB, 0x00, 0x75, 0x3F] := by decide +kernel

/-- RFC 4231 case 2: key "Jefe", "what do ya want for nothing?". -/
theorem test_hmac : (hmac256 [0x4A, 0x65, 0x66, 0x65]
    [0x77, 0x68, 0x61, 0x74, 0x20, 0x64, 0x6F, 0x20, 0x79, 0x61, 0x20, 0x77, 0x61, 0x6E, 0x74, 0x20, 0x66, 0x6F, 0x72, 0x20,
     0x6E, 0x6F, 0x74, 0x68, 0x69, 0x6E, 0x67, 0x3F]).take 4 = [0x5B, 0xDC, 0xC1, 0x46] := by decide +kernel

/-- R12: halves round to even. -/
theorem test_round_half_even : [divRhe 5 2, divRhe 7 2, divRhe (-5) 2, divRhe (-7) 2, divRhe 3 2] = [2, 4, -2, -4, 2] := by decide

/-- R12: a result outside the format saturates. -/
theorem test_saturates : [sat32 2147483648, sat32 (-2147483649), satS 16 40000] = [2147483647, -2147483648, 32767] := by decide

/-- LINEAR11: five bits of exponent above eleven of mantissa, both signed (log entry 26). -/
theorem test_linear11 : [linear11 0xE808 1000, linear11 0x07FF 1000, linear11 0x0802 1] = [1000, -1000, 4] := by decide

/-- R8: values are little-endian. -/
theorem test_little_endian : leBytes 4 0x3AB09400 = [0x00, 0x94, 0xB0, 0x3A] := by decide

/-- Tables 17.4 to 17.6: opcodes and payloads written out by hand. -/
theorem test_decode_catalogue :
    decodeCmd {} 0x0001 [] = some (.cmdChipIdent {}) ∧
    decodeCmd {} 0x0401 [0x09, 0x02, 0x41] = some (.cmdFltReactionSet {} 9 2 0x41) ∧
    decodeCmd {} 0x0601 [0x03, 0x01] = some (.cmdLoopEnable {} 3 1) ∧
    decodeCmd {} 0x0D02 [0x01] = some (.cmdRecFreeze {} 1) ∧
    decodeCmd {} 0x0501 [0x00, 0x10, 0x00, 0x00, 0x78] = some (.cmdPeakClear {} 0x1000 120) := by decide +kernel

/-- A payload of the wrong length decodes to nothing (R466, Table 16.8). -/
theorem test_decode_length : decodeCmd {} 0x0001 [0] = none ∧ decodeCmd {} 0x0D02 [] = none ∧ decodeCmd {} 0x1400 [] = none := by
  decide +kernel

/-- R3 and Table 17.4: byte 16 of the reply of CMD_CHIP_IDENT begins CHIP_ID; the mailbox is DONE. -/
theorem test_chip_ident :
    let m := (after (exec (.cmdChipIdent {}) w)).hst.mboxes.get 0
    field m.reply 16 4 = 0x3AB09400 ∧ m.st = .done ∧ m.ready = true := by decide +kernel

/-- R460, R461: a second doorbell of a BUSY mailbox sets busy_ring and copies nothing. -/
theorem test_busy_ring :
    let t := after (exec (.doorbellNormal .mgt) (after (exec (.doorbellNormal .mgt) w)))
    (t.hst.mboxes.get 0).busyRing = true ∧ (t.hst.mboxes.get 0).rung = some 0 ∧ t.flt.inflight.length = 1 := by decide +kernel

/-- R339: the 33rd message of a full queue is lost and counted. -/
theorem test_message_lost :
    let t := after (exec (.faultMessage 0) { w with flt := { inflight := [{ block := 9 }], queue := List.replicate 32 {} } })
    t.flt.lost = 1 ∧ t.flt.queue.length = 32 := by decide +kernel

/-- R365: the IDCODE register. -/
theorem test_idcode : (after (exec .idcode w)).tap.dr = 0xB9400075 := by decide +kernel

/-- R557: once SYS_LOCK is set a locked register keeps its value. -/
theorem test_lock :
    (after (exec (.registerWrite .mgt 0x0C08 [9, 0, 0, 0]) (after (exec (.sysLockSet .fhp) w)))).hst.thd = 0x1E ∧
    (after (exec (.registerWrite .mgt 0x0C08 [9, 0, 0, 0]) w)).hst.thd = 9 := by decide +kernel

/-- R47: reading TIM_FRAME_LO captures the high bits. -/
theorem test_frame_hi :
    (after (exec (.timFrameLoRead .mgt) (setTim (fun t => { t with frame := 0x500000007 }) w))).tim.frameHiCap = 5 := by decide +kernel

/-- Table 22.1 and R446: MGT reads CHIP_ID from register pointer 0, lowest byte first. -/
theorem test_mgt_chip_id :
    ((after (exec (.mgtReadTransaction 0x48 4) w)).hport 0).out = [0x00, 0x94, 0xB0, 0x3A] := by decide +kernel

/-- R455: FHP answers the sync byte, then the data. -/
theorem test_fhp_chip_id :
    ((after (exec (.fhpRead 0 4 0 false) w)).hport 1).out = [0x5A, 0x00, 0x94, 0xB0, 0x3A] := by decide +kernel

/-- R46: a boot starts 2^20 frames past the saved frame number. -/
theorem test_boot_frame :
    (after (exec (.boot {}) { w with sys := {}, tim := { savedFrame := 5 } })).tim.frame = 1048581 := by decide +kernel

/-- R54, R61: a command that a frame boundary takes is accepted in the frame that opens, at tick 0. -/
theorem test_boundary_command :
    let t := after (exec (.cmdHstNop {} []) { State.reset with
      sys := { core := .running }, tim := { frame := 1000, tick := 63, frameDue := true } })
    t.tim.frame = 1001 ∧ t.tim.tick = 0 ∧ t.tim.frameDue = false ∧ (t.hst.mboxes.get 0).st = .done := by decide +kernel

/-- R54, R68: a tick boundary inside a frame, and the last one of a frame. -/
theorem test_tick_boundary :
    let s := { State.reset with sys := { core := .running }, tim := { frame := 1000, tick := 62, periods := 2 } }
    let t := after (exec (.tickBoundary {}) s)
    let u := after (exec (.tickBoundary {}) (setTim (fun x => { x with periods := 2 }) t))
    t.tim.tick = 63 ∧ t.tim.frameDue = false ∧ u.tim.frame = 1000 ∧ u.tim.frameDue = true := by decide +kernel

/-- R44: a step runs the command at the front of the queue; an empty queue idles (log entry 12). -/
theorem test_step :
    (after (step { w with pending := [.idcode, .bypass] })).pending = [.bypass] ∧ after (step State.reset) = State.reset := by
  decide +kernel

/-- The host's probes: the table gives no row bits, so no word spells a command. -/
theorem test_no_words : decodeTableWord 16 0 = none ∧ State.withFetchWord State.reset 16 0 = State.reset := by decide +kernel

/-! ### Witnesses: hypotheses of every statement, clause by clause, met together -/


theorem witness_QueryAndFuseCommands :
    (∃ (s : State), s.takes = true) ∧
    (∃ (s : State) (k : Nat), s.takes = true ∧ s.bch.active = some k) ∧
    (∃ (s : State), s.takes = true ∧ s.bch.active = none) ∧
    (∃ (target : Nat) (s : State), s.takes = true ∧ s.lifePermits target = true ∧ s.blowing 0 0 = false) ∧
    (∃ (slot : Nat) (s : State), s.takes = true ∧ (s.otp.lifecycle = .blank ∨ s.otp.lifecycle = .provisioned) ∧ slot ≤ 3 ∧ bvGet s.otp.keyBlown slot = false ∧ s.blowing 1 slot = false) ∧
    (∃ (root : Nat) (s : State), s.takes = true ∧ (s.otp.lifecycle = .blank ∨ s.otp.lifecycle = .provisioned) ∧ root ≤ 3 ∧ bvGet s.otp.rootBlown root = false ∧ s.blowing 2 root = false) ∧
    (∃ (root : Nat) (s : State), s.takes = true ∧ root ≤ 3 ∧ (¬ (s.bch.active.isSome = true ∧ s.bch.root = root)) ∧ (∃ r, r < 4 ∧ r ≠ root ∧ bvGet s.otp.rootBlown r = true ∧ bvGet s.otp.revoked r = false)) :=
  ⟨⟨w, by decide⟩,
   ⟨setBch (fun b => { b with active := some 0 }) w, 0, by decide⟩,
   ⟨{ w with otp := {} }, by decide⟩,
   ⟨2, w, by decide⟩,
   ⟨3, w, by decide⟩,
   ⟨3, w, by decide⟩,
   ⟨0, { w with otp := { lifecycle := .field, rootBlown := 9 } }, by first | decide | exact ⟨by decide, by decide, by decide, 3, by decide⟩⟩⟩

theorem witness_SystemCommands :
    (∃ (s : State), s.takes = true) ∧
    (∃ (s : State), s.takes = true ∧ (s.otp.lifecycle = .blank ∨ s.otp.lifecycle = .returned) ∧ s.anyLive = false) ∧
    (∃ (target : Nat) (s : State), s.takes = true ∧ target ≤ 90 ∧ (¬ (target = 90 ∧ s.romFailed = true))) ∧
    (∃ (seconds : Nat) (s : State), s.takes = true ∧ s.sys.crucible = false ∧ seconds ≤ 18446744073 ∧ s.cfg.ppsEn = true) ∧
    (∃ (seconds : Nat) (s : State), s.takes = true ∧ s.sys.crucible = false ∧ seconds ≤ 18446744073 ∧ s.cfg.ppsEn = false) :=
  ⟨⟨w, by decide⟩,
   ⟨{ w with otp := {}, stg := {}, hsw := {} }, by decide⟩,
   ⟨90, w, by decide⟩,
   ⟨18446744073, w, by decide⟩,
   ⟨18446744073, { w with batch := none }, by decide⟩⟩

theorem witness_TableCommands :
    (∃ (block : Nat) (kind : Nat) (reactions : Byte) (s : State), s.takes = true ∧ kindExists block kind = true ∧ bvGet reactions 7 = false ∧ (¬ (bvGet reactions 2 = true ∧ resettable block = false))) ∧
    (∃ (mon : Nat) (mask : BitVec 8) (lower : Nat) (upper : Nat) (hyst : Nat) (s : State), s.takes = true ∧ s.sys.crucible = false ∧ s.monOn mon = true ∧ (bvGet mask 0 = true → lower ≤ 1023) ∧ (bvGet mask 1 = true → upper ≤ 1023) ∧ (bvGet mask 2 = true → hyst ≤ 31)) ∧
    (∃ (first : Nat) (count : Nat) (s : State), s.takes = true ∧ s.sys.crucible = false ∧ first < 262144 ∧ 0 < count ∧ count ≤ 120 ∧ first / 4096 = (first + count - 1) / 4096) :=
  ⟨⟨5, 1, 0, w, by decide⟩,
   ⟨127, 0, 1023, 1023, 31, w, by decide⟩,
   ⟨262143, 1, w, by decide⟩⟩

theorem witness_LoopStageCommands :
    (∃ (changed : BitVec 8) (value : BitVec 8) (s : State), s.takes = true ∧ s.sys.crucible = false ∧ (∀ l, l < 8 → bvGet changed l = true → s.loopDeclared l = true) ∧ (0 < s.lanes ∨ ∀ l, l < 8 → bvGet changed l = true → bvGet value l = false)) ∧
    (∃ (loop : Nat) (s : State), s.takes = true ∧ s.sys.crucible = false ∧ loop < 8 ∧ (s.loop loop).rset ≠ 0 ∧ (s.loop loop).stopped = false ∧ (s.loop loop).enabled = true) ∧
    (∃ (stage : Nat) (s : State), s.takes = true ∧ s.sys.crucible = false ∧ s.stageUsed stage = true) ∧
    (∃ (stage : Nat) (mode : Nat) (s : State), s.takes = true ∧ s.sys.crucible = false ∧ s.stageUsed stage = true ∧ StageCfgPermits (s.cfg.stages.get stage) mode = true ∧ s.chargeOwned stage = false ∧ (¬ (mode = 2 ∧ s.stageEnded stage = true))) ∧
    (∃ (stage : Nat) (target : Nat) (value : Nat) (s : State), s.takes = true ∧ s.sys.crucible = false ∧ s.stageUsed stage = true ∧ s.chargeOwned stage = false ∧ (target = 0 ∧ (s.cfg.stages.get stage).vMin ≤ value ∧ value ≤ (s.cfg.stages.get stage).vMax ∨ target = 1 ∧ 0 ≤ value ∧ (value ≤ (s.cfg.stages.get stage).iChgMax ∨ value ≤ (s.cfg.stages.get stage).iDisMax))) ∧
    (∃ (stage : Nat) (s : State), s.takes = true ∧ s.sys.crucible = false ∧ s.stageUsed stage = true ∧ (s.stage stage).st = .ovLatched ∧ s.roleOv (.stageOv stage) = false) ∧
    (∃ (phase : Nat) (s : State), s.takes = true ∧ s.sys.crucible = false ∧ phase < 24 ∧ (s.phase phase).masked = true ∧ (¬ (s.stageOf phase < 6 ∧ (s.cfg.phases.get phase).loopInput < 8 ∧ bvGet ((s.cfg.loops.get (s.stageOf phase)).excludes.get ((s.loop (s.stageOf phase)).policySet.getD (s.loop (s.stageOf phase)).rset)) (s.cfg.phases.get phase).loopInput = true))) :=
  ⟨⟨1, 1, w, by decide⟩,
   ⟨0, w, by decide⟩,
   ⟨0, w, by decide⟩,
   ⟨0, 0, w, by decide⟩,
   ⟨0, 0, 0, w, by decide⟩,
   ⟨0, setStage 0 (fun x => { x with st := .ovLatched, ovLatch := true }) w, by decide⟩,
   ⟨2, w, by decide⟩⟩

theorem witness_SharingCommands :
    (∃ (rect : Nat) (setting : Nat) (s : State), s.takes = true ∧ s.sys.crucible = false ∧ s.rectUsed rect = true ∧ setting ≤ 2 ∧ (setting = 1 → s.parkTest rect = true)) ∧
    (∃ (rect : Nat) (s : State), s.takes = true ∧ s.sys.crucible = false ∧ s.rectUsed rect = true ∧ (s.rectCur rect).st = .faulted) ∧
    (∃ (s : State), s.takes = true ∧ s.sys.crucible = false) :=
  ⟨⟨0, 2, w, by decide⟩,
   ⟨2, w, by decide⟩,
   ⟨w, by decide⟩⟩

theorem witness_LehrCommands :
    (∃ (dom : Nat) (s : State), s.takes = true ∧ s.sys.crucible = false ∧ s.domUsed dom = true) ∧
    (∃ (dom : Nat) (mask : BitVec 8) (prio : Nat) (ceiling : Nat) (weight : Nat) (s : State), s.takes = true ∧ s.sys.crucible = false ∧ s.domUsed dom = true ∧ (bvGet mask 0 = true → prio ≤ 15) ∧ (bvGet mask 1 = true → (s.cfg.doms.get dom).floor ≤ (ceiling : Int) ∧ (ceiling : Int) ≤ (s.cfg.doms.get dom).ceiling) ∧ (bvGet mask 2 = true → weight ≠ 0)) ∧
    (∃ (dom : Nat) (pin : Bool) (value : Nat) (s : State), s.takes = true ∧ s.sys.crucible = false ∧ s.domUsed dom = true ∧ (pin = true → (s.cfg.doms.get dom).floor ≤ (value : Int) ∧ (value : Int) ≤ (s.dom dom).ceiling)) ∧
    (∃ (cap : Nat) (s : State), s.takes = true ∧ s.sys.crucible = false ∧ cap ≤ 2147483647) :=
  ⟨⟨511, w, by decide⟩,
   ⟨0, 7, 15, 1000, 1, w, by decide⟩,
   ⟨0, true, 10, w, by decide⟩,
   ⟨2147483647, w, by decide⟩⟩

theorem witness_BatteryCommands :
    (∃ (string : Nat) (soc : Nat) (conf : Nat) (s : State), s.takes = true ∧ s.sys.crucible = false ∧ s.strUsed string = true ∧ soc ≤ 1000000 ∧ conf ≤ 1000000) ∧
    (∃ (string : Nat) (s : State), s.takes = true ∧ s.sys.crucible = false ∧ s.strUsed string = true) ∧
    (∃ (module : Nat) (s : State), s.takes = true ∧ s.sys.crucible = false ∧ s.modUsed module = true) :=
  ⟨⟨5, 1000000, 1000000, w, by decide⟩,
   ⟨0, w, by decide⟩,
   ⟨0, w, by decide⟩⟩

theorem witness_ChannelCommands :
    (∃ (chan : Nat) (s : State), s.takes = true ∧ s.sys.crucible = false ∧ s.chanUsed chan = true ∧ isTie chan = false) ∧
    (∃ (chan : Nat) (s : State), s.takes = true ∧ s.sys.crucible = false ∧ chan < 54 ∧ (s.chan chan).st = .tripped ∧ (s.chan chan).pending = false) ∧
    (∃ (chan : Nat) (limit : Nat) (s : State), s.takes = true ∧ s.sys.crucible = false ∧ s.chanUsed chan = true ∧ isTie chan = false ∧ 10 ≤ limRaw limit (s.cfg.chans.get chan).rSense ∧ limRaw limit (s.cfg.chans.get chan).rSense ≤ 200 ∧ (s.cfg.chans.get chan).limStart ≤ (limit : Int)) ∧
    (∃ (chan : Nat) (s : State), s.takes = true ∧ s.sys.crucible = false ∧ chan < 54 ∧ (s.chan chan).st = .failed) :=
  ⟨⟨47, w, by decide⟩,
   ⟨1, w, by decide⟩,
   ⟨0, 2500000, w, by decide⟩,
   ⟨2, w, by decide⟩⟩

theorem witness_SequencerCommands :
    (∃ (group : Nat) (up : Bool) (s : State), s.takes = true ∧ s.sys.crucible = false ∧ s.groupUsed group = true ∧ (up = true → (s.groupCur group).st ≠ .latched)) ∧
    (∃ (group : Nat) (s : State), s.takes = true ∧ s.sys.crucible = false ∧ s.groupUsed group = true ∧ (s.groupCur group).st = .latched ∧ (¬ ((s.cfg.groups.get group).cooperate = true ∧ s.seq.seqfSeen = true ∧ s.seq.seqfDrive = false))) ∧
    (∃ (s : State), s.takes = true ∧ s.sys.crucible = false) :=
  ⟨⟨63, true, w, by decide⟩,
   ⟨1, w, by decide⟩,
   ⟨w, by decide⟩⟩

theorem witness_RecorderCommands :
    (∃ (s : State), s.takes = true) ∧
    (∃ (h : CmdHeader) (log : Nat) (s : State), s.takes = true ∧ log ≤ 1 ∧ (log = 0 → ∃ last, s.recd.session.get (portCode h.port) = some last ∧ s.tim.frame ≤ last)) ∧
    (∃ (h : CmdHeader) (log : Nat) (s : State), s.takes = true ∧ log ≤ 1 ∧ (log = 0 → ∃ last, s.recd.session.get (portCode h.port) = some last ∧ s.tim.frame ≤ last) ∧ s.recd.frozen log = true) ∧
    (∃ (h : CmdHeader) (s : State) (last : Nat), s.takes = true ∧ s.recd.session.get (portCode h.port) = some last ∧ s.tim.frame ≤ last) ∧
    (∃ (s : State), s.takes = true ∧ s.recd.flight = .recording ∧ s.recd.areaHeld = false) ∧
    (∃ (s : State), s.takes = true ∧ (¬ (s.recd.flight = .recording ∧ s.recd.areaHeld = false))) ∧
    (∃ (offset : Nat) (length : Nat) (s : State), s.takes = true ∧ s.recd.areaHeld = true ∧ 0 < length ∧ length ≤ 960 ∧ offset + length ≤ 2097152) ∧
    (∃ (s : State), s.takes = true ∧ s.recd.areaHeld = true) :=
  ⟨⟨w, by decide⟩,
   ⟨{}, 1, w, by decide⟩,
   ⟨{}, 1, setRec (fun r => { r with openLog := { frozenFrom := some 900 } }) w, by decide⟩,
   ⟨{}, setRec (fun r => { r with session := [(0, some 1001)] }) w, 1001, by decide⟩,
   ⟨w, by decide⟩,
   ⟨setRec (fun r => { r with flight := .post }) w, by decide⟩,
   ⟨2096192, 960, setRec (fun r => { r with areaHeld := true }) w, by decide⟩,
   ⟨setRec (fun r => { r with areaHeld := true }) w, by decide⟩⟩

theorem witness_PairAndTieCommands :
    (∃ (s : State), s.takes = true ∧ s.sys.crucible = false ∧ s.red.st = .holder ∧ s.red.mirComplete = true ∧ s.red.mismatch = false ∧ s.shr.hold.st = .normal) ∧
    (∃ (s : State), s.takes = true ∧ s.sys.crucible = false) ∧
    (∃ (port : Nat) (s : State), s.takes = true ∧ s.sys.crucible = false ∧ port < 2 ∧ (s.tiePort port).st = .idle) ∧
    (∃ (port : Nat) (s : State), s.takes = true ∧ s.sys.crucible = false ∧ port < 2 ∧ (s.tiePort port).st ≠ .detached ∧ (s.tiePort port).st ≠ .linking ∧ (s.tiePort port).st ≠ .silent ∧ (s.tiePort port).st ≠ .idle) ∧
    (∃ (port : Nat) (s : State), s.takes = true ∧ s.sys.crucible = false ∧ port < 2) :=
  ⟨⟨w, by decide⟩,
   ⟨w, by decide⟩,
   ⟨0, w, by decide⟩,
   ⟨1, w, by decide⟩,
   ⟨1, w, by decide⟩⟩

theorem witness_LinkCommands :
    (∃ (port : Nat) (s : State), s.takes = true ∧ s.sys.crucible = false ∧ port < 16) ∧
    (∃ (port : Nat) (s : State), s.takes = true ∧ s.sys.crucible = false ∧ port < 16) ∧
    (∃ (port : Nat) (node : Nat) (s : State), s.takes = true ∧ s.sys.crucible = false ∧ port < 16 ∧ node ∈ (s.cane port).rejected) ∧
    (∃ (port : Nat) (s : State), s.takes = true ∧ s.sys.crucible = false ∧ port ≤ 7) ∧
    (∃ (port : Nat) (address : Nat) (kind : Nat) (s : State), s.takes = true ∧ s.sys.crucible = false ∧ port ≤ 7 ∧ address ≤ 127 ∧ kind ≤ 5 ∧ (kind = 0 ∨ kind = 2 ∨ kind = 4 → s.pmbPos port address = none)) :=
  ⟨⟨15, w, by decide⟩,
   ⟨0, w, by decide⟩,
   ⟨0, 9, w, by decide⟩,
   ⟨7, w, by decide⟩,
   ⟨7, 127, 5, w, by decide⟩⟩

theorem witness_BatchCommands :
    (∃ (count : Nat) (s : State), s.takes = true ∧ s.bch.running = false ∧ 1 ≤ count ∧ count ≤ 1024) ∧
    (∃ (chunk : Nat) (piece : Nat) (s : State), s.takes = true ∧ s.bch.staging = true ∧ chunk < s.bch.stCount ∧ piece ≤ 7 ∧ s.bch.bitmap.get chunk = true) ∧
    (∃ (chunk : Nat) (piece : Nat) (crc : Nat) (data : List Byte) (s : State), let b := takePiece chunk piece crc data s.bch; s.takes = true ∧ s.bch.staging = true ∧ chunk < s.bch.stCount ∧ piece ≤ 7 ∧ s.bch.bitmap.get chunk = false ∧ (b.held chunk).length < 8) ∧
    (∃ (chunk : Nat) (piece : Nat) (crc : Nat) (data : List Byte) (s : State), let b := takePiece chunk piece crc data s.bch; s.takes = true ∧ s.bch.staging = true ∧ chunk < s.bch.stCount ∧ piece ≤ 7 ∧ s.bch.bitmap.get chunk = false ∧ (b.held chunk).length = 8 ∧ crc32c (b.chunkBytes chunk) = crc) ∧
    (∃ (chunk : Nat) (piece : Nat) (crc : Nat) (data : List Byte) (s : State), let b := takePiece chunk piece crc data s.bch; s.takes = true ∧ s.bch.staging = true ∧ chunk < s.bch.stCount ∧ piece ≤ 7 ∧ s.bch.bitmap.get chunk = false ∧ (b.held chunk).length = 8 ∧ crc32c (b.chunkBytes chunk) ≠ crc) ∧
    (∃ (s : State), s.takes = true ∧ s.bch.running = false) ∧
    (∃ (version : Nat) (digest : List Byte) (s : State), s.takes = true ∧ s.bch.complete = true ∧ s.bch.running = false ∧ version = s.bch.stVersion ∧ padTo 48 digest = padTo 48 s.bch.stDigest) :=
  ⟨⟨1024, w, by decide⟩,
   ⟨1, 7, setBch (fun b => { b with staging := true, stCount := 2, bitmap := [(1, true)] }) w, by decide⟩,
   ⟨1, 7, 0, [], setBch (fun b => { b with staging := true, stCount := 2 }) w, by decide⟩,
   ⟨1, 7, crc32c ((List.range 8).flatMap fun p => (wpPieces.put 15 (padTo 512 [])).get (8 * 1 + p)), [], wp (crc32c ((List.range 8).flatMap fun p => (wpPieces.put 15 (padTo 512 [])).get (8 * 1 + p))), by exact ⟨rfl, rfl, by decide, by decide, rfl, (wp_piece _).1, congrArg crc32c (wp_piece _).2⟩⟩,
   ⟨1, 7, crc32c ((List.range 8).flatMap fun p => (wpPieces.put 15 (padTo 512 [])).get (8 * 1 + p)) + 1, [], wp (crc32c ((List.range 8).flatMap fun p => (wpPieces.put 15 (padTo 512 [])).get (8 * 1 + p)) + 1), by exact ⟨rfl, rfl, by decide, by decide, rfl, (wp_piece _).1, by rw [(wp_piece _).2]; omega⟩⟩,
   ⟨w, by decide⟩,
   ⟨0, [], setBch (fun b => { b with staging := true, stCount := 1, bitmap := [(0, true)] }) w, by decide⟩⟩

theorem witness_PhaseReference :
    (∃ (interval : Nat) (s : State), s.timeRuns = true ∧ s.tim.gen = .locked ∧ inWindow interval s.tim.measured = true) ∧
    (∃ (interval : Nat) (s : State), s.timeRuns = true ∧ s.tim.gen = .coasting ∧ inWindow interval s.tim.measured = true) ∧
    (∃ (s : State), s.timeRuns = true ∧ s.tim.gen = .acquiring) ∧
    (∃ (interval : Nat) (s : State), let u := { s.tim with intervals := (interval :: s.tim.intervals).take 16 }; let whole := decide (u.intervals.length = 16) && u.agree; s.timeRuns = true ∧ s.tim.gen = .fallback ∧ (whole && u.intervals.all fun i => inWindow i u.held) = true) ∧
    (∃ (interval : Nat) (s : State), let u := { s.tim with intervals := (interval :: s.tim.intervals).take 16 }; let whole := decide (u.intervals.length = 16) && u.agree; s.timeRuns = true ∧ s.tim.gen = .fallback ∧ (whole && u.intervals.all fun i => !inWindow i u.held) = true) ∧
    (∃ (interval : Nat) (s : State), let u := { s.tim with intervals := (interval :: s.tim.intervals).take 16 }; let whole := decide (u.intervals.length = 16) && u.agree; s.timeRuns = true ∧ s.tim.gen = .fallback ∧ (whole && (u.intervals.all (fun i => inWindow i u.held) || u.intervals.all fun i => !inWindow i u.held)) = false) ∧
    (∃ (interval : Nat) (s : State), s.timeRuns = true ∧ s.tim.gen = .slewing ∧ inWindow interval s.tim.measured = true) ∧
    (∃ (interval : Nat) (s : State), s.timeRuns = true ∧ s.tim.gen = .slewing ∧ inWindow interval s.tim.measured = false ∧ s.tim.outside < 3) ∧
    (∃ (interval : Nat) (s : State), s.timeRuns = true ∧ s.tim.gen = .slewing ∧ inWindow interval s.tim.measured = false ∧ 3 ≤ s.tim.outside) ∧
    (∃ (s : State), s.timeRuns = true ∧ (s.tim.gen = .locked ∨ s.tim.gen = .coasting)) ∧
    (∃ (s : State), s.timeRuns = true ∧ s.tim.gen = .locked) ∧
    (∃ (s : State), s.timeRuns = true ∧ s.tim.gen = .coasting ∧ s.tim.miss < 3) ∧
    (∃ (s : State), s.timeRuns = true ∧ s.tim.gen = .coasting ∧ 3 ≤ s.tim.miss) ∧
    (∃ (s : State), (s.timeRuns = false ∨ s.tim.gen = .fallback ∨ s.tim.gen = .slewing)) ∧
    (∃ (s : State), s.timeRuns = true ∧ s.cfg.syncOutEn = true) :=
  ⟨⟨512000, w, by decide⟩,
   ⟨512000, setTim (fun t => { t with gen := .coasting }) w, by decide⟩,
   ⟨setTim (fun t => { t with gen := .acquiring }) w, by decide⟩,
   ⟨512000, setTim (fun t => { t with gen := .fallback, intervals := List.replicate 15 512000, held := 512000 }) w, by decide⟩,
   ⟨512000, setTim (fun t => { t with gen := .fallback, intervals := List.replicate 15 512000, held := 600000 }) w, by decide⟩,
   ⟨512000, setTim (fun t => { t with gen := .fallback, held := 512000 }) w, by decide⟩,
   ⟨448000, setTim (fun t => { t with gen := .slewing }) w, by decide⟩,
   ⟨447999, setTim (fun t => { t with gen := .slewing, outside := 2 }) w, by decide⟩,
   ⟨576001, setTim (fun t => { t with gen := .slewing, outside := 3 }) w, by decide⟩,
   ⟨setTim (fun t => { t with gen := .coasting, miss := 3 }) w, by decide⟩,
   ⟨w, by decide⟩,
   ⟨setTim (fun t => { t with gen := .coasting, miss := 2 }) w, by decide⟩,
   ⟨setTim (fun t => { t with gen := .coasting, miss := 3 }) w, by decide⟩,
   ⟨setTim (fun t => { t with gen := .fallback }) w, by decide⟩,
   ⟨w, by decide⟩⟩

theorem witness_References :
    (∃ (s : State), s.timeRuns = true ∧ s.tim.trefValid = true) ∧
    (∃ (ppm : Int) (s : State), s.timeRuns = true ∧ s.tim.trefValid = true ∧ (500 < ppm ∨ ppm < -500)) ∧
    (∃ (s : State), s.timeRuns = true ∧ s.tim.trefValid = false) ∧
    (∃ (s : State) (sec : Nat), s.timeRuns = true ∧ s.cfg.ppsEn = true ∧ s.tim.setPending = some sec) ∧
    (∃ (s : State), let d := natOf (Config.freeValue s.free); let a := advanceChassis d s.tim; let e := ppsError a.chassis; s.timeRuns = true ∧ s.cfg.ppsEn = true ∧ s.tim.setPending = none ∧ 1000 < e) ∧
    (∃ (s : State), let d := natOf (Config.freeValue s.free); let a := advanceChassis d s.tim; let e := ppsError a.chassis; s.timeRuns = true ∧ s.cfg.ppsEn = true ∧ s.tim.setPending = none ∧ e < -1000) ∧
    (∃ (s : State), let d := natOf (Config.freeValue s.free); let a := advanceChassis d s.tim; let e := ppsError a.chassis; s.timeRuns = true ∧ s.cfg.ppsEn = true ∧ s.tim.setPending = none ∧ -1000 ≤ e ∧ e ≤ 1000) ∧
    (∃ (s : State), s.timeRuns = true ∧ s.cfg.ppsEn = true ∧ s.tim.ppsLost = false) ∧
    (∃ (s : State), s.timeRuns = true ∧ s.tim.savedFrame + 1048576 ≤ s.tim.frame) :=
  ⟨⟨w, by decide⟩,
   ⟨501, w, by decide⟩,
   ⟨setTim (fun t => { t with trefValid := false }) w, by decide⟩,
   ⟨setTim (fun t => { t with setPending := some 7 }) w, 7, by decide⟩,
   ⟨wpps 1001, by have h := chassis_wpps 1001 (by decide); refine ⟨rfl, rfl, rfl, ?_⟩; rw [h]; decide⟩,
   ⟨wpps 999998999, by have h := chassis_wpps 999998999 (by decide); refine ⟨rfl, rfl, rfl, ?_⟩; rw [h]; decide⟩,
   ⟨wpps 1000, by have h := chassis_wpps 1000 (by decide); refine ⟨rfl, rfl, rfl, ?_⟩; rw [h]; decide⟩,
   ⟨w, by decide⟩,
   ⟨setTim (fun t => { t with frame := 1048576 }) w, by decide⟩⟩

theorem witness_WorkAndBoundaries :
    (∃ (loop : Nat) (s : State), s.timeRuns = true ∧ 0 < s.lop.roundOpen ∧ loop < 8) ∧
    (∃ (engine : Engine) (s : State), s.timeRuns = true ∧ engine ≠ .recorder) ∧
    (∃ (s : State), s.timeRuns = true) ∧
    (∃ (s : State), (s.timeRuns = false ∨ (s.atBoundary = false ∧ s.cfg.tickPeriods ≤ s.tim.periods))) ∧
    (∃ (s : State), s.timeRuns = true ∧ (s.atBoundary = true ∨ s.tim.periods < s.cfg.tickPeriods)) ∧
    (∃ (s : State), s.timeRuns = true ∧ s.atBoundary = true) ∧
    (∃ (s : State), (s.timeRuns = false ∨ s.atBoundary = false)) ∧
    (∃ (i : Instr) (op : Nat) (p : List Byte) (s : State), encodeCmd i = some (op, p) ∧ (s.coreUp = false ∨ s.atBoundary = false)) ∧
    (∃ (i : Instr) (op : Nat) (p : List Byte) (s : State), encodeCmd i = some (op, p) ∧ s.coreUp = true ∧ s.tim.frameDue = true) :=
  ⟨⟨7, { w with lop := { w.lop with roundOpen := 2 } }, by decide⟩,
   ⟨.marver, w, by decide⟩,
   ⟨setTim (fun t => { t with periods := 2 }) w, by decide⟩,
   ⟨setTim (fun t => { t with begun := false, periods := 2 }) w, by decide⟩,
   ⟨setTim (fun t => { t with frameDue := true }) w, by decide⟩,
   ⟨w, by decide⟩,
   ⟨setTim (fun t => { t with begun := false }) w, by decide⟩,
   ⟨.cmdSysReset {}, 0x0101, [], setTim (fun t => { t with begun := false }) w, by decide⟩,
   ⟨.cmdSysReset {}, 0x0101, [], wd w, by decide⟩⟩

theorem witness_Conversions :
    (∃ (conv : Nat) (entry : Nat) (s : State), s.timeRuns = true ∧ conv < 8 ∧ s.fastUsable conv = true ∧ (s.slotsDue conv s.tim.periods)[s.msr.slotNext.get conv]? = some entry) ∧
    (∃ (conv : Nat) (s : State), s.timeRuns = true ∧ conv < 2 ∧ s.slowUsable conv = true ∧ s.cfg.scan.get conv ≠ [] ∧ s.msr.slowRun.get conv = none ∧ s.msr.slowDone.get conv < s.cfg.slowPerTick) ∧
    (∃ (conv : Nat) (s : State) (ch : Nat), s.timeRuns = true ∧ conv < 2 ∧ s.slowUsable conv = true ∧ s.cfg.scan.get conv ≠ [] ∧ s.msr.slowRun.get conv = some ch) ∧
    (∃ (sensor : Nat) (s : State), s.timeRuns = true ∧ (s.msr.sensors.get sensor).broken = true ∧ 256 ≤ (s.msr.sensors.get sensor).clean) ∧
    (∃ (s : State), s.timeRuns = true ∧ s.cfg.subFrames ≤ s.msr.subFrame) :=
  ⟨⟨0, 0, w, by decide⟩,
   ⟨1, w, by decide⟩,
   ⟨1, setMsr (fun m => { m with slowRun := [(1, some 2)] }) w, 2, by decide⟩,
   ⟨3, setMsr (fun m => { m with sensors := [(3, { broken := true, clean := 256 })] }) w, by decide⟩,
   ⟨setMsr (fun m => { m with subFrame := 61 }) w, by decide⟩⟩

theorem witness_ComparatorEdges :
    (∃ (mon : Nat) (ov : Bool) (s : State), mon < 128 ∧ (s.pdCfg.mons.get mon).enable = true ∧ s.msr.level mon ov = true ∧ ((if ov then (s.msr.mons.get mon).ovRoute else (s.msr.mons.get mon).uvRoute).capture = false ∨ s.timeRuns = false)) ∧
    (∃ (mon : Nat) (ov : Bool) (s : State), mon < 128 ∧ (s.pdCfg.mons.get mon).enable = true ∧ s.msr.level mon ov = true ∧ (if ov then (s.msr.mons.get mon).ovRoute else (s.msr.mons.get mon).uvRoute).capture = true ∧ s.timeRuns = true) ∧
    (∃ (mon : Nat) (st : Nat) (s : State), mon < 128 ∧ (s.pdCfg.mons.get mon).enable = true ∧ (s.pdCfg.mons.get mon).role = .stageOv st ∧ s.msr.level mon true = false ∧ ((s.msr.mons.get mon).ovRoute.capture = false ∨ s.timeRuns = false)) ∧
    (∃ (mon : Nat) (s : State), ((s.msr.mons.get mon).narrowLower.isSome = true ∨ (s.msr.mons.get mon).narrowUpper.isSome = true)) :=
  ⟨⟨1, true, setMsr (fun m => { m with ov := 2 }) w, by decide⟩,
   ⟨1, true, setMsr (fun m => { m with ov := 2, mons := [(1, { ovRoute := { capture := true } })] }) w, by decide⟩,
   ⟨1, 0, w, by decide⟩,
   ⟨127, setMsr (fun m => { m with mons := [(127, { narrowUpper := some 5 })] }) w, by decide⟩⟩

theorem witness_ResetsAndHeat :
    (∃ (s : State), s.sys.core = .held ∧ s.wrm.cold = false ∧ s.wrm.released = false) ∧
    (∃ (s : State) (due : Nat), s.timeRuns = true ∧ s.tim.frameDue = true ∧ s.flt.chipDue = some due ∧ due ≤ s.tim.frame ∧ (s.flt.chipWait = false ∨ s.recd.flushing = false)) ∧
    (∃ (s : State), s.sys.cdShutdown = false) ∧
    (∃ (s : State), s.sys.pdShutdown = false) ∧
    (∃ (s : State), s.sys.cdShutdown = true) ∧
    (∃ (s : State), s.sys.pdShutdown = true) :=
  ⟨⟨{ State.reset with wrm := { cold := false } }, by decide⟩,
   ⟨{ (setTim (fun t => { t with frameDue := true }) w) with flt := { chipDue := some 1000 } }, 1000, by decide⟩,
   ⟨w, by decide⟩,
   ⟨w, by decide⟩,
   ⟨{ w with sys := { w.sys with cdShutdown := true } }, by decide⟩,
   ⟨{ w with sys := { w.sys with pdShutdown := true } }, by decide⟩⟩

theorem witness_WarmerRows :
    (∃ (s : State), s.wrm.outcome = .wake ∧ s.wrm.pwrReq = true ∧ s.wrm.released = false ∧ s.wrm.offHold = false ∧ s.wrm.inRange = BitVec.allOnes 7 ∧ s.wrm.cfg.settleMs ≤ s.wrm.settleMs) ∧
    (∃ (supply : Nat) (s : State), supply < 7 ∧ s.wrm.released = false) ∧
    (∃ (supply : Nat) (s : State), supply < 7 ∧ s.wrm.released = true) ∧
    (∃ (s : State), s.wrm.outcome = .wake ∧ s.wrm.released = false ∧ s.wrm.offHold = false ∧ s.wrm.cfg.timeoutMs ≤ s.wrm.waitMs ∧ s.wrm.inRange ≠ BitVec.allOnes 7) ∧
    (∃ (s : State), s.wrm.outcome = .wake ∧ s.wrm.released = false ∧ s.wrm.offHold = false ∧ s.wrm.cfg.timeoutMs ≤ s.wrm.waitMs ∧ (∀ i, i < 7 → bvGet s.wrm.inRange i = true)) ∧
    (∃ (s : State), s.wrm.offHold = true ∧ s.wrm.cfg.offMinMs ≤ s.wrm.offMs) ∧
    (∃ (supply : Nat) (s : State), supply < 7 ∧ (supply ≠ 5 ∨ s.sys.core ≠ .held)) ∧
    (∃ (s : State), s.sys.core = .held ∧ s.sys.resetKind ≤ 1) :=
  ⟨⟨setWrm (fun x => { x with released := false, settleMs := x.cfg.settleMs }) w, by decide⟩,
   ⟨6, State.reset, by decide⟩,
   ⟨6, w, by decide⟩,
   ⟨setWrm (fun x => { x with released := false, inRange := 0x3F, waitMs := x.cfg.timeoutMs }) w, by decide⟩,
   ⟨setWrm (fun x => { x with released := false, waitMs := x.cfg.timeoutMs }) w, by decide⟩,
   ⟨setWrm (fun x => { x with offHold := true, offMs := x.cfg.offMinMs }) w, by decide⟩,
   ⟨5, w, by decide⟩,
   ⟨{ w with sys := { w.sys with core := .held, resetKind := 1 } }, by decide⟩⟩

theorem witness_LinkAndBoot :
    (∃ (s : State), s.sys.core ≠ .held) ∧
    (∃ (s : State), s.sys.coreAbsent = false) ∧
    (∃ (s : State), s.sys.core ≠ .held ∧ s.sys.coreAbsent = true) ∧
    (∃ (inp : BootInputs) (s : State), s.sys.core = .held ∧ s.wrm.released = true ∧ s.sys.cdShutdown = false ∧ s.sys.selfHeld = false ∧ groupFails inp.bistFail = true) ∧
    (∃ (inp : BootInputs) (s : State), s.sys.core = .held ∧ s.wrm.released = true ∧ s.sys.cdShutdown = false ∧ s.sys.selfHeld = false ∧ groupFails inp.bistFail = false) :=
  ⟨⟨w, by decide⟩,
   ⟨w, by decide⟩,
   ⟨{ w with sys := { w.sys with coreAbsent := true } }, by decide⟩,
   ⟨{ bistFail := [0, 1, 8, 9, 16, 17] }, { w with sys := {} }, by decide⟩,
   ⟨{}, { w with sys := {} }, by decide⟩⟩

theorem witness_SwitchingCycle :
    (∃ (phase : Nat) (s : State), s.timeRuns = true ∧ phase < 24 ∧ s.phaseSwitches phase = true ∧ (s.phase phase).onTime = false ∧ (s.phase phase).midRest = false) ∧
    (∃ (phase : Nat) (s : State), (s.phase phase).onTime = true ∧ (s.phase phase).blanked = true) ∧
    (∃ (trip : PeakTrip) (s : State), let reached := (200 * s.tripCode trip.phase : Int) ≤ 2 * s.energising trip.phase trip.senseUv + s.slopeCode (s.stageOf trip.phase) * trip.ns; (s.phase trip.phase).onTime = true ∧ (s.phase trip.phase).blanked = false ∧ reached) ∧
    (∃ (trip : PeakTrip) (s : State), let reached := (200 * s.tripCode trip.phase : Int) ≤ 2 * s.energising trip.phase trip.senseUv + s.slopeCode (s.stageOf trip.phase) * trip.ns; (s.phase trip.phase).onTime = true ∧ (s.phase trip.phase).blanked = false ∧ (¬ reached)) ∧
    (∃ (phase : Nat) (s : State), (s.phase phase).onTime = true) ∧
    (∃ (phase : Nat) (senseUv : Int) (s : State), s.phaseLatched phase = false ∧ (s.phase phase).onTime = true ∧ (s.phase phase).blanked = false ∧ s.limitUv phase ≤ s.energising phase senseUv) ∧
    (∃ (phase : Nat) (senseUv : Int) (s : State), ((s.phaseLatched phase = false ∧ phase < 24 ∧ s.phaseSwitches phase = true ∧ (s.phase phase).blanked = false ∧ (s.phase phase).midRest = false ∧ s.energising phase senseUv < s.limitUv phase ∧ s.energising phase senseUv ≤ -s.limitUv phase) ∨ (s.phaseLatched phase = true ∧ (s.phase phase).pwm = .low ∧ (s.limitUv phase ≤ s.energising phase senseUv ∨ s.energising phase senseUv ≤ -s.limitUv phase)))) ∧
    (∃ (phase : Nat) (s : State), s.timeRuns = true ∧ phase < 24 ∧ s.stageOf phase < 6 ∧ 0 < (s.phase phase).limitRun ∧ (s.cfg.stages.get (s.stageOf phase)).limitTicks ≤ (s.phase phase).limitRun) :=
  ⟨⟨0, w, by decide⟩,
   ⟨0, setPhase 0 (fun p => { p with onTime := true, blanked := true }) w, by decide⟩,
   ⟨{ phase := 0, senseUv := 300000, ns := 500 }, setPhase 0 (fun p => { p with onTime := true }) w, by decide⟩,
   ⟨{ phase := 0, senseUv := -100000, ns := 500 }, setPhase 0 (fun p => { p with onTime := true }) { w with batch := some { wb with stages := [(0, { topology := 2, cycleLimit := 100 })] } }, by decide⟩,
   ⟨0, setPhase 0 (fun p => { p with onTime := true }) w, by decide⟩,
   ⟨0, 300000, setPhase 0 (fun p => { p with onTime := true }) w, by decide⟩,
   ⟨0, -300000, setPhase 0 (fun p => { p with onTime := true }) w, by decide⟩,
   ⟨0, w, by decide⟩⟩

theorem witness_ShedAndResidual :
    (∃ (loop : Nat) (s : State), s.timeRuns = true ∧ loop < 8 ∧ (s.loop loop).old.isSome = true ∧ (s.loop loop).blending = false) ∧
    (∃ (stage : Nat) (s : State), s.timeRuns = true ∧ s.stageUsed stage = true ∧ (s.stage stage).st = .running ∧ (s.stage stage).shedding = none ∧ (s.cfg.stages.get stage).shedEn = true ∧ 0 < (s.stage stage).dwell ∧ (s.cfg.stages.get stage).shedDwell ≤ (s.stage stage).dwell ∧ (s.cfg.stages.get stage).minPhases < ((s.unmasked stage).filter fun p => (s.phase p).nxtActive).length) ∧
    (∃ (stage : Nat) (p : Nat) (s : State), s.timeRuns = true ∧ s.stageUsed stage = true ∧ (s.stage stage).st = .running ∧ (s.stage stage).shedding = some p ∧ (s.cfg.stages.get stage).shedRamp ≤ (s.stage stage).j) ∧
    (∃ (phase : Nat) (s : State), s.timeRuns = true ∧ phase < 24 ∧ s.stageOf phase < 6 ∧ 0 < (s.phase phase).openRun ∧ (s.cfg.stages.get (s.stageOf phase)).openTicks ≤ (s.phase phase).openRun) ∧
    (∃ (loop : Nat) (input : Nat) (s : State), let policy := (s.cfg.loops.get loop).degrade.get (8 * (s.loop loop).rset + input); s.timeRuns = true ∧ loop < 8 ∧ input < (s.cfg.loops.get loop).m ∧ (s.loop loop).running = true ∧ (s.loop loop).stopped = false ∧ bvGet ((s.cfg.loops.get loop).excludes.get (s.loop loop).rset) input = false ∧ 0 < nth (s.loop loop).counters input ∧ nth (s.cfg.regions.get (s.loop loop).region).pers input ≤ nth (s.loop loop).counters input ∧ policy = .flag) ∧
    (∃ (loop : Nat) (input : Nat) (s : State), let policy := (s.cfg.loops.get loop).degrade.get (8 * (s.loop loop).rset + input); s.timeRuns = true ∧ loop < 8 ∧ input < (s.cfg.loops.get loop).m ∧ (s.loop loop).running = true ∧ (s.loop loop).stopped = false ∧ bvGet ((s.cfg.loops.get loop).excludes.get (s.loop loop).rset) input = false ∧ 0 < nth (s.loop loop).counters input ∧ nth (s.cfg.regions.get (s.loop loop).region).pers input ≤ nth (s.loop loop).counters input ∧ policy = .stop) ∧
    (∃ (loop : Nat) (input : Nat) (s : State) (k : Nat), let policy := (s.cfg.loops.get loop).degrade.get (8 * (s.loop loop).rset + input); s.timeRuns = true ∧ loop < 8 ∧ input < (s.cfg.loops.get loop).m ∧ (s.loop loop).running = true ∧ (s.loop loop).stopped = false ∧ bvGet ((s.cfg.loops.get loop).excludes.get (s.loop loop).rset) input = false ∧ 0 < nth (s.loop loop).counters input ∧ nth (s.cfg.regions.get (s.loop loop).region).pers input ≤ nth (s.loop loop).counters input ∧ policy = .degraded k ∧ 6 ≤ loop) ∧
    (∃ (loop : Nat) (input : Nat) (s : State) (k : Nat), let policy := (s.cfg.loops.get loop).degrade.get (8 * (s.loop loop).rset + input); s.timeRuns = true ∧ loop < 8 ∧ input < (s.cfg.loops.get loop).m ∧ (s.loop loop).running = true ∧ (s.loop loop).stopped = false ∧ bvGet ((s.cfg.loops.get loop).excludes.get (s.loop loop).rset) input = false ∧ 0 < nth (s.loop loop).counters input ∧ nth (s.cfg.regions.get (s.loop loop).region).pers input ≤ nth (s.loop loop).counters input ∧ policy = .degraded k ∧ loop < 6) :=
  ⟨⟨0, setLoop 0 (fun x => { x with old := some 1, blendLen := 1, j := 1 }) w, by decide⟩,
   ⟨0, w, by decide⟩,
   ⟨0, 1, setStage 0 (fun x => { x with shedding := some 1 }) w, by decide⟩,
   ⟨0, w, by decide⟩,
   ⟨0, 0, setLoop 0 (fun x => { x with rset := 1 }) w, by decide⟩,
   ⟨0, 0, setLoop 0 (fun x => { x with rset := 0 }) w, by decide⟩,
   ⟨6, 0, w, 3, by decide⟩,
   ⟨0, 1, setLoop 0 (fun x => { x with rset := 0 }) w, 2, by decide⟩⟩

theorem witness_PmbusBus :
    (∃ (port : Nat) (s : State) (d : Nat × Nat) (rest : List (Nat × Nat)), s.timeRuns = true ∧ (s.pmbPort port).active = none ∧ (s.pmbPort port).recoverMbox = [] ∧ (s.pmbPort port).statusFirst = none ∧ ((s.pmbPort port).alert = false ∨ (s.pmbPort port).alertIgn = true) ∧ (s.pmbPort port).hung = false ∧ s.writeDue port = none ∧ (s.pmbPort port).hostq = [] ∧ (s.pmbPort port).pollq = d :: rest) ∧
    (∃ (port : Nat) (s : State) (pos : Nat) (code : Nat) (rest : List (Nat × Nat)), s.timeRuns = true ∧ (s.pmbPort port).active = none ∧ (s.pmbPort port).recoverMbox = [] ∧ (s.pmbPort port).statusFirst = none ∧ ((s.pmbPort port).alert = false ∨ (s.pmbPort port).alertIgn = true) ∧ (s.pmbPort port).hung = true ∧ (s.pmbPort port).hostq = [] ∧ (s.pmbPort port).pollq = (pos, code) :: rest) ∧
    (∃ (port : Nat) (s : State), s.timeRuns = true ∧ s.drives = true ∧ (s.pmbPort port).alert = true ∧ (s.pmbPort port).alertIgn = false ∧ (s.pmbPort port).hung = false ∧ (s.pmbPort port).active = none ∧ (s.pmbPort port).statusFirst = none ∧ (s.pmbPort port).recoverMbox = []) ∧
    (∃ (port : Nat) (s : State) (pos : Nat) (code : Nat), s.timeRuns = true ∧ (s.pmbPort port).active = some (pos, code) ∧ (s.pmbPort port).activeKind = 4) ∧
    (∃ (port : Nat) (s : State), s.timeRuns = true ∧ s.drives = true ∧ port < 8 ∧ (s.pmbPort port).hung = false ∧ (s.pmbPort port).active = none) ∧
    (∃ (port : Nat) (s : State), s.timeRuns = true ∧ s.drives = true ∧ ((s.pmbPort port).hung = true ∧ 64 ≤ (s.pmbPort port).hungFrames ∨ (s.pmbPort port).recoverMbox ≠ [])) :=
  ⟨⟨0, setPmb 0 (fun y => { y with pollq := [(0, 0x79)] }) w, (0, 0x79), [], by decide⟩,
   ⟨0, setPmb 0 (fun y => { y with hung := true, pollq := [(0, 0x79)] }) w, 0, 0x79, [], by decide⟩,
   ⟨0, setPmb 0 (fun y => { y with alert := true }) w, by decide⟩,
   ⟨0, setPmb 0 (fun y => { y with active := some (0, 0x8C), activeKind := 4 }) w, 0, 0x8C, by decide⟩,
   ⟨7, w, by decide⟩,
   ⟨0, setPmb 0 (fun y => { y with hung := true, hungFrames := 64 }) w, by decide⟩⟩

theorem witness_PmbusResults :
    (∃ (port : Nat) (s : State) (x : HostXact) (rest : List HostXact) (a : Nat × Nat), s.timeRuns = true ∧ (s.pmbPort port).active = some a ∧ (s.pmbPort port).activeKind = 3 ∧ (s.pmbPort port).hostq = x :: rest ∧ s.pmbPos port x.addr = none) ∧
    (∃ (port : Nat) (result : PmbResult) (s : State) (pos : Nat) (addr : Nat) (r : Nat), s.timeRuns = true ∧ (s.pmbPort port).active = some (pos, 0x8C) ∧ (s.pmbPort port).activeKind = 4 ∧ s.pmbDev port pos = some (addr, .rect r) ∧ result.res = 0 ∧ result.pecOk = true ∧ (s.rectCur r).vout = none) :=
  ⟨⟨0, setPmb 0 (fun y => { y with active := some (0, 0), activeKind := 3, hostq := [{ addr := 0x55 }] }) w, { addr := 0x55 }, [], (0, 0), by decide⟩,
   ⟨0, {}, setPmb 0 (fun y => { y with active := some (1, 0x8C), activeKind := 4 }) w, 1, 0x11, 1, by decide⟩⟩

theorem witness_RectifierEvents :
    (∃ (rect : Nat) (s : State), s.timeRuns = true ∧ s.drives = true ∧ s.rectUsed rect = true ∧ (s.rect rect).st ≠ .absent ∧ 8 ≤ (s.rect rect).nacks) ∧
    (∃ (rect : Nat) (s : State), s.timeRuns = true ∧ s.drives = true ∧ s.rectUsed rect = true ∧ (s.rect rect).sharing = true ∧ s.cfg.marver.staleFrames ≤ s.rectAge rect) ∧
    (∃ (rect : Nat) (s : State), s.timeRuns = true ∧ s.drives = true ∧ s.rectUsed rect = true ∧ (s.rect rect).st = .unparking ∧ 2000000 * (s.cfg.rects.get rect).unparkMs + s.frameNs ≤ (s.rect rect).unparkNs) ∧
    (∃ (rect : Nat) (s : State), s.timeRuns = true ∧ s.drives = true ∧ s.rectUsed rect = true ∧ (s.rect rect).st = .holding ∧ 16 ≤ (s.rect rect).holdCount) ∧
    (∃ (rect : Nat) (s : State), s.timeRuns = true ∧ s.drives = true ∧ s.rectUsed rect = true ∧ (s.rect rect).sharing = true ∧ (s.rect rect).errRaised = false ∧ s.cfg.marver.shareFaultFrames ≤ (s.rect rect).errRun ∧ (s.rect rect).satRaised = true) ∧
    (∃ (rect : Nat) (s : State), s.timeRuns = true ∧ s.drives = true ∧ s.rectUsed rect = true ∧ (s.rect rect).sharing = true ∧ (s.rect rect).satRaised = false ∧ s.cfg.marver.shareFaultFrames ≤ (s.rect rect).satRun ∧ (s.rect rect).errRaised = true) ∧
    (∃ (s : State) (c : Nat), s.timeRuns = true ∧ s.drives = true ∧ parkFirst s.cfg (s.servingSet.filter fun r => decide ((s.rect r).park = .auto)) = some c ∧ s.parkOpen = true ∧ 0 < s.shr.nxt.dwell ∧ s.cfg.marver.parkDwell ≤ s.shr.nxt.dwell) :=
  ⟨⟨0, setRectBoth 0 (fun x => { x with nacks := 8 }) w, by decide⟩,
   ⟨0, { w with pnt := { w.pnt with shadow := [(0x401, { age := 64 })] } }, by decide⟩,
   ⟨2, setRect 2 (fun x => { x with st := .unparking, unparkNs := 20256000 }) w, by decide⟩,
   ⟨2, setRect 2 (fun x => { x with st := .holding, holdCount := 16 }) w, by decide⟩,
   ⟨0, setRect 0 (fun x => { x with satRaised := true }) w, by decide⟩,
   ⟨0, setRect 0 (fun x => { x with errRaised := true }) w, by decide⟩,
   ⟨{ w with pnt := { w.pnt with shadow := [(0x401, { sampled := true }), (0x409, { sampled := true })] }, shr := { w.shr with nxt := { w.shr.nxt with dwell := 4096 } } }, 1, by decide⟩⟩

theorem witness_HoldUpEvents :
    (∃ (s : State), s.timeRuns = true ∧ s.drives = true ∧ s.tim.frameDue = true ∧ s.shr.hold.st = .holdup ∧ s.shr.hold.routeHit = false ∧ s.shr.hold.pmbusRoute = false ∧ 0 < s.shr.hold.retRun ∧ s.cfg.hold.returnFrames ≤ s.shr.hold.retRun) ∧
    (∃ (s : State), s.shr.hold.progRun = true ∧ (monWith s.pdCfg .shed).any (fun m => bvGet s.msr.uv m) = false) ∧
    (∃ (vinMv : Int) (s : State), s.shr.hold.progRun = true ∧ (monWith s.pdCfg .shed).any (fun m => bvGet s.msr.uv m) = true ∧ s.shr.hold.vinAtStep + s.pdCfg.hold.shedRise ≤ vinMv) ∧
    (∃ (vinMv : Int) (n : Nat) (s : State), s.shr.hold.progRun = true ∧ (monWith s.pdCfg .shed).any (fun m => bvGet s.msr.uv m) = true ∧ vinMv < s.shr.hold.vinAtStep + s.pdCfg.hold.shedRise ∧ n < 48 ∧ (∀ j, j < n → ∃ d, s.shr.hold.prog[s.shr.hold.progPos + j]? = some d ∧ s.shedDone d = true) ∧ s.shr.hold.prog[s.shr.hold.progPos + n]? = none) ∧
    (∃ (vinMv : Int) (n : Nat) (s : State) (e : ShedEntry), s.shr.hold.progRun = true ∧ (monWith s.pdCfg .shed).any (fun m => bvGet s.msr.uv m) = true ∧ vinMv < s.shr.hold.vinAtStep + s.pdCfg.hold.shedRise ∧ n < 48 ∧ (∀ j, j < n → ∃ d, s.shr.hold.prog[s.shr.hold.progPos + j]? = some d ∧ s.shedDone d = true) ∧ s.shr.hold.prog[s.shr.hold.progPos + n]? = some e ∧ s.shedDone e = false) :=
  ⟨⟨wd (setHold (fun h => { h with st := .holdup, retRun := 1024 }) w), by decide⟩,
   ⟨setHold (fun h => { h with progRun := true }) w, by decide⟩,
   ⟨38010, setMsr (fun m => { m with uv := 4 }) (setHold (fun h => { h with progRun := true, vinAtStep := 38000 }) w), by decide⟩,
   ⟨38009, 0, setMsr (fun m => { m with uv := 4 }) (setHold (fun h => { h with progRun := true, vinAtStep := 38000, prog := [] }) w), by decide⟩,
   ⟨38009, 0, setMsr (fun m => { m with uv := 4 }) (setHold (fun h => { h with progRun := true, vinAtStep := 38000, prog := [{ slot := 47, keep := 0 }] }) w), { slot := 47, keep := 0 }, by decide⟩⟩

theorem witness_LehrEvents :
    (∃ (dom : Nat) (s : State), s.timeRuns = true ∧ s.drives = true ∧ s.domUsed dom = true ∧ s.silentDue (s.dom dom) = true ∧ s.slotOn (s.cfg.doms.get dom).slot = true) ∧
    (∃ (dom : Nat) (s : State), s.timeRuns = true ∧ s.drives = true ∧ s.domUsed dom = true ∧ (s.dom dom).live = true ∧ dom ∉ s.leh.grantsDue ∧ (s.holdRuns = false ∨ (s.dom dom).issued ≠ 0) ∧ (s.dom dom).issued + s.cfg.lehr.grantLease / 4 ≤ s.tim.frame + 1) ∧
    (∃ (s : State), s.timeRuns = true ∧ s.drives = true ∧ s.leh.nxt.startHold = true ∧ s.leh.nxt.holdUntil ≤ s.tim.frame) ∧
    (∃ (dom : Nat) (s : State), s.timeRuns = true ∧ s.drives = true ∧ s.domUsed dom = true ∧ (s.dom dom).overRaised = false ∧ s.deadline ≤ (s.dom dom).overFrames) ∧
    (∃ (slot : Nat) (s : State), s.timeRuns = true ∧ s.drives = true ∧ slot ∈ s.slotsJudged ∧ (s.leh.nxt.enf.get slot).on = false ∧ s.deadline ≤ (s.leh.nxt.enf.get slot).overFrames ∧ 0 < s.pt 0x380) ∧
    (∃ (slot : Nat) (s : State), s.timeRuns = true ∧ s.drives = true ∧ (s.leh.nxt.enf.get slot).on = true ∧ s.slotShed slot = false ∧ s.cfg.lehr.enforceRelease ≤ (s.leh.nxt.enf.get slot).clean) :=
  ⟨⟨0, w, by decide⟩,
   ⟨0, w, by decide⟩,
   ⟨setLehr (fun l => { l with startHold := true, holdUntil := 1000 }) w, by decide⟩,
   ⟨0, w, by decide⟩,
   ⟨0, { w with pnt := { w.pnt with shadow := [(0x380, { value := 54000 })] } }, by decide⟩,
   ⟨1, w, by decide⟩⟩

theorem witness_BackgroundJobs :
    (∃ (s : State), s.timeRuns = true ∧ s.leh.pfiHold = true ∧ s.tim.frameDue = true ∧ s.pin.pfi = false ∧ s.pin.pfiAny = false) ∧
    (∃ (s : State), s.timeRuns = true ∧ s.jobDue 0 = true) ∧
    (∃ (s : State), let k := (s.leh.jobs.get 1).pos; s.timeRuns = true ∧ s.jobDue 1 = true ∧ (s.mem.parity.get k = s.mem.xorWords k ∨ s.outWord (stripeGroup k) ≠ none)) ∧
    (∃ (s : State), let k := (s.leh.jobs.get 1).pos; s.timeRuns = true ∧ s.jobDue 1 = true ∧ k < 262143 ∧ s.outWord (stripeGroup k) = none ∧ s.mem.parity.get k ≠ s.mem.xorWords k) ∧
    (∃ (w : Nat) (b : Nat) (s : State), let k := (s.leh.jobs.get 1).pos; let m := stripeMacro k w; let x := s.mem.macros.get m; s.timeRuns = true ∧ s.jobDue 1 = true ∧ w < 9 ∧ b < 72 ∧ k < 262143 ∧ s.outWord (stripeGroup k) = none ∧ s.mem.parity.get k = s.mem.xorWords k ∧ x.ce + 1 < 65536) ∧
    (∃ (w : Nat) (b : Nat) (c : Nat) (s : State), let k := (s.leh.jobs.get 1).pos; let m := 8 * (k % 8) + w; let x := s.mem.macros.get m; let rows := if k / 8 ∈ x.rebuilt then x.rebuilt else k / 8 :: x.rebuilt; s.timeRuns = true ∧ s.jobDue 1 = true ∧ w < 8 ∧ b < 72 ∧ c < 72 ∧ b ≠ c ∧ k < 262143 ∧ s.outWord (k % 8) = none ∧ rows.length < s.cfg.rebuildMapout) ∧
    (∃ (s : State), let line := (s.leh.jobs.get 3).pos; s.timeRuns = true ∧ s.jobDue 3 = true ∧ line < 131071 ∧ s.mem.mce < s.cfg.ceThreshold ∧ s.mem.mce < 4294967296) ∧
    (∃ (b : Nat) (s : State), let line := (s.leh.jobs.get 3).pos; let count := s.mem.mce + 1; s.timeRuns = true ∧ s.jobDue 3 = true ∧ b < 2048 ∧ line < 131071 ∧ s.outerStale line = false ∧ count < 4294967296) ∧
    (∃ (w : Nat) (s : State), let line := (s.leh.jobs.get 3).pos; s.timeRuns = true ∧ s.jobDue 3 = true ∧ w < 32 ∧ line < 131071 ∧ s.outerStale line = false ∧ s.mem.mce < s.cfg.ceThreshold ∧ s.mem.mce < 4294967296 ∧ s.mem.rsFrame ≠ some s.tim.frame) ∧
    (∃ (s : State), s.timeRuns = true ∧ s.jobDue 5 = true) ∧
    (∃ (s : State) (w : ZWrite) (rest : List ZWrite), s.timeRuns = true ∧ s.jobDue 2 = true ∧ s.bat.zq = w :: rest ∧ w.isCell = true) :=
  ⟨⟨{ (setTim (fun t => { t with frameDue := true }) w) with leh := { w.leh with pfiHold := true } }, by decide⟩,
   ⟨wj, by decide⟩,
   ⟨wj, by decide⟩,
   ⟨{ wj with mem := { wj.mem with parity := [(262142, 1)] } }, by decide⟩,
   ⟨8, 71, wj, by decide⟩,
   ⟨7, 71, 0, { wj with batch := some { wb with rebuildMapout := 2 } }, by decide⟩,
   ⟨{ wj with bat := { zq := [{ isCell := true, index := 63, cellIx := 127 }] } }, by decide⟩,
   ⟨2047, wj, by decide⟩,
   ⟨31, { wj with batch := some { wb with ceThreshold := 1 } }, by decide⟩,
   ⟨wj, by decide⟩,
   ⟨{ wj with bat := { zq := [{ isCell := true, index := 63, cellIx := 127 }] } }, { isCell := true, index := 63, cellIx := 127 }, [], by decide⟩⟩

theorem witness_SelfTestAndTestPort :
    (∃ (first : Bool) (second : Bool) (s : State) (t0 : Nat) (mbox : Nat) (rest : List (Nat × Nat)), s.timeRuns = true ∧ s.leh.pfiHold = false ∧ s.jobPaused 4 = false ∧ s.mem.bistAsk = (t0, mbox) :: rest ∧ (first = true ∨ second = true)) ∧
    (∃ (s : State) (t0 : Nat) (mbox : Nat) (rest : List (Nat × Nat)), s.timeRuns = true ∧ s.leh.pfiHold = false ∧ s.jobPaused 4 = false ∧ s.mem.bistAsk = (t0, mbox) :: rest) ∧
    (∃ (first : Bool) (second : Bool) (s : State), s.timeRuns = true ∧ s.jobDue 4 = true ∧ s.romFailed = false ∧ s.mem.bistAsk = [] ∧ (first = true ∨ second = true)) ∧
    (∃ (s : State), s.timeRuns = true ∧ s.jobDue 4 = true ∧ s.romFailed = false ∧ s.mem.bistAsk = [] ∧ s.mem.bistPos = 90) ∧
    (∃ (s : State), s.otp.lifecycle ≠ .blank ∧ s.otp.lifecycle ≠ .returned) ∧
    (∃ (s : State), (s.otp.lifecycle = .blank ∨ s.otp.lifecycle = .returned)) :=
  ⟨⟨false, true, setMem (fun m => { m with bistAsk := [(90, 1)] }) w, 90, 1, [], by decide⟩,
   ⟨setMem (fun m => { m with bistAsk := [(90, 1)] }) w, 90, 1, [], by decide⟩,
   ⟨true, false, wj, by decide⟩,
   ⟨setMem (fun m => { m with bistPos := 90 }) wj, by decide⟩,
   ⟨w, by decide⟩,
   ⟨State.reset, by decide⟩⟩

theorem witness_ChargeAccounting :
    (∃ (string : Nat) (s : State) (i : Int), s.timeRuns = true ∧ s.drives = true ∧ s.strUsed string = true ∧ (s.str string).closeDue = true ∧ (s.str string).init = false ∧ (s.str string).fast = false ∧ (s.str string).iHold = i ∧ (s.str string).iFrame = i ∧ 0 ≤ i) ∧
    (∃ (string : Nat) (s : State), s.timeRuns = true ∧ s.drives = true ∧ s.strUsed string = true ∧ s.stepsDone string = true ∧ restDue s (s.str string) = true) ∧
    (∃ (string : Nat) (s : State), s.timeRuns = true ∧ s.drives = true ∧ s.strUsed string = true ∧ s.stepsDone string = true ∧ restDue s (s.str string) = false ∧ voltDue s string (s.str string) = true) ∧
    (∃ (string : Nat) (s : State), s.timeRuns = true ∧ s.drives = true ∧ s.strUsed string = true ∧ (s.str string).ended = false ∧ (s.str string).closeDue = false ∧ 0 < (s.str string).eodRun ∧ (s.cfg.strings.get string).eodFrames ≤ (s.str string).eodRun) ∧
    (∃ (string : Nat) (s : State), s.timeRuns = true ∧ s.drives = true ∧ s.strUsed string = true ∧ (s.str string).ended = true ∧ 64 ≤ (s.str string).endRun) :=
  ⟨⟨5, setStr 5 (fun x => { x with closeDue := true, init := false, iHold := 3000, iFrame := 3000 }) w, 3000, by decide⟩,
   ⟨5, setStr 5 (fun x => { x with closed := true, voltage := some 48000, restTime := 1800000000000 }) w, by decide⟩,
   ⟨5, wv, by decide⟩,
   ⟨5, setStr 5 (fun x => { x with eodRun := 4 }) w, by decide⟩,
   ⟨5, setStr 5 (fun x => { x with ended := true, endRun := 64 }) w, by decide⟩⟩

theorem witness_ChargerAndTables :
    (∃ (string : Nat) (s : State), s.timeRuns = true ∧ s.drives = true ∧ s.strUsed string = true ∧ (s.cfg.strings.get string).chargeAuto = true ∧ (s.str string).charge = .cv ∧ 0 < (s.str string).termRun ∧ (s.cfg.strings.get string).termFrames ≤ (s.str string).termRun ∧ (s.str string).closeDue = false ∧ eodDue s string (s.str string) = false ∧ (s.str string).relearn = false) ∧
    (∃ (string : Nat) (s : State), s.timeRuns = true ∧ s.drives = true ∧ s.strUsed string = true ∧ (s.cfg.strings.get string).chargeAuto = true ∧ (s.str string).charge = .cv ∧ 0 < (s.str string).cvFrames ∧ (s.cfg.strings.get string).cvTimeout ≤ (s.str string).cvFrames) ∧
    (∃ (string : Nat) (s : State), s.timeRuns = true ∧ s.drives = true ∧ s.strUsed string = true ∧ (s.str string).charge = .inhibit ∧ 64 ≤ (s.str string).inhibRun) ∧
    (∃ (module : Nat) (s : State) (z : ZStep) (v0 : Int) (v1 : Int) (temp : Int) (zs : Int), s.timeRuns = true ∧ s.drives = true ∧ s.modUsed module = true ∧ s.strUsed (s.cfg.modules.get module).string = true ∧ (s.module module).silent = false ∧ 0 < z.di ∧ (s.str (s.cfg.modules.get module).string).zstep = some z ∧ (s.module module).vBefore = some v0 ∧ (s.module module).vAfter = some v1 ∧ (s.module module).temp = some temp ∧ zs = divRhe (-((v1 - v0) * 1000000)) z.di ∧ (zs ≤ 0 ∨ s.cfg.est.zMax < zs)) ∧
    (∃ (module : Nat) (s : State) (z : ZStep) (v0 : Int) (v1 : Int) (temp : Int) (zs : Int), s.timeRuns = true ∧ s.drives = true ∧ s.modUsed module = true ∧ s.strUsed (s.cfg.modules.get module).string = true ∧ (s.module module).silent = false ∧ 0 < z.di ∧ (s.str (s.cfg.modules.get module).string).zstep = some z ∧ (s.module module).vBefore = some v0 ∧ (s.module module).vAfter = some v1 ∧ (s.module module).temp = some temp ∧ zs = divRhe (-((v1 - v0) * 1000000)) z.di ∧ 0 < zs ∧ zs ≤ s.cfg.est.zMax ∧ s.bat.zq.length < 64) ∧
    (∃ (string : Nat) (s : State), s.timeRuns = true ∧ s.drives = true ∧ s.strUsed string = true ∧ 65536 ≤ (s.str string).recFrames ∧ s.bat.zq.length < 64) ∧
    (∃ (string : Nat) (s : State), s.timeRuns = true ∧ s.drives = true ∧ s.strUsed string = true ∧ 65536 ≤ (s.str string).recFrames ∧ 64 ≤ s.bat.zq.length) ∧
    (∃ (module : Nat) (s : State), s.timeRuns = true ∧ s.drives = true ∧ s.modUsed module = true ∧ (s.module module).silentRaised = false ∧ 4 * s.cfg.est.modulePoll ≤ (s.module module).age) :=
  ⟨⟨0, setStr 0 (fun x => { x with charge := .cv, termRun := 234375 }) w, by decide⟩,
   ⟨0, setStr 0 (fun x => { x with charge := .cv, cvFrames := 56250000 }) w, by decide⟩,
   ⟨0, setStr 0 (fun x => { x with charge := .inhibit, inhibRun := 64 }) w, by decide⟩,
   ⟨0, wz 48000, { di := 1000 }, 48000, 48000, 2500, 0, by decide⟩,
   ⟨0, wz 47000, { di := 1000 }, 48000, 47000, 2500, 1000000, by decide⟩,
   ⟨5, setStr 5 (fun x => { x with recFrames := 65536 }) w, by decide⟩,
   ⟨5, setStr 5 (fun x => { x with recFrames := 65536 }) { w with bat := { zq := List.replicate 64 {} } }, by decide⟩,
   ⟨0, setModule 0 (fun x => { x with age := 1024 }) w, by decide⟩⟩

theorem witness_ChannelReflexes :
    (∃ (m : ChanMoment) (s : State), s.pdUsed m.chan = true ∧ (s.chan m.chan).gate = true ∧ (s.chan m.chan).limit = false) ∧
    (∃ (m : ChanMoment) (s : State), (s.chan m.chan).limit = true) ∧
    (∃ (m : ChanMoment) (s : State), let full := 8000 * (s.pdCfg.chans.get m.chan).timerUs; let count := (s.chan m.chan).timer8 + 8 * (m.ns - (s.chan m.chan).limNs); s.pdUsed m.chan = true ∧ (s.chan m.chan).gate = true ∧ (s.chan m.chan).limit = true ∧ (s.chan m.chan).latched = none ∧ count < full) ∧
    (∃ (m : ChanMoment) (s : State), let full := 8000 * (s.pdCfg.chans.get m.chan).timerUs; let count := (s.chan m.chan).timer8 + 8 * (m.ns - (s.chan m.chan).limNs); s.pdUsed m.chan = true ∧ (s.chan m.chan).gate = true ∧ (s.chan m.chan).limit = true ∧ (s.chan m.chan).latched = none ∧ full ≤ count) ∧
    (∃ (chan : Nat) (s : State), (s.chan chan).pullDue = true) ∧
    (∃ (chan : Nat) (s : State), s.pdUsed chan = true ∧ (s.chan chan).gate = true ∧ (s.chan chan).latched = none) ∧
    (∃ (chan : Nat) (s : State), s.timeRuns = true ∧ s.pdUsed chan = true ∧ (s.chan chan).st = .starting ∧ (s.chan chan).gate = true ∧ (s.chan chan).gateUp = false ∧ (s.pdCfg.chans.get chan).gateRiseMs * 1000000 ≤ (s.chan chan).riseNs) ∧
    (∃ (chan : Nat) (s : State), s.timeRuns = true ∧ s.pdUsed chan = true ∧ (s.chan chan).st ≠ .on ∧ (s.chan chan).st ≠ .failed ∧ (s.chan chan).gate = false) ∧
    (∃ (keeper : Nat) (s : State), s.timeRuns = true ∧ keeper < 4 ∧ s.pdUsed (48 + keeper) = true ∧ (s.chan (48 + keeper)).gate = true ∧ ((s.chan (48 + keeper)).st = .on ∨ (s.chan (48 + keeper)).st = .starting)) ∧
    (∃ (keeper : Nat) (s : State), keeper < 4 ∧ s.pdUsed (48 + keeper) = true ∧ (s.pdCfg.chans.get (48 + keeper)).ewEn = true) :=
  ⟨⟨{ chan := 0, ns := 0 }, w, by decide⟩,
   ⟨{ chan := 8, ns := 0 }, w, by decide⟩,
   ⟨{ chan := 8, ns := 0 }, { w with pd := some { wb with chans := [(8, { present := true, timerUs := 50 })] } }, by decide⟩,
   ⟨{ chan := 8, ns := 50000 }, { w with pd := some { wb with chans := [(8, { present := true, timerUs := 50 })] } }, by decide⟩,
   ⟨8, w, by decide⟩,
   ⟨6, w, by decide⟩,
   ⟨6, w, by decide⟩,
   ⟨53, w, by decide⟩,
   ⟨0, w, by decide⟩,
   ⟨0, w, by decide⟩⟩

theorem witness_ChannelStarts :
    (∃ (slot : Nat) (s : State), s.timeRuns = true ∧ s.drives = true ∧ s.tim.frameDue = true ∧ slot < 48 ∧ s.chanUsed slot = true ∧ (s.chan slot).st = .seating ∧ (s.chan slot).pending = false ∧ (s.chan slot).seatAll = true ∧ (s.cfg.chans.get slot).seatDb ≤ (s.chan slot).seatRun + 1 ∧ (s.chan slot).enabled = false) ∧
    (∃ (slot : Nat) (s : State), s.timeRuns = true ∧ s.drives = true ∧ s.tim.frameDue = true ∧ slot < 48 ∧ s.chanUsed slot = true ∧ (s.chan slot).st = .seating ∧ (s.chan slot).pending = false ∧ (s.chan slot).seatAll = true ∧ (s.cfg.chans.get slot).seatDb ≤ (s.chan slot).seatRun + 1 ∧ (s.chan slot).enabled = true ∧ (s.chan slot).cooling (s.tim.frame + 1) = true) ∧
    (∃ (slot : Nat) (s : State), s.timeRuns = true ∧ s.drives = true ∧ s.tim.frameDue = true ∧ slot < 48 ∧ s.chanUsed slot = true ∧ (s.chan slot).st = .seating ∧ (s.chan slot).pending = false ∧ (s.chan slot).seatAll = true ∧ (s.cfg.chans.get slot).seatDb ≤ (s.chan slot).seatRun + 1 ∧ (s.chan slot).enabled = true ∧ (s.chan slot).cooling (s.tim.frame + 1) = false) ∧
    (∃ (slot : Nat) (s : State), s.timeRuns = true ∧ s.drives = true ∧ s.tim.frameDue = true ∧ slot < 48 ∧ s.chanUsed slot = true ∧ (s.chan slot).st = .tripped ∧ (s.chan slot).gapAll = true ∧ (s.cfg.chans.get slot).seatDb ≤ (s.chan slot).gapRun + 1) ∧
    (∃ (chan : Nat) (e : Nat) (s : State), s.timeRuns = true ∧ s.drives = true ∧ s.tim.frameDue = true ∧ s.chanUsed chan = true ∧ (s.chan chan).cool = some e ∧ e ≤ s.tim.frame ∧ (s.chan chan).pending = false) ∧
    (∃ (chan : Nat) (e : Nat) (s : State), let starts := chan < 48 ∧ (s.chan chan).seatS = true ∨ isKeeper chan = true ∧ (s.cfg.chans.get chan).insertFrames ≤ (s.chan chan).vinRun; s.timeRuns = true ∧ s.drives = true ∧ s.tim.frameDue = true ∧ s.chanUsed chan = true ∧ (s.chan chan).cool = some e ∧ e ≤ s.tim.frame ∧ (s.chan chan).pending = true ∧ ((s.chan chan).st = .tripped → starts)) ∧
    (∃ (chan : Nat) (e : Nat) (s : State), let starts := chan < 48 ∧ (s.chan chan).seatS = true ∨ isKeeper chan = true ∧ (s.cfg.chans.get chan).insertFrames ≤ (s.chan chan).vinRun; s.timeRuns = true ∧ s.drives = true ∧ s.tim.frameDue = true ∧ s.chanUsed chan = true ∧ (s.chan chan).cool = some e ∧ e ≤ s.tim.frame ∧ (s.chan chan).pending = true ∧ (s.chan chan).st = .tripped ∧ (¬ starts)) ∧
    (∃ (keeper : Nat) (s : State), s.timeRuns = true ∧ s.drives = true ∧ s.tim.frameDue = true ∧ keeper < 4 ∧ s.chanUsed (48 + keeper) = true ∧ ((s.chan (48 + keeper)).st = .empty ∨ (s.chan (48 + keeper)).st = .seating) ∧ (s.chan (48 + keeper)).vinAll = true ∧ (s.chan (48 + keeper)).cooling (s.tim.frame + 1) = false ∧ (s.cfg.chans.get (48 + keeper)).insertFrames ≤ (s.chan (48 + keeper)).vinRun + 1 ∧ (s.chan (48 + keeper)).enabled = true) ∧
    (∃ (keeper : Nat) (s : State), s.timeRuns = true ∧ s.drives = true ∧ s.tim.frameDue = true ∧ keeper < 4 ∧ s.chanUsed (48 + keeper) = true ∧ ((s.chan (48 + keeper)).st = .empty ∨ (s.chan (48 + keeper)).st = .seating) ∧ (s.chan (48 + keeper)).vinAll = true ∧ (s.chan (48 + keeper)).cooling (s.tim.frame + 1) = false ∧ (s.cfg.chans.get (48 + keeper)).insertFrames ≤ (s.chan (48 + keeper)).vinRun + 1 ∧ (s.chan (48 + keeper)).enabled = false) :=
  ⟨⟨4, wd w, by decide⟩,
   ⟨5, wd w, by decide⟩,
   ⟨3, wd w, by decide⟩,
   ⟨1, wd w, by decide⟩,
   ⟨8, 1000, wd w, by decide⟩,
   ⟨7, 1000, wd w, by decide⟩,
   ⟨53, 999, wd w, by decide⟩,
   ⟨1, wd w, by decide⟩,
   ⟨1, wd (setChan 49 (fun x => { x with enabled := false }) w), by decide⟩⟩

theorem witness_RailEvents :
    (∃ (rail : Nat) (e : Nat) (s : State), s.timeRuns = true ∧ s.drives = true ∧ s.railUsed rail = true ∧ (s.cfg.rails.get rail).kind = 1 ∧ (s.rail rail).edge = some e ∧ e ≤ s.absTick) ∧
    (∃ (rail : Nat) (e : Nat) (s : State), s.timeRuns = true ∧ s.drives = true ∧ s.railUsed rail = true ∧ (s.cfg.rails.get rail).kind = 2 ∧ (s.rail rail).edge = some e ∧ e ≤ s.absTick) ∧
    (∃ (rail : Nat) (s : State), s.timeRuns = true ∧ s.drives = true ∧ s.takeDue rail 1 = true ∧ (s.rail rail).retrying = false ∧ (s.groupCur (s.cfg.rails.get rail).group).live = true) ∧
    (∃ (rail : Nat) (x : Happening) (s : State), s.timeRuns = true ∧ s.drives = true ∧ s.takeDue rail 2 = true ∧ s.railHead rail = some x ∧ (s.groupCur (s.cfg.rails.get rail).group).live = false) ∧
    (∃ (rail : Nat) (x : Happening) (s : State), s.timeRuns = true ∧ s.drives = true ∧ s.takeDue rail 3 = true ∧ s.railHead rail = some x ∧ (s.groupCur (s.cfg.rails.get rail).group).live = true ∧ (s.cfg.rails.get rail).reaction = 0 ∧ s.groupFalls (s.cfg.rails.get rail).group = false ∧ s.seq.seqfDriveNxt = false ∧ (s.group (s.cfg.rails.get rail).group).primTaken = false) ∧
    (∃ (rail : Nat) (x : Happening) (s : State), s.timeRuns = true ∧ s.drives = true ∧ s.takeDue rail 3 = true ∧ s.railHead rail = some x ∧ (s.groupCur (s.cfg.rails.get rail).group).live = true ∧ (s.cfg.rails.get rail).reaction = 2 ∧ s.seq.sysReset = false) ∧
    (∃ (rail : Nat) (x : Happening) (s : State), s.timeRuns = true ∧ s.drives = true ∧ s.takeDue rail 4 = true ∧ s.railHead rail = some x ∧ (s.groupCur (s.cfg.rails.get rail).group).live = true ∧ (s.cfg.rails.get rail).reaction = 0 ∧ s.groupFalls (s.cfg.rails.get rail).group = false ∧ s.seq.seqfDriveNxt = false ∧ (s.group (s.cfg.rails.get rail).group).primTaken = false) ∧
    (∃ (rail : Nat) (x : Happening) (s : State), s.timeRuns = true ∧ s.drives = true ∧ s.takeDue rail 4 = true ∧ s.railHead rail = some x ∧ (s.groupCur (s.cfg.rails.get rail).group).live = true ∧ (s.cfg.rails.get rail).reaction = 2 ∧ s.seq.sysReset = false) ∧
    (∃ (rail : Nat) (s : State), s.timeRuns = true ∧ s.drives = true ∧ s.railUsed rail = true ∧ 0 < (s.rail rail).retries ∧ (s.cfg.groups.get (s.cfg.rails.get rail).group).retryClear ≤ (s.rail rail).inWin) :=
  ⟨⟨0, 64009, setRail 0 (fun x => { x with edge := some 64009, edgeUp := true }) w, by decide⟩,
   ⟨1, 64009, setRail 1 (fun x => { x with edge := some 64009, edgeUp := true }) w, by decide⟩,
   ⟨0, wh 0 1, by decide⟩,
   ⟨3, { kind := 2, bound := 64000, tag := { tag := 63999 } }, wh 3 2, by decide⟩,
   ⟨0, { kind := 3, bound := 64000, tag := { tag := 63999 } }, wh 0 3, by decide⟩,
   ⟨2, { kind := 3, bound := 64000, tag := { tag := 63999 } }, wh 2 3, by decide⟩,
   ⟨0, { kind := 4, bound := 64000, tag := { tag := 63999 } }, wh 0 4, by decide⟩,
   ⟨2, { kind := 4, bound := 64000, tag := { tag := 63999 } }, wh 2 4, by decide⟩,
   ⟨0, w, by decide⟩⟩

theorem witness_GroupEvents :
    (∃ (n : Nat) (s : State), s.timeRuns = true ∧ s.drives = true ∧ s.seq.seqfAt = some n ∧ n ≤ s.frameBase ∧ (∀ g, s.groupUsed g = true → (s.cfg.groups.get g).cooperate = true → (s.groupCur g).live = true → ∀ i h, i ∈ s.groupRails g → s.railHead i = some h → n < h.bound)) ∧
    (∃ (group : Nat) (s : State), s.timeRuns = true ∧ s.drives = true ∧ s.groupUsed group = true ∧ (s.groupCur group).st = .resting ∧ (s.group group).st = .resting ∧ (s.group group).restUntil ≤ s.tim.frame ∧ (s.group group).latching = false) ∧
    (∃ (group : Nat) (s : State), s.timeRuns = true ∧ s.drives = true ∧ s.groupUsed group = true ∧ (s.groupCur group).st = .resting ∧ (s.group group).st = .resting ∧ (s.group group).restUntil ≤ s.tim.frame ∧ (s.group group).latching = true) ∧
    (∃ (group : Nat) (s : State), s.timeRuns = true ∧ s.drives = true ∧ s.groupUsed group = true ∧ s.seq.frozen = false ∧ (s.groupCur group).st = .frozen ∧ (s.group group).st = .frozen) :=
  ⟨⟨64000, setSeq (fun q => { q with seqfAt := some 64000 }) w, by refine ⟨by decide, by decide, by decide, by decide, fun g _ _ _ i h _ hh => ?_⟩; rw [railHead_w i] at hh; cases hh⟩,
   ⟨3, w, by decide⟩,
   ⟨3, setGroup 3 (fun x => { x with latching := true }) w, by decide⟩,
   ⟨4, w, by decide⟩⟩

theorem witness_RecorderEvents :
    (∃ (s : State), s.coreUp = true ∧ s.recd.flushing = true ∧ s.cutClosed = true ∧ s.recd.paused = false ∧ (s.recd.flushFree = true ∨ s.recd.cutLeft ≤ s.recd.room)) ∧
    (∃ (port : PortId) (last : Nat) (s : State), s.coreUp = true ∧ s.recd.session.get (portCode port) = some last ∧ last ≤ s.tim.frame) ∧
    (∃ (log : Nat) (a : Nat) (s : State), s.coreUp = true ∧ s.tim.frameDue = true ∧ s.tim.begun = false ∧ log ≤ 1 ∧ (s.recd.log log).frozenFrom = some a ∧ a + s.cfg.freezeFrames ≤ s.tim.frame + 1 ∧ (closeFrame (if s.sys.bootStage = .finish then endOfBoot s else s)).commandReset = false) ∧
    (∃ (log : Nat) (a : Nat) (s : State), log ≤ 1 ∧ (s.recd.log log).frozenFrom = some a ∧ a + s.cfg.freezeFrames ≤ s.tim.frame) ∧
    (∃ (s : State), s.coreUp = true ∧ s.tim.frameDue = true ∧ s.recd.flight = .post ∧ s.recd.trigFrame + s.cfg.postFrames ≤ s.tim.frame) ∧
    (∃ (s : State), s.coreUp = true ∧ s.tim.frameDue = true ∧ s.recd.flight = .copying ∧ s.recd.imageWrites ≤ s.recd.copied) ∧
    (∃ (s : State), s.timeRuns = true ∧ s.pin.pfi = true ∧ s.pin.pfiSeen = false) ∧
    (∃ (s : State), s.timeRuns = true ∧ s.recd.pfiFlush = true) :=
  ⟨⟨setRec (fun r => { r with flushing := true, cutFrame := some 999 }) w, by decide⟩,
   ⟨.mgt, 1000, setRec (fun r => { r with session := [(0, some 1000)] }) w, by decide⟩,
   ⟨1, 1, setRec (fun r => { r with openLog := { frozenFrom := some 1 } }) (setTim (fun t => { t with frame := 4096, begun := false, frameDue := true }) w), by decide⟩,
   ⟨1, 1, setRec (fun r => { r with openLog := { frozenFrom := some 1 } }) (setTim (fun t => { t with frame := 4097 }) w), by decide⟩,
   ⟨wd (setRec (fun r => { r with flight := .post, trigFrame := 992 }) w), by decide⟩,
   ⟨wd (setRec (fun r => { r with flight := .copying }) w), by decide⟩,
   ⟨{ w with pin := { w.pin with pfi := true } }, by decide⟩,
   ⟨setRec (fun r => { r with pfiFlush := true }) w, by decide⟩⟩

theorem witness_CollectorEvents :
    (∃ (index : Nat) (m : FaultMsg) (rest : List FaultMsg) (s : State), s.timeRuns = true ∧ takeAt index s.flt.inflight = some (m, rest) ∧ s.flt.queue.length < 32 ∧ s.sourceBusy m.block m.inst = false) ∧
    (∃ (index : Nat) (m : FaultMsg) (rest : List FaultMsg) (s : State), s.timeRuns = true ∧ takeAt index s.flt.inflight = some (m, rest) ∧ (32 ≤ s.flt.queue.length ∨ s.sourceBusy m.block m.inst = true)) ∧
    (∃ (m : FaultMsg) (rest : List FaultMsg) (s : State), s.timeRuns = true ∧ s.flt.queue = m :: rest) ∧
    (∃ (s : State), s.flt.errPulse = true) ∧
    (∃ (s : State), s.flt.errMin = true) ∧
    (∃ (s : State), s.flt.nmaMin = true) :=
  ⟨⟨0, { block := 9 }, [], { w with flt := { inflight := [{ block := 9 }] } }, by decide⟩,
   ⟨0, { block := 9 }, [], { w with flt := { inflight := [{ block := 9 }], queue := List.replicate 32 {} } }, by decide⟩,
   ⟨{ block := 9 }, [], { w with flt := { queue := [{ block := 9 }] } }, by decide⟩,
   ⟨{ w with flt := { errPulse := true } }, by decide⟩,
   ⟨{ w with flt := { errMin := true } }, by decide⟩,
   ⟨{ w with flt := { nmaMin := true } }, by decide⟩⟩

theorem witness_PeerLink :
    (∃ (q : Nat) (s : State), s.timeRuns = true ∧ s.red.unacked = some q) ∧
    (∃ (s : State), s.timeRuns = true ∧ s.red.unacked.isSome = true ∧ s.red.retries < 3) ∧
    (∃ (s : State), s.timeRuns = true ∧ s.red.unacked.isSome = true ∧ 3 ≤ s.red.retries) ∧
    (∃ (s : State), s.timeRuns = true) ∧
    (∃ (s : State), s.timeRuns = true ∧ s.tim.frameDue = true ∧ s.red.st = .holder ∧ s.red.peerUp = true ∧ s.cfg.puntyLease / 4 ≤ s.red.renewAge + 1) :=
  ⟨⟨255, setRed (fun r => { r with unacked := some 255 }) w, by decide⟩,
   ⟨setRed (fun r => { r with unacked := some 255, retries := 2 }) w, by decide⟩,
   ⟨setRed (fun r => { r with unacked := some 255, retries := 3 }) w, by decide⟩,
   ⟨w, by decide⟩,
   ⟨wd (setRed (fun r => { r with renewAge := 3 }) w), by decide⟩⟩

theorem witness_PeerMessages :
    (∃ (p : PeerHdr) (s : State), s.timeRuns = true ∧ s.red.lastRx ≠ some p.seq ∧ s.red.st = .holder) ∧
    (∃ (p : PeerHdr) (frame : Nat) (s : State), s.timeRuns = true ∧ s.red.lastRx ≠ some p.seq ∧ s.red.st = .standby ∧ s.red.aligned = false ∧ s.tim.frame ≤ frame) ∧
    (∃ (p : PeerHdr) (s : State), s.timeRuns = true ∧ s.red.lastRx ≠ some p.seq ∧ s.red.st = .seeking) ∧
    (∃ (p : PeerHdr) (s : State), s.timeRuns = true ∧ s.red.lastRx ≠ some p.seq ∧ s.red.st = .standby) ∧
    (∃ (p : PeerHdr) (s : State), s.timeRuns = true ∧ s.red.lastRx ≠ some p.seq ∧ s.takesMirror = true) ∧
    (∃ (p : PeerHdr) (frame : Nat) (s : State), s.timeRuns = true ∧ s.red.lastRx ≠ some p.seq ∧ s.takesMirror = true ∧ (s.red.mirFrame = 0 ∨ frame ≤ s.red.mirFrame + 1)) ∧
    (∃ (p : PeerHdr) (count : Nat) (crc : Nat) (s : State), s.timeRuns = true ∧ s.red.lastRx ≠ some p.seq ∧ s.takesMirror = true ∧ (count ≠ s.red.mirStage.length ∨ crc ≠ crc32c (s.red.mirStage.flatMap (·.2)))) ∧
    (∃ (p : PeerHdr) (s : State), s.timeRuns = true ∧ s.red.lastRx ≠ some p.seq) ∧
    (∃ (p : PeerHdr) (mbox : Nat) (w : Nat × Nat) (s : State), s.timeRuns = true ∧ s.red.lastRx ≠ some p.seq ∧ s.red.fwd.find? (fun v => v.2 = mbox) = some w) ∧
    (∃ (p : PeerHdr) (chan : Nat) (s : State), s.timeRuns = true ∧ s.red.lastRx ≠ some p.seq ∧ s.red.st = .holder ∧ s.chanUsed chan = true) ∧
    (∃ (p : PeerHdr) (chan : Nat) (s : State), s.timeRuns = true ∧ s.red.lastRx ≠ some p.seq ∧ (s.chan chan).guard = true) ∧
    (∃ (p : PeerHdr) (s : State), s.timeRuns = true ∧ s.red.lastRx = some p.seq) :=
  ⟨⟨{}, w, by decide⟩,
   ⟨{}, 1000, setRed (fun r => { r with st := .standby, drive := false }) w, by decide⟩,
   ⟨{}, setRed (fun r => { r with st := .seeking, drive := false }) w, by decide⟩,
   ⟨{}, setRed (fun r => { r with st := .standby, drive := false }) w, by decide⟩,
   ⟨{}, setRed (fun r => { r with st := .standby, drive := false }) w, by decide⟩,
   ⟨{}, 8, setRed (fun r => { r with st := .standby, drive := false, mirFrame := 7 }) w, by decide⟩,
   ⟨{}, 1, 0, setRed (fun r => { r with st := .standby, drive := false }) w, by decide⟩,
   ⟨{}, w, by decide⟩,
   ⟨{}, 3, (4, 3), setRed (fun r => { r with st := .standby, drive := false, fwd := [(4, 3)] }) w, by decide⟩,
   ⟨{}, 0, w, by decide⟩,
   ⟨{}, 0, setChan 0 (fun x => { x with guard := true }) w, by decide⟩,
   ⟨{}, setRed (fun r => { r with lastRx := some 0 }) w, by decide⟩⟩

theorem witness_PuntyEvents :
    (∃ (s : State), s.red.enFollow = false ∧ s.red.pulseDue = false) ∧
    (∃ (s : State), s.timeRuns = true ∧ s.red.pulseDue = true ∧ s.red.st = .seeking) ∧
    (∃ (s : State), s.wrm.peerLive = true) ∧
    (∃ (s : State), s.timeRuns = true ∧ s.tim.frameDue = true ∧ s.red.peerUp = true ∧ s.cfg.puntyLease ≤ s.red.holdNow ∧ s.red.peerNow < s.cfg.puntyLease) ∧
    (∃ (s : State), s.timeRuns = true ∧ s.tim.frameDue = true ∧ s.red.peerUp = true ∧ s.cfg.puntyLease ≤ s.red.peerNow ∧ s.red.holdNow < s.cfg.puntyLease) ∧
    (∃ (s : State), s.timeRuns = true ∧ s.tim.frameDue = true ∧ (s.seekClaims = true ∨ s.standbyClaims = true)) ∧
    (∃ (s : State), s.timeRuns = true ∧ s.red.st = .claiming ∧ s.red.drive = false ∧ s.tim.frame = s.red.claimFrame ∧ 8 ≤ s.tim.tick) ∧
    (∃ (s : State), s.red.drive = true ∧ s.red.holdPull = false) ∧
    (∃ (chan : Nat) (s : State), s.timeRuns = true ∧ s.red.drive = false ∧ (s.red.st = .standby ∨ s.red.st = .claiming) ∧ s.pdUsed chan = true ∧ (s.chan chan).guard = false) :=
  ⟨⟨w, by decide⟩,
   ⟨setRed (fun r => { r with st := .seeking, drive := false, pulseDue := true }) w, by decide⟩,
   ⟨setWrm (fun x => { x with peerLive := true }) w, by decide⟩,
   ⟨setTim (fun t => { t with frameDue := true }) (setRed (fun r => { r with holdSilent := 15, peerMsg := true }) w), by decide⟩,
   ⟨setTim (fun t => { t with frameDue := true }) (setRed (fun r => { r with peerSilent := 15, pulse := true }) w), by decide⟩,
   ⟨setTim (fun t => { t with frameDue := true }) (setRed (fun r => { r with st := .standby, drive := false, silence := 17 }) w), by decide⟩,
   ⟨setTim (fun t => { t with tick := 8 }) (setRed (fun r => { r with st := .claiming, drive := false, claimFrame := 1000 }) w), by decide⟩,
   ⟨setRed (fun r => { r with holdPull := false }) w, by decide⟩,
   ⟨0, setRed (fun r => { r with st := .standby, drive := false }) w, by decide⟩⟩

theorem witness_IrlerLine :
    (∃ (port : Nat) (s : State), s.timeRuns = true ∧ s.irlerIn port = true ∧ (s.tiePort port).txq ≠ [] ∧ (s.tiePort port).sending = false ∧ (s.tiePort port).backoff = false) ∧
    (∃ (port : Nat) (m : IrlerMsg) (rest : List IrlerMsg) (s : State), s.timeRuns = true ∧ s.irlerIn port = true ∧ (s.tiePort port).txq = m :: rest ∧ (s.tiePort port).sending = true ∧ m.typ ≠ 0x1E) ∧
    (∃ (port : Nat) (s : State), s.timeRuns = true ∧ s.irlerIn port = true ∧ (s.tiePort port).sending = true ∧ (s.tiePort port).repeats < 3) ∧
    (∃ (port : Nat) (m : IrlerMsg) (rest : List IrlerMsg) (s : State), s.timeRuns = true ∧ s.irlerIn port = true ∧ (s.tiePort port).sending = true ∧ 3 ≤ (s.tiePort port).repeats ∧ (s.tiePort port).txq = m :: rest) ∧
    (∃ (port : Nat) (s : State), s.timeRuns = true ∧ s.irlerIn port = true ∧ (s.tiePort port).sending = true ∧ (s.tiePort port).backoff = false) ∧
    (∃ (port : Nat) (s : State), s.timeRuns = true ∧ s.irlerIn port = true ∧ (s.tiePort port).backoff = true) ∧
    (∃ (port : Nat) (m : IrlerMsg) (rest : List IrlerMsg) (s : State), s.timeRuns = true ∧ s.irlerIn port = true ∧ (s.tiePort port).txq = m :: rest ∧ (s.tiePort port).sending = true ∧ m.typ = 0x1E) ∧
    (∃ (port : Nat) (s : State), s.timeRuns = true ∧ s.irlerIn port = true) :=
  ⟨⟨0, setTie 0 (fun x => { x with txq := [{ typ := 2 }] }) w, by decide⟩,
   ⟨0, { typ := 2 }, [], setTie 0 (fun x => { x with txq := [{ typ := 2 }], sending := true }) w, by decide⟩,
   ⟨0, setTie 0 (fun x => { x with txq := [{ typ := 2 }], sending := true, repeats := 2 }) w, by decide⟩,
   ⟨0, { typ := 2 }, [], setTie 0 (fun x => { x with txq := [{ typ := 2 }], sending := true, repeats := 3 }) w, by decide⟩,
   ⟨0, setTie 0 (fun x => { x with txq := [{ typ := 2 }], sending := true }) w, by decide⟩,
   ⟨0, setTie 0 (fun x => { x with backoff := true }) w, by decide⟩,
   ⟨0, { typ := 0x1E }, [], setTie 0 (fun x => { x with txq := [{ typ := 0x1E }], sending := true }) w, by decide⟩,
   ⟨0, w, by decide⟩⟩

theorem witness_TiePolicy :
    (∃ (port : Nat) (s : State), s.timeRuns = true ∧ s.tim.frameDue = true ∧ s.irlerIn port = true ∧ ((s.tiePort port).st = .requesting ∨ (s.tiePort port).st = .offering) ∧ (s.tiePort port).answered = false ∧ (s.cfg.ties.get port).offerFrames ≤ (s.tiePort port).timer + 1) ∧
    (∃ (port : Nat) (s : State), s.timeRuns = true ∧ s.tim.frameDue = true ∧ s.irlerIn port = true ∧ ((s.tiePort port).st = .matching ∨ (s.tiePort port).st = .precharge) ∧ s.tieClosing port = false ∧ (s.cfg.ties.get port).matchFrames ≤ (s.tiePort port).timer + 1) ∧
    (∃ (port : Nat) (s : State), s.timeRuns = true ∧ s.tim.frameDue = true ∧ s.irlerIn port = true ∧ (s.tiePort port).quiet = false ∧ (s.tiePort port).st ≠ .silent ∧ (s.cfg.ties.get port).silenceFrames ≤ (s.tiePort port).heard + 1) ∧
    (∃ (port : Nat) (s : State), s.timeRuns = true ∧ s.tim.frameDue = true ∧ s.irlerIn port = true ∧ s.tieShut port = true ∧ (s.tiePort port).resume = none ∧ (s.tiePort port).releaseAt = none ∧ (s.cfg.ties.get port).lease ≤ (s.tiePort port).heard + 1 ∧ (s.tiePort port).offered = false) ∧
    (∃ (port : Nat) (s : State), s.timeRuns = true ∧ s.tim.frameDue = true ∧ s.irlerIn port = true ∧ s.tieShut port = true ∧ (s.tiePort port).resume = none ∧ (s.tiePort port).releaseAt = none ∧ (s.cfg.ties.get port).lease ≤ (s.tiePort port).heard + 1 ∧ (s.tiePort port).offered = true) ∧
    (∃ (port : Nat) (s : State), s.timeRuns = true ∧ s.tim.frameDue = true ∧ s.irlerIn port = true ∧ s.tieShut port = true ∧ (s.cfg.ties.get port).lease / 4 ≤ (s.tiePort port).renewAge + 1) ∧
    (∃ (port : Nat) (e : Nat) (s : State), s.timeRuns = true ∧ s.tim.frameDue = true ∧ s.irlerIn port = true ∧ (s.tiePort port).releaseAt = some e ∧ e ≤ s.tim.frame) ∧
    (∃ (port : Nat) (s : State), s.timeRuns = true ∧ s.tim.frameDue = true ∧ s.irlerIn port = true ∧ (s.tiePort port).cable = true ∧ (s.cfg.ties.get port).markerFrames ≤ (s.tiePort port).markerAge + 1) ∧
    (∃ (port : Nat) (e : Nat) (s : State), s.timeRuns = true ∧ s.tim.frameDue = true ∧ s.irlerIn port = true ∧ (s.tiePort port).resume = some e ∧ e ≤ s.tim.frame) :=
  ⟨⟨0, wd (setTie 0 (fun x => { x with st := .offering, timer := 63 }) w), by decide⟩,
   ⟨1, wd (setTie 1 (fun x => { x with st := .matching, timer := 511 }) w), by decide⟩,
   ⟨0, wd (setTie 0 (fun x => { x with heard := 63 }) w), by decide⟩,
   ⟨0, wd (setTie 0 (fun x => { x with st := .closed, heard := 1023 }) w), by decide⟩,
   ⟨0, wd (setTie 0 (fun x => { x with st := .closed, heard := 1023, offered := true }) w), by decide⟩,
   ⟨0, wd (setTie 0 (fun x => { x with st := .closed, renewAge := 255 }) w), by decide⟩,
   ⟨1, 1000, wd (setTie 1 (fun x => { x with releaseAt := some 1000 }) w), by decide⟩,
   ⟨1, wd (setTie 1 (fun x => { x with markerAge := 3905 }) w), by decide⟩,
   ⟨1, 1000, wd (setTie 1 (fun x => { x with st := .silent, resume := some 1000 }) w), by decide⟩⟩

theorem witness_CaneFrames :
    (∃ (node : Nat) (s : State), s.timeRuns = true ∧ s.nodeUsed node = true ∧ s.caneIn (s.cfg.nodes.get node).port = true ∧ s.drives = false) ∧
    (∃ (node : Nat) (s : State), s.timeRuns = true ∧ s.nodeUsed node = true ∧ s.caneIn (s.cfg.nodes.get node).port = true ∧ s.drives = true ∧ (s.node node).joined = true ∧ (s.cane (s.cfg.nodes.get node).port).txq = []) ∧
    (∃ (node : Nat) (seq : Nat) (s : State), s.timeRuns = true ∧ s.nodeUsed node = true ∧ s.caneIn (s.cfg.nodes.get node).port = true ∧ s.drives = true ∧ (s.node node).joined = true ∧ (s.cane (s.cfg.nodes.get node).port).txq = [] ∧ seq ≠ (s.node node).txNext) ∧
    (∃ (node : Nat) (seq : Nat) (s : State), s.timeRuns = true ∧ s.nodeUsed node = true ∧ s.caneIn (s.cfg.nodes.get node).port = true ∧ s.drives = true ∧ ((s.node node).joined = false ∨ seq ≠ (s.node node).rxNext)) ∧
    (∃ (node : Nat) (entries : List (Nat × Byte × Int)) (s : State), s.timeRuns = true ∧ s.nodeUsed node = true ∧ s.caneIn (s.cfg.nodes.get node).port = true ∧ s.drives = true ∧ (s.node node).joined = true ∧ (entries.length = 0 ∨ 42 < entries.length)) ∧
    (∃ (node : Nat) (demands : List (Nat × Nat)) (s : State), s.timeRuns = true ∧ s.nodeUsed node = true ∧ s.caneIn (s.cfg.nodes.get node).port = true ∧ s.drives = true ∧ (s.node node).joined = true ∧ (demands.length = 0 ∨ 16 < demands.length)) ∧
    (∃ (node : Nat) (entries : List (Nat × Byte × Int)) (s : State), s.timeRuns = true ∧ s.nodeUsed node = true ∧ s.caneIn (s.cfg.nodes.get node).port = true ∧ s.drives = true ∧ (s.node node).joined = true ∧ 0 < entries.length ∧ entries.length ≤ 42 ∧ (s.node node).taken + entries.length ≤ (s.cfg.nodes.get node).budget) ∧
    (∃ (node : Nat) (entries : List (Nat × Byte × Int)) (s : State), s.timeRuns = true ∧ s.nodeUsed node = true ∧ s.caneIn (s.cfg.nodes.get node).port = true ∧ s.drives = true ∧ (s.node node).joined = true ∧ 0 < entries.length ∧ entries.length ≤ 42 ∧ (s.cfg.nodes.get node).budget < (s.node node).taken + entries.length) ∧
    (∃ (node : Nat) (d : Nat) (n : Nat) (s : State), s.timeRuns = true ∧ s.nodeUsed node = true ∧ s.caneIn (s.cfg.nodes.get node).port = true ∧ s.drives = true ∧ (s.node node).joined = true ∧ s.domOf node (n % 16) = some d) ∧
    (∃ (node : Nat) (s : State), s.timeRuns = true ∧ s.nodeUsed node = true ∧ s.caneIn (s.cfg.nodes.get node).port = true ∧ s.drives = true ∧ (s.node node).joined = true) ∧
    (∃ (node : Nat) (s : State), s.timeRuns = true ∧ s.drives = true ∧ s.nodeUsed node = true ∧ (s.node node).joined = true ∧ (s.node node).unacked ≠ [] ∧ (s.node node).lostDue = false ∧ s.sys.crucible = false ∧ (∀ f, f ∈ (s.node node).unacked → f.sends < 4)) ∧
    (∃ (node : Nat) (s : State), s.timeRuns = true ∧ s.drives = true ∧ s.nodeUsed node = true ∧ (s.node node).joined = true ∧ (s.node node).unacked ≠ [] ∧ (s.node node).lostDue = false ∧ s.sys.crucible = false ∧ (∃ f, f ∈ (s.node node).unacked ∧ 4 ≤ f.sends)) ∧
    (∃ (port : Nat) (s : State), s.timeRuns = true ∧ s.caneIn port = true) :=
  ⟨⟨1, setRed (fun r => { r with drive := false }) w, by decide⟩,
   ⟨1, w, by decide⟩,
   ⟨1, 0, w, by decide⟩,
   ⟨2, 1, w, by decide⟩,
   ⟨1, List.replicate 43 (0, 0, 0), w, by decide⟩,
   ⟨1, List.replicate 17 (0, 0), w, by decide⟩,
   ⟨1, List.replicate 42 (0, 0, 0), w, by decide⟩,
   ⟨1, [(0, 0, 0)], setNode 1 (fun x => { x with taken := 4096 }) w, by decide⟩,
   ⟨1, 0, 3, w, by decide⟩,
   ⟨1, w, by decide⟩,
   ⟨1, setNode 1 (fun x => { x with unacked := [{ typ := 3, sends := 3 }] }) w, by decide⟩,
   ⟨1, setNode 1 (fun x => { x with unacked := [{ typ := 3, sends := 4 }] }) w, by decide⟩,
   ⟨0, w, by decide⟩⟩

theorem witness_CaneNodes :
    (∃ (port : Nat) (s : State), s.timeRuns = true ∧ port < 16 ∧ (s.cane port).enabled = true ∧ (s.cane port).up = false ∧ s.sys.crucible = false) ∧
    (∃ (port : Nat) (s : State), s.timeRuns = true ∧ port < 16 ∧ (s.cane port).up = true) ∧
    (∃ (port : Nat) (s : State), s.timeRuns = true ∧ s.tim.frameDue = true ∧ s.drives = true ∧ s.caneIn port = true ∧ 64 ≤ (s.cane port).queryAge ∧ s.joinedCount port < (s.portNodes port).length) ∧
    (∃ (port : Nat) (hop : Nat) (node : Nat) (s : State), s.timeRuns = true ∧ s.drives = true ∧ s.caneIn port = true ∧ s.nodeUsed node = true ∧ (s.cfg.nodes.get node).port = port ∧ (s.cfg.nodes.get node).position = hop ∧ (s.node node).joined = false) ∧
    (∃ (port : Nat) (hop : Nat) (node : Nat) (s : State), s.timeRuns = true ∧ s.drives = true ∧ s.caneIn port = true ∧ s.nodeUsed node = true ∧ (s.cfg.nodes.get node).port = port ∧ (s.cfg.nodes.get node).position = hop ∧ (s.node node).joined = true) ∧
    (∃ (port : Nat) (hop : Nat) (node : Nat) (s : State), s.timeRuns = true ∧ s.drives = true ∧ s.caneIn port = true ∧ (s.nodeUsed node = false ∨ (s.cfg.nodes.get node).port ≠ port ∨ (s.cfg.nodes.get node).position ≠ hop) ∧ (s.cane port).rejected.contains node = false) ∧
    (∃ (node : Nat) (s : State), s.timeRuns = true ∧ s.tim.frameDue = true ∧ s.nodeUsed node = true ∧ (s.node node).joined = true ∧ ((s.node node).lostDue = true ∨ (s.node node).heard = false ∧ (s.cfg.nodes.get node).timeout ≤ (s.node node).silent + 1)) :=
  ⟨⟨15, w, by decide⟩,
   ⟨0, w, by decide⟩,
   ⟨0, wd (setCane 0 (fun x => { x with queryAge := 64 }) w), by decide⟩,
   ⟨0, 1, 2, w, by decide⟩,
   ⟨0, 0, 1, w, by decide⟩,
   ⟨0, 0, 3, w, by decide⟩,
   ⟨1, wd (setNode 1 (fun x => { x with silent := 63 }) w), by decide⟩⟩

theorem witness_ActivationSteps :
    (∃ (s : State), s.coreUp = true ∧ s.bch.running = true ∧ s.bch.journal = 0) ∧
    (∃ (s : State), s.coreUp = true ∧ s.bch.running = true ∧ s.bch.journal = 1) ∧
    (∃ (b : Batch) (s : State), s.coreUp = true ∧ s.bch.running = true ∧ s.bch.journal = 2 ∧ s.bch.shadow = some b ∧ s.needsReset b = false) ∧
    (∃ (b : Batch) (s : State), s.coreUp = true ∧ s.bch.running = true ∧ s.bch.journal = 2 ∧ s.bch.shadow = some b ∧ s.needsReset b = true) ∧
    (∃ (s : State), s.timeRuns = true ∧ s.tim.frameDue = true ∧ s.bch.running = true ∧ s.bch.journal = 3 ∧ s.bch.switchReset = false ∧ s.bch.inPause = false ∧ s.shr.hold.st = .normal) ∧
    (∃ (b : Batch) (s : State), s.timeRuns = true ∧ s.tim.frameDue = true ∧ s.bch.inPause = true ∧ s.bch.pause ≤ 1 ∧ s.bch.shadow = some b) ∧
    (∃ (s : State), s.coreUp = true ∧ s.bch.running = true ∧ s.bch.journal = 5) ∧
    (∃ (chunk : Nat) (bytes : List Byte) (mbox : Nat) (rest : List (Nat × List Byte × Nat)) (s : State), s.coreUp = true ∧ s.bch.writing = (chunk, bytes, mbox) :: rest ∧ bytes ≠ []) ∧
    (∃ (chunk : Nat) (mbox : Nat) (rest : List (Nat × List Byte × Nat)) (s : State), s.coreUp = true ∧ s.bch.writing = (chunk, [], mbox) :: rest) :=
  ⟨⟨setBch (fun b => { b with running := true }) w, by decide⟩,
   ⟨setBch (fun b => { b with running := true, journal := 1 }) w, by decide⟩,
   ⟨{}, setBch (fun b => { b with running := true, journal := 2, shadow := some {} }) w, by decide⟩,
   ⟨{ frameTicks := 65 }, setBch (fun b => { b with running := true, journal := 2, shadow := some { frameTicks := 65 } }) w, by decide⟩,
   ⟨setBch (fun b => { b with running := true, journal := 3 }) (setTim (fun t => { t with frameDue := true }) w), by decide⟩,
   ⟨{}, setBch (fun b => { b with inPause := true, pause := 1, shadow := some {} }) (setTim (fun t => { t with frameDue := true }) w), by decide⟩,
   ⟨setBch (fun b => { b with running := true, journal := 5 }) w, by decide⟩,
   ⟨1023, [7], 1, [], setBch (fun b => { b with writing := [(1023, [7], 1)] }) w, by decide⟩,
   ⟨1023, 1, [], setBch (fun b => { b with writing := [(1023, [], 1)] }) w, by decide⟩⟩

theorem witness_Mailboxes :
    (∃ (port : PortId) (s : State), s.portsUp = true ∧ port ≠ .peer ∧ (s.hst.mboxes.get (2 * portCode port)).st ≠ .busy) ∧
    (∃ (port : PortId) (s : State), s.portsUp = true ∧ port ≠ .peer ∧ (s.hst.mboxes.get (2 * portCode port)).st = .busy) ∧
    (∃ (port : PortId) (s : State), s.portsUp = true ∧ port ≠ .peer ∧ (s.hst.mboxes.get (2 * portCode port + 1)).st ≠ .busy) ∧
    (∃ (port : PortId) (s : State), s.portsUp = true ∧ port ≠ .peer ∧ (s.hst.mboxes.get (2 * portCode port + 1)).st = .busy) ∧
    (∃ (port : PortId) (s : State), s.portsUp = true ∧ port ≠ .peer) ∧
    (∃ (port : PortId) (s : State), s.portsUp = true ∧ port ≠ .peer ∧ (s.drives = true ∨ s.sys.crucible = true ∨ s.timeRuns = false)) :=
  ⟨⟨.fhp, w, by decide⟩,
   ⟨.fhp, setMbox 2 (fun m => { m with st := .busy }) w, by decide⟩,
   ⟨.mgt, w, by decide⟩,
   ⟨.fhp, setMbox 3 (fun m => { m with st := .busy }) w, by decide⟩,
   ⟨.mgt, w, by decide⟩,
   ⟨.mgt, w, by decide⟩⟩

theorem witness_Verification :
    (∃ (b : Block) (s : State), s.timeRuns = true ∧ s.nextBlock = some b ∧ (takeBlock b s).passesOn b = false ∧ (∀ c, c ∈ checks b (takeBlock b s) → c.1 = false) ∧ s.red.st ≠ .holder) ∧
    (∃ (b : Block) (status : Nat) (k : Nat × Nat) (counts : Bool) (s : State), s.timeRuns = true ∧ s.nextBlock = some b ∧ (takeBlock b s).passesOn b = false ∧ (checks b (takeBlock b s)).find? (·.1) = some (true, status, k, counts) ∧ b.port ≠ .peer) ∧
    (∃ (port : PortId) (n : Nat) (s : State), s.timeRuns = true ∧ s.tim.frameDue = true ∧ (s.hst.auth.get (portCode port)).lock = some n ∧ n ≤ 1) ∧
    (∃ (port : PortId) (s : State), s.timeRuns = true ∧ s.tim.frameDue = true ∧ 65536 ≤ (s.hst.auth.get (portCode port)).since) ∧
    (∃ (target : Nat) (mbox : Nat) (rest : List (Nat × Nat × List Byte × Nat)) (s : State), s.timeRuns = true ∧ s.hst.fuse = (0, 0, [BitVec.ofNat 8 target], mbox) :: rest) ∧
    (∃ (slot : Nat) (key : List Byte) (mbox : Nat) (rest : List (Nat × Nat × List Byte × Nat)) (s : State), s.timeRuns = true ∧ s.hst.fuse = (1, slot, key, mbox) :: rest) ∧
    (∃ (mbox : Nat) (d : Deferred) (s : State), s.timeRuns = true ∧ s.hst.deferred.find? (fun d => d.mbox = mbox && readOps.contains d.opcode) = some d ∧ s.hst.deferred.find? (fun e => e.mbox = mbox && e.opcode = d.opcode) = some d ∧ d.port ≠ .peer) :=
  ⟨⟨{ mbox := 0, bytes := [1, 0] }, wr [1, 0], by exact ⟨by decide, rfl, by decide, by decide, by decide⟩⟩,
   ⟨{ mbox := 0, bytes := [255, 255] }, 0x10, kCmdMalformed, false, wr [255, 255], by exact ⟨by decide, rfl, by decide, by decide, by decide⟩⟩,
   ⟨.fhp, 1, setTim (fun t => { t with frameDue := true }) (setHst (fun h => { h with auth := [(1, { lock := some 1 })] }) w), by decide⟩,
   ⟨.fhp, setTim (fun t => { t with frameDue := true }) (setHst (fun h => { h with auth := [(1, { since := 65536 })] }) w), by decide⟩,
   ⟨2, 1, [], setHst (fun h => { h with fuse := [(0, 0, [2], 1)] }) w, by decide⟩,
   ⟨3, [7], 1, [], setHst (fun h => { h with fuse := [(1, 3, [7], 1)] }) w, by decide⟩,
   ⟨1, { mbox := 1, opcode := 0x0C03 }, setHst (fun h => { h with deferred := [{ mbox := 1, opcode := 0x0C03 }] }) w, by decide⟩⟩

theorem witness_RegisterAccess :
    (∃ (port : PortId) (s : State), s.portsUp = true ∧ port ≠ .peer) ∧
    (∃ (port : PortId) (s : State), s.portsUp = true ∧ port ≠ .peer ∧ (s.hport (portCode port)).capSel < 16) ∧
    (∃ (port : PortId) (s : State), s.portsUp = true ∧ port ≠ .peer ∧ (s.hport (portCode port)).capSel < 16) ∧
    (∃ (port : PortId) (entry : Nat) (s : State), s.portsUp = true ∧ port ≠ .peer ∧ entry < 256) ∧
    (∃ (reg : Nat) (s : State), s.portsUp = true ∧ reg < 8) ∧
    (∃ (s : State), s.portsUp = true) ∧
    (∃ (reg : Nat) (s : State), s.portsUp = true ∧ reg < 2) ∧
    (∃ (value : Word) (s : State), s.portsUp = true ∧ bvGet value 0 = true ∧ s.flt.err = true ∧ s.flt.errPulse = false ∧ s.flt.errMin = false) ∧
    (∃ (value : Word) (s : State), s.portsUp = true ∧ bvGet value 0 = true ∧ s.flt.err = true ∧ s.flt.errPulse = false ∧ s.flt.errMin = true) ∧
    (∃ (port : PortId) (a : Nat) (s : State), s.portsUp = true ∧ port ≠ .peer ∧ a < 0x5000 ∧ a % 4 = 0 ∧ isWritable a = true) ∧
    (∃ (port : PortId) (a : Nat) (s : State), s.portsUp = true ∧ port ≠ .peer ∧ s.sys.lock = true ∧ a ∈ [0x0C08, 0x0C0C, 0x0C10, 0x0C14, 0x0C18, 0x1018, 0x1020, 0x2820]) :=
  ⟨⟨.mgt, w, by decide⟩,
   ⟨.mgt, setPort 0 (fun h => { h with capSel := 15 }) w, by decide⟩,
   ⟨.mgt, w, by decide⟩,
   ⟨.mgt, 255, w, by decide⟩,
   ⟨7, w, by decide⟩,
   ⟨w, by decide⟩,
   ⟨1, w, by decide⟩,
   ⟨1, { w with flt := { err := true } }, by decide⟩,
   ⟨1, { w with flt := { err := true, errMin := true } }, by decide⟩,
   ⟨.mgt, 0x4400, w, by decide⟩,
   ⟨.mgt, 0x2820, { w with sys := { w.sys with lock := true } }, by decide⟩⟩

theorem witness_MgtAccess :
    (∃ (target : Nat) (s : State), target ≠ s.hst.mgtAddr) ∧
    (∃ (s : State), s.portsUp = true) ∧
    (∃ (hi : Byte) (lo : Byte) (s : State), s.portsUp = true ∧ (256 * hi.toNat + lo.toNat) % 4 = 0 ∧ 256 * hi.toNat + lo.toNat < 0x5000 ∧ isWritable (256 * hi.toNat + lo.toNat) = true) ∧
    (∃ (s : State), s.portsUp = true ∧ s.hst.mgtPtr < 0x5000 ∧ s.hst.mgtPtr % 4 = 0) ∧
    (∃ (s : State), s.portsUp = true ∧ s.ibrCond = true ∧ (s.hst.ibrSent = false ∨ s.hst.addressed = false)) :=
  ⟨⟨0x4F, w, by decide⟩,
   ⟨w, by decide⟩,
   ⟨0x44, 0, w, by decide⟩,
   ⟨setHst (fun h => { h with mgtPtr := 0x4FFC }) w, by decide⟩,
   ⟨{ (setHst (fun h => { h with ibrEn := BitVec.allOnes 32 }) w) with flt := { fifo := [{}] } }, by decide⟩⟩

theorem witness_FhpAccess :
    (∃ (o : Nat) (data : List Byte) (s : State), s.portsUp = true ∧ s.hst.crcEn = false ∧ 0 < data.length ∧ data.length ≤ 4096 ∧ o + data.length ≤ 0x300000) ∧
    (∃ (o : Nat) (data : List Byte) (s : State), s.portsUp = true ∧ s.hst.crcEn = false ∧ 0 < data.length ∧ data.length ≤ 4096 ∧ o + data.length ≤ 0x800000 ∧ s.pin.pfiSeen = false) ∧
    (∃ (s : State), s.portsUp = true ∧ s.mem.nvBusy = true) ∧
    (∃ (addr : Nat) (data : List Byte) (crc : Nat) (s : State), s.portsUp = true ∧ s.hst.crcEn = true ∧ 0 < data.length ∧ data.length ≤ 4096 ∧ crc16 (0x02 :: leBytes 4 addr ++ data) ≠ crc) ∧
    (∃ (data : List Byte) (s : State), s.portsUp = true ∧ (data.length = 0 ∨ 4096 < data.length)) ∧
    (∃ (s : State), s.portsUp = true) ∧
    (∃ (addr : Nat) (s : State), s.portsUp = true ∧ s.hst.crcEn = false ∧ addr % 4 = 0 ∧ addr < 0x5000) :=
  ⟨⟨0x2FFFFF, [7], w, by decide⟩,
   ⟨0x7FFFFF, [7], w, by decide⟩,
   ⟨setMem (fun m => { m with nvBusy := true }) w, by decide⟩,
   ⟨0x2000000, [7], 0, setHst (fun h => { h with crcEn := true }) w, by decide +kernel⟩,
   ⟨[], w, by decide⟩,
   ⟨w, by decide⟩,
   ⟨0x4FFC, w, by decide⟩⟩

theorem witness_RefusedCommands :
    (∃ (s : State), s.takes = true ∧ s.otp.lifecycle = .field) ∧
    (∃ (root : Nat) (s : State), s.takes = true ∧ s.otp.lifecycle = .blank ∧ 3 < root) ∧
    (∃ (block : Nat) (kind : Nat) (s : State), s.takes = true ∧ kindExists block kind = false) ∧
    (∃ (chan : Nat) (s : State), s.takes = true ∧ s.sys.crucible = false ∧ s.chanUsed chan = false) ∧
    (∃ (chan : Nat) (s : State), s.takes = true ∧ s.sys.crucible = false ∧ chan < 54 ∧ (s.chan chan).st ≠ .tripped) ∧
    (∃ (group : Nat) (s : State), s.takes = true ∧ s.sys.crucible = false ∧ s.groupUsed group = true ∧ (s.groupCur group).st = .latched) ∧
    (∃ (group : Nat) (s : State), s.takes = true ∧ s.sys.crucible = false ∧ s.groupUsed group = false) ∧
    (∃ (s : State), s.takes = true ∧ s.sys.crucible = false ∧ s.red.st ≠ .holder) ∧
    (∃ (s : State), s.takes = true ∧ s.sys.crucible = false ∧ s.red.st = .holder ∧ s.red.mirComplete = false) ∧
    (∃ (port : Nat) (s : State), s.takes = true ∧ s.sys.crucible = false ∧ port < 2 ∧ (s.tiePort port).st ≠ .idle) ∧
    (∃ (port : Nat) (s : State), s.takes = true ∧ s.sys.crucible = false ∧ 16 ≤ port) ∧
    (∃ (s : State), s.takes = true ∧ s.bch.running = true) ∧
    (∃ (i : Instr) (op : Nat) (p : List Byte) (s : State), encodeCmd i = some (op, p) ∧ s.takes = true ∧ s.sys.crucible = true ∧ crucibleBlocks.contains (op / 256) = false) :=
  ⟨⟨{ w with otp := { lifecycle := .field } }, by decide⟩,
   ⟨4, { w with otp := {} }, by decide⟩,
   ⟨0x14, 0, w, by decide⟩,
   ⟨54, w, by decide⟩,
   ⟨0, w, by decide⟩,
   ⟨1, w, by decide⟩,
   ⟨64, w, by decide⟩,
   ⟨setRed (fun r => { r with st := .standby, drive := false }) w, by decide⟩,
   ⟨setRed (fun r => { r with mirComplete := false }) w, by decide⟩,
   ⟨1, w, by decide⟩,
   ⟨16, w, by decide⟩,
   ⟨setBch (fun b => { b with running := true }) w, by decide⟩,
   ⟨.cmdShedRelease {}, 0x0803, [], { w with sys := { w.sys with crucible := true } }, by decide⟩⟩

theorem witness_StepRunsFront :
    (∃ (c : Instr) (rest : List Instr) (s : State), s.pending = c :: rest) ∧
    (∃ (s : State), s.pending = []) :=
  ⟨⟨.bypass, [], { w with pending := [.bypass] }, by rfl⟩,
   ⟨w, by decide⟩⟩

theorem witness_DecodeEncode :
    (∃ (i : Instr) (op : Nat) (p : List Byte), i.wf = true ∧ encodeCmd i = some (op, p)) :=
  ⟨.cmdSysReset {}, 0x0101, [], by decide⟩

theorem witness_IdentityRegister :
    (∃ (s : State), s.portsUp = true ∧ s.hst.mgtPtr = 0) ∧
    (∃ (s : State), s.portsUp = true ∧ s.hst.crcEn = false) :=
  ⟨⟨w, by decide⟩,
   ⟨w, by decide⟩⟩

theorem witness_RegisterCapture :
    (∃ (n : Nat) (s : State), s.portsUp = true ∧ s.hst.mgtPtr < 0x5000 ∧ s.hst.mgtPtr % 4 + n ≤ 4) ∧
    (∃ (a : Nat) (n : Nat) (s : State), s.portsUp = true ∧ s.hst.crcEn = false ∧ a < 0x5000 ∧ 0 < n ∧ a % 4 + n ≤ 4) :=
  ⟨⟨1, setHst (fun h => { h with mgtPtr := 0x4FFF }) w, by decide⟩,
   ⟨0x4FFE, 2, w, by decide⟩⟩

theorem witness_ReportingWrites :
    (∃ (port : PortId) (s : State), s.portsUp = true ∧ port ≠ .peer ∧ s.drives = true) ∧
    (∃ (port : PortId) (a : Nat) (s : State), s.portsUp = true ∧ port ≠ .peer ∧ isWritable a = true ∧ a % 4 = 0 ∧ a ≠ 0x1800) :=
  ⟨⟨.mgt, w, by decide⟩,
   ⟨.mgt, 0x0400, w, by decide⟩⟩

theorem witness_IrlerMessages : ∃ (port ident : Nat) (s u : State), s.timeRuns = true ∧ s.irlerIn port = true ∧
    (s.tiePort port).lastIn ≠ some (7, ident) ∧ u.timeRuns = true ∧ u.irlerIn port = true ∧
    (u.tiePort port).lastIn = some (7, ident) :=
  ⟨1, 255, w, setTie 1 (fun x => { x with lastIn := some (7, 255) }) w, by decide⟩

theorem witness_StepKeepsOtp : ∃ (s t : State) (k : Nat), s.otp.keys.wf = true ∧ s.otp.roots.wf = true ∧
    s.otp.keyCrc.wf = true ∧ s.otp.rootCrc.wf = true ∧ step s = .next t ∧ bvGet s.otp.keyBlown k = true ∧
    bvGet s.otp.rootBlown k = true ∧ bvGet s.otp.revoked k = true ∧ s.pending = [.bypass] :=
  ⟨{ w with pending := [.bypass], otp := { keyBlown := 8, rootBlown := 8, revoked := 8 } }, _, 3,
   by decide, by decide, by decide, by decide, rfl, by decide, by decide, by decide, rfl⟩

end Sys2Proof.Tests
end

/-! SUPPORT. What a read of one register returns on MGT and on FHP (R446, R455, R554), and the identity register (R3). -/
namespace Sys2Proof.Machine

/-! ### What a port returned, through the operations that close a step -/

@[simp] theorem keep_hport (s t : State) (p : Nat) : (keep s t).hport p = t.hport p := rfl

@[simp] theorem ibrSettle_hport (s : State) (p : Nat) : (ibrSettle s).hport p = s.hport p := by
  unfold ibrSettle
  split <;> rfl

@[simp] theorem setPort_hport_same (p : Nat) (f : HostPort → HostPort) (s : State) :
    (setPort p f s).hport p = f (s.hport p) := by
  simp [State.hport, setPort]

/-- What a port's read returns is its run of bytes. -/
theorem readOut_out (p n a : Nat) (s : State) : ((readOut p n a s).hport p).out = (readRun p n a none s).1 := by
  simp [readOut]

/-! ### A run of bytes (R446, R554) -/

/-- The capture of a register leaves the host ports' state. -/
@[simp] theorem regCaptured_hst (p a : Nat) (s : State) : (regCaptured p a s).hst = s.hst := by
  unfold regCaptured
  split
  case h_6 | h_7 => unfold setCapOf; split <;> rfl
  all_goals rfl

@[simp] theorem peekCapture_hst (p a : Nat) (s : State) : (peekCapture p a s).hst = s.hst := by
  unfold peekCapture
  split <;> rfl

/-- The run goes on in the register that is captured: the byte comes from the captured word. -/
theorem readRun_succ_captured (p n a : Nat) (w : Word) (s : State) (ha : a < 0x5000) :
    readRun p (n + 1) a (some (a / 4 * 4, w)) s =
      let r := readRun p n ((a + 1) % 65536) (some (a / 4 * 4, w)) s
      (nth (leBytes 4 w.toNat) (a % 4) :: r.1, r.2) := by
  simp [readRun, ha]

/-- A run that begins in a register captures it, and goes on as one that has it captured. -/
theorem readRun_succ_none (p n a : Nat) (s : State) (ha : a < 0x5000) :
    readRun p (n + 1) a none s =
      readRun p (n + 1) a (some (a / 4 * 4, regValue p (a / 4 * 4) s)) (regCaptured p (a / 4 * 4) s) := by
  simp [readRun, ha]

theorem leBytes_four_length (v : Nat) : (leBytes 4 v).length = 4 := rfl

/-- A run inside a register that is captured returns the bytes of the captured word, from its first byte's place on. -/
theorem readRun_captured (p n a : Nat) (w : Word) (s : State) (ha : a < 0x5000) (hn : a % 4 + n ≤ 4) :
    readRun p n a (some (a / 4 * 4, w)) s = (((leBytes 4 w.toNat).drop (a % 4)).take n, s) := by
  induction n generalizing a with
  | zero => simp [readRun]
  | succ n ih =>
    have hk : a % 4 < (leBytes 4 w.toNat).length := by rw [leBytes_four_length]; omega
    have tail : readRun p n ((a + 1) % 65536) (some (a / 4 * 4, w)) s =
        (((leBytes 4 w.toNat).drop (a % 4 + 1)).take n, s) := by
      cases n with
      | zero => simp [readRun]
      | succ m =>
        have hmod : (a + 1) % 65536 = a + 1 := by omega
        have hword : (a + 1) / 4 * 4 = a / 4 * 4 := by omega
        have hbyte : (a + 1) % 4 = a % 4 + 1 := by omega
        rw [hmod, ← hword, ih (a + 1) (by omega) (by omega), hbyte]
    have hnth : nth (leBytes 4 w.toNat) (a % 4) = (leBytes 4 w.toNat)[a % 4] := by simp [nth, hk]
    rw [readRun_succ_captured _ _ _ _ _ ha, tail, List.drop_eq_getElem_cons hk, List.take_succ_cons, hnth]

/-- A run inside one register returns bytes of the one value that the register has as the run begins, and leaves what the
register's capture leaves. -/
theorem readRun_register (p n a : Nat) (s : State) (ha : a < 0x5000) (h0 : 0 < n) (hn : a % 4 + n ≤ 4) :
    readRun p n a none s =
      (((leBytes 4 (regValue p (a / 4 * 4) s).toNat).drop (a % 4)).take n, regCaptured p (a / 4 * 4) s) := by
  cases n with
  | zero => exact absurd h0 (Nat.lt_irrefl 0)
  | succ m => rw [readRun_succ_none _ _ _ _ ha, readRun_captured _ _ _ _ _ ha hn]

/-! ### A read on MGT and on FHP -/

/-- The state in which a transaction that addresses the device works (R449, R452). -/
def mgtTurned (s : State) : State := mgtStart (setHst (fun h => { h with addressed := true }) s)

@[simp] theorem mgtTurned_mgtPtr (s : State) : (mgtTurned s).hst.mgtPtr = s.hst.mgtPtr := rfl

@[simp] theorem mgtRead_hport (n p : Nat) (s : State) :
    (mgtRead n s).hport p = (readOut 0 n s.hst.mgtPtr s).hport p := rfl

/-- A transaction at the device's address carries out its access there. -/
theorem mgtTurn_pos (s : State) (f : State → State) (hu : s.portsUp = true) :
    mgtTurn s.hst.mgtAddr s f = .next (keep s (ibrSettle (f (mgtTurned s)))) :=
  whenDue_pos s _ (by simp [hu])

/-- An MGT read at the device's address returns the run of bytes from the register pointer on. -/
theorem execMgtReadTransaction_out (n : Nat) (s : State) (hu : s.portsUp = true) :
    ∃ t, execMgtReadTransaction s.hst.mgtAddr n s = .next t ∧
      (t.hport 0).out = (readRun 0 n s.hst.mgtPtr none (mgtTurned s)).1 := by
  refine ⟨_, mgtTurn_pos s (mgtRead n) hu, ?_⟩
  rw [keep_hport, ibrSettle_hport, mgtRead_hport, mgtTurned_mgtPtr, readOut_out]

@[simp] theorem fhpOut_hport (l : List Byte) (s : State) : ((fhpOut l s).hport 1).out = l := by simp [fhpOut]

/-- The data phase inside one register, with CRC checking off: the sync byte and the register's bytes (R455). -/
theorem fhpData_register (n a : Nat) (s : State) (hc : s.hst.crcAct = false) (ha : a < 0x5000) (h0 : 0 < n)
    (hn : a % 4 + n ≤ 4) :
    ((fhpData a n s).hport 1).out =
      0x5A :: ((leBytes 4 (regValue 1 (a / 4 * 4) s).toNat).drop (a % 4)).take n := by
  have hmin : min n (65536 - a) = n := by omega
  have hlow : a < 65536 := by omega
  have hne : min n (4 - a % 4) ≠ 0 := by omega
  have hrun := readRun_register 1 n a s ha h0 hn
  simp [fhpData, hlow, hmin, hrun, leBytes_four_length, hne, hc]

/-- A read frame on one lane or four inside one register, not cut and with CRC checking off (R454, R455). -/
theorem fhpReadFrame_register (code : Byte) (a n crc : Nat) (s : State) (hu : s.portsUp = true)
    (hc : s.hst.crcEn = false) (ha : a < 0x5000) (h0 : 0 < n) (hn : a % 4 + n ≤ 4) :
    ∃ t, fhpReadFrame code a n crc false s = .next t ∧
      (t.hport 1).out =
        0x5A :: ((leBytes 4 (regValue 1 (a / 4 * 4) (fhpStart s)).toNat).drop (a % 4)).take n := by
  have hact : (fhpStart s).hst.crcAct = false := hc
  have hlen : ¬ (n = 0 ∨ 4096 < n) := by omega
  have hnv : inNv a = false := decide_eq_false (by rw [nvView]; omega)
  refine ⟨_, whenPort_pos .fhp s _ hu (by decide), ?_⟩
  rw [keep_hport, ibrSettle_hport, ← fhpData_register n a (fhpStart s) hact ha h0 hn]
  simp [fhpChecked, hact, hlen, hnv]

/-! ### CHIP_ID (R3, Table 22.8) -/

/-- CHIP_ID reads one value in every state, before logical time starts too, and for every port. -/
theorem regValue_chipId (p : Nat) (s : State) : regValue p 0x0000 s = wordN chipId := by
  have hearly : readsEarly 0x0000 = true := by decide
  have hlive : regLive p 0x0000 s = wordN chipId := rfl
  rw [regValue, hearly, Bool.or_true, if_pos rfl, hlive]

/-- The device code and the revision code of CHIP_ID. -/
theorem chipId_codes :
    (wordN chipId).toNat % 65536 = 0x9400 ∧ (wordN chipId).toNat / 65536 % 256 = 0xB0 := by decide

/-- Settles O58: CHIP_ID is one constant word, and a read of its four bytes on either port returns that word. -/
theorem identityRegister : Obligations.IdentityRegister := by
  unfold Obligations.IdentityRegister
  refine ⟨fun p s => ?_, fun s hu hptr => ?_, fun crc s hu hc => ?_⟩
  · rw [regValue_chipId]
    exact chipId_codes
  · obtain ⟨t, ht, hout⟩ := execMgtReadTransaction_out 4 s hu
    refine ⟨t, wordN chipId, ht, ?_, chipId_codes⟩
    rw [hout, hptr, readRun_register 0 4 0 _ (by omega) (by omega) (by omega), regValue_chipId]
    rfl
  · obtain ⟨t, ht, hout⟩ := fhpReadFrame_register 0x0B 0 4 crc s hu hc (by omega) (by omega) (by omega)
    refine ⟨t, wordN chipId, ht, ?_, chipId_codes⟩
    rw [hout, regValue_chipId]
    rfl

end Sys2Proof.Machine

/-! SUPPORT. One register, one captured value (R554). -/
namespace Sys2Proof.Machine

/-- Settles O59: a read inside one register returns bytes of the value that the register has as the read begins, on MGT by the run
of bytes from the pointer on, on FHP by the data phase of a frame on one lane or four. -/
theorem registerCapture : Obligations.RegisterCapture := by
  unfold Obligations.RegisterCapture
  refine ⟨fun n s hu ha hn => ?_, fun a n crc s => fhpReadFrame_register 0x0B a n crc s,
    fun a n crc s => fhpReadFrame_register 0x6B a n crc s⟩
  obtain ⟨t, ht, hout⟩ := execMgtReadTransaction_out n s hu
  refine ⟨t, ht, hout.trans ?_⟩
  rcases Nat.eq_zero_or_pos n with rfl | h0
  · simp [readRun]
  · rw [readRun_register 0 n s.hst.mgtPtr (mgtTurned s) ha h0 hn]
    rfl

end Sys2Proof.Machine

/-! SUPPORT. What a whole word written to one register comes to (R443, R447, R456), and which queues a write leaves (R559). -/
namespace Sys2Proof.Machine

/-! ### The word that four bytes spell -/

theorem leNat_leBytes (n v : Nat) : leNat (leBytes n v) = v % 256 ^ n := by
  induction n generalizing v with
  | zero => simp [leBytes, leNat, Nat.mod_one]
  | succ n ih => rw [leBytes, leNat, ih, Nat.pow_succ', Nat.mod_mul, BitVec.toNat_ofNat]

theorem wordN_leBytes (v : Word) : wordN (leNat (leBytes 4 v.toNat)) = v := by
  have hlt : v.toNat < 256 ^ 4 := v.isLt
  rw [leNat_leBytes, Nat.mod_eq_of_lt hlt, wordN, BitVec.ofNat_toNat, BitVec.setWidth_eq]

/-! ### A write of one word (R443, R447) -/

theorem isWritable_lt {a : Nat} (h : isWritable a = true) : a < 0x5000 := by
  simp only [isWritable, Bool.or_eq_true, List.contains_iff_mem, List.mem_cons, List.not_mem_nil, or_false,
    decide_eq_true_eq] at h
  omega

/-- The byte writes of a word lie at its four addresses. -/
theorem runOf_word (a v : Nat) : runOf a (leBytes 4 v) =
    [(a, nth (leBytes 4 v) 0), (a + 1, nth (leBytes 4 v) 1), (a + 2, nth (leBytes 4 v) 2), (a + 3, nth (leBytes 4 v) 3)] := rfl

theorem lastByte_word (a v k : Nat) (hk : k < 4) :
    lastByte (runOf a (leBytes 4 v)) (a + k) = some (nth (leBytes 4 v) k) := by
  rw [runOf_word]
  match k, hk with
  | 0, _ | 1, _ | 2, _ | 3, _ => simp [lastByte]

/-- Four bytes written to one word leave nothing of what it held. -/
theorem writeWord_word (p a : Nat) (v : Word) (s : State) :
    writeWord p (runOf a (leBytes 4 v.toNat)) a s = regWrite p a v s := by
  have hnew : ∀ old : List Byte, (List.range 4).map (fun k =>
      (lastByte (runOf a (leBytes 4 v.toNat)) (a + k)).getD (nth old k)) = leBytes 4 v.toNat := fun old => by
    have hbyte : ∀ k ∈ List.range 4, (lastByte (runOf a (leBytes 4 v.toNat)) (a + k)).getD (nth old k) =
        nth (leBytes 4 v.toNat) k := fun k hk => by
      rw [lastByte_word a v.toNat k (List.mem_range.mp hk), Option.getD_some]
    rw [List.map_congr_left hbyte]
    rfl
  simp only [writeWord, hnew, wordN_leBytes]

theorem inScratch_register {a : Nat} (ha : a < 0x5000) : inScratch a = false :=
  decide_eq_false (by rw [scratchView]; omega)

theorem inNv_register {a : Nat} (ha : a < 0x5000) : inNv a = false := decide_eq_false (by rw [nvView]; omega)

/-- A byte write at a register's address touches no window and no view. -/
theorem writeByte_register (p a : Nat) (b : Byte) (s : State) (ha : a < 0x5000) : writeByte p a b s = s := by
  have hw : ¬ (0x8000 ≤ a ∧ a < 0x9000) := by omega
  simp [writeByte, hw, inScratch_register ha, inNv_register ha]

/-- Every byte of a writable word lies in that register. -/
theorem mem_runOf_word {a v : Nat} (hw : isWritable a = true) (ha : a % 4 = 0) {w : Nat × Byte}
    (h : w ∈ runOf a (leBytes 4 v)) : w.1 < 0x5000 ∧ w.1 / 4 * 4 = a := by
  have hlt := isWritable_lt hw
  simp only [runOf_word, List.mem_cons, List.not_mem_nil, or_false] at h
  rcases h with rfl | rfl | rfl | rfl <;> dsimp only <;> omega

/-- One transaction that writes one writable register whole is that register's write. -/
theorem spaceWrite_word (p a : Nat) (v : Word) (s : State) (hw : isWritable a = true) (ha : a % 4 = 0) :
    spaceWrite p (runOf a (leBytes 4 v.toNat)) s = regWrite p a v s := by
  have hmem := fun w => mem_runOf_word (v := v.toNat) (w := w) hw ha
  have hregs : (runOf a (leBytes 4 v.toNat)).filter (fun w => decide (w.1 < 0x5000)) = runOf a (leBytes 4 v.toNat) :=
    List.filter_eq_self.mpr fun w h => decide_eq_true (hmem w h).1
  have hscratch : (runOf a (leBytes 4 v.toNat)).filter (fun w => inScratch w.1) = [] :=
    List.filter_eq_nil_iff.mpr fun w h => by simp [inScratch_register (hmem w h).1]
  have hbytes : ∀ t, (runOf a (leBytes 4 v.toNat)).foldl (fun s w => writeByte p w.1 w.2 s) t = t := fun t =>
    List.foldlRecOn _ _ (motive := (· = t)) rfl fun u hu w h => by rw [hu, writeByte_register p w.1 w.2 t (hmem w h).1]
  have hwords : (runOf a (leBytes 4 v.toNat)).foldl (fun (ws : List Nat) w =>
      if ws.contains (w.1 / 4 * 4) || !isWritable (w.1 / 4 * 4) then ws else ws ++ [w.1 / 4 * 4]) [] = [a] := by
    have h0 : a / 4 * 4 = a := by omega
    have h1 : (a + 1) / 4 * 4 = a := by omega
    have h2 : (a + 2) / 4 * 4 = a := by omega
    have h3 : (a + 3) / 4 * 4 = a := by omega
    simp [runOf_word, h0, h1, h2, h3, hw]
  simp only [spaceWrite, hregs, hwords, hbytes, hscratch]
  by_cases hl : a = 0x0400
  · subst hl
    simp [writeWord_word]
  · simp [writeWord_word, hl, Ne.symm hl]

/-- No byte of a writable word fails (R456). -/
theorem writeFails_word (a : Nat) (v : Word) (s : State) (hw : isWritable a = true) (ha : a % 4 = 0) :
    (runOf a (leBytes 4 v.toNat)).any (fun w => s.writeFails w.1) = false :=
  List.any_eq_false.mpr fun w h => by
    obtain ⟨hlt, hword⟩ := mem_runOf_word hw ha h
    simp [State.writeFails, hlt, hword, hw]

/-! ### The queues that a write leaves (R64, R559) -/

/-- A change that lets nothing join the commands that wait or the waiting steps, and keeps the fuses. -/
structure JoinsNoQueue (s t : State) : Prop where
  pending : t.pending = s.pending
  otp : t.otp = s.otp
  queue : t.hst.queue = s.hst.queue

namespace JoinsNoQueue

theorem refl (s : State) : JoinsNoQueue s s := ⟨rfl, rfl, rfl⟩

theorem trans {s t u : State} (h : JoinsNoQueue s t) (k : JoinsNoQueue t u) : JoinsNoQueue s u :=
  ⟨k.pending.trans h.pending, k.otp.trans h.otp, k.queue.trans h.queue⟩

theorem ite {c : Prop} [Decidable c] {s t u : State} (h : JoinsNoQueue s t) (k : JoinsNoQueue s u) :
    JoinsNoQueue s (if c then t else u) := by
  split
  · exact h
  · exact k

theorem foldl {α : Type} {f : State → α → State} (h : ∀ s x, JoinsNoQueue s (f s x)) (l : List α) (s : State) :
    JoinsNoQueue s (l.foldl f s) := by
  induction l generalizing s with
  | nil => exact refl s
  | cons x l ih => exact (h s x).trans (ih (f s x))

end JoinsNoQueue

theorem setMbox_joinsNoQueue (m : Nat) (f : Mailbox → Mailbox) (s : State) : JoinsNoQueue s (setMbox m f s) :=
  ⟨rfl, rfl, rfl⟩

/-- A doorbell rings a mailbox; its block joins the queue when it is verified (R460, R469). -/
theorem doorbell_joinsNoQueue (m : Nat) (s : State) : JoinsNoQueue s (doorbell m s) := by
  unfold doorbell
  refine .ite ?_ ⟨rfl, rfl, rfl⟩
  unfold raiseIf
  exact .ite ⟨rfl, rfl, rfl⟩ ⟨rfl, rfl, rfl⟩

theorem writeDoorbell_joinsNoQueue (p : Nat) (v : Word) (s : State) : JoinsNoQueue s (writeDoorbell p v s) := by
  have hfirst : JoinsNoQueue s (if bvGet v 0 then doorbell (2 * p) s else s) :=
    .ite (doorbell_joinsNoQueue _ s) (.refl s)
  unfold writeDoorbell
  exact .ite (hfirst.trans (doorbell_joinsNoQueue _ _)) hfirst

theorem writeStatus_joinsNoQueue (p : Nat) (v : Word) (s : State) : JoinsNoQueue s (writeStatus p v s) := by
  refine .foldl (fun s k => ?_) _ s
  have hready : JoinsNoQueue s (if bvGet v (8 * k + 2) then clearReady (2 * p + k) s else s) :=
    .ite (setMbox_joinsNoQueue _ _ s) (.refl s)
  exact .ite (hready.trans (setMbox_joinsNoQueue _ _ _)) hready

theorem clearErr_joinsNoQueue (v : Word) (s : State) : JoinsNoQueue s (clearErr v s) := by
  unfold clearErr
  exact .ite (.refl s) (.ite ⟨rfl, rfl, rfl⟩ ⟨rfl, rfl, rfl⟩)

theorem clearWmEvents_joinsNoQueue (r : Nat) (v : Word) (s : State) : JoinsNoQueue s (clearWmEvents r v s) :=
  ⟨rfl, rfl, rfl⟩

/-- Of all registers only LOP_ENABLE lets a write wait as a command. -/
theorem regWrite_joinsNoQueue (p a : Nat) (w : Word) (s : State) (ha : a ≠ 0x1800) :
    JoinsNoQueue s (regWrite p a w s) := by
  have hlk : ∀ t, JoinsNoQueue s t → JoinsNoQueue s (if s.sys.lock then s else t) := fun t h => .ite (.refl s) h
  unfold regWrite
  refine .ite (clearWmEvents_joinsNoQueue _ _ s) (.ite (hlk _ ⟨rfl, rfl, rfl⟩) ?_)
  split
  -- The two mailbox registers (R460, R461).
  case h_2 => exact writeDoorbell_joinsNoQueue p _ s
  case h_3 => exact writeStatus_joinsNoQueue p _ s
  -- The registers that SYS_LOCK guards (R557).
  case h_4 | h_5 | h_6 | h_7 | h_8 | h_10 | h_11 | h_19 => exact hlk _ ⟨rfl, rfl, rfl⟩
  -- FLT_ERR_CLEAR (R346), LOP_ENABLE, and the sealed log's cursor, which wants a session (R319).
  case h_13 => exact clearErr_joinsNoQueue _ s
  case h_16 => exact absurd rfl ha
  case h_25 => exact .ite ⟨rfl, rfl, rfl⟩ (.refl s)
  -- Selections, event clears and cursors each change one component beside the queues, and other addresses nothing.
  all_goals exact ⟨rfl, rfl, rfl⟩

/-! ### REGISTER_WRITE of a word (R443, R559) -/

/-- What a step keeps stands already where nothing of it has changed. -/
theorem keep_ibrSettle {s t : State} (hp : t.pending = s.pending) (ho : t.otp = s.otp) :
    keep s (ibrSettle t) = ibrSettle t := by
  have hpend : (ibrSettle t).pending = s.pending := by unfold ibrSettle; split <;> exact hp
  have hotp : (ibrSettle t).otp = s.otp := by unfold ibrSettle; split <;> exact ho
  rw [keep, ← hpend, ← hotp]

theorem ibrSettle_queue (s : State) : (ibrSettle s).hst.queue = s.hst.queue := by
  unfold ibrSettle
  split <;> rfl

/-- REGISTER_WRITE of a writable register's whole word is the write of that register. -/
theorem execRegisterWrite_word (port : PortId) (a : Nat) (v : Word) (s : State) (hu : s.portsUp = true)
    (hport : port ≠ .peer) (hw : isWritable a = true) (ha : a % 4 = 0) :
    execRegisterWrite port a (leBytes 4 v.toNat) s =
      .next (keep s (ibrSettle (regWrite (portCode port) a v s))) := by
  have hspace : (runOf a (leBytes 4 v.toNat)).filter (fun w => decide (w.1 < 65536)) = runOf a (leBytes 4 v.toNat) :=
    List.filter_eq_self.mpr fun w h => decide_eq_true (by have := mem_runOf_word hw ha h; omega)
  rw [execRegisterWrite, whenPort_pos port s _ hu hport]
  simp only [hspace, spaceWrite_word _ a v s hw ha, writeFails_word a v s hw ha, Bool.and_false, fhpError,
    Bool.false_eq_true, if_false]

/-- LOP_ENABLE's write waits as a command of a device in control (R64, R559). -/
theorem regWrite_lopEnable (p : Nat) (v : Word) (s : State) (hd : s.drives = true) :
    regWrite p 0x1800 v s = setHst (fun h => { h with
      queue := h.queue ++ [{ port := if p = 0 then .mgt else .fhp, mbox := 2 * p, order := h.ring, verAt := h.verCount
                             isReg := true, regVal := v.toNat }]
      verCount := h.verCount + 1, ring := h.ring + 1 }) s := by
  have hmask : v &&& fieldMask 0x1800 = v := BitVec.and_allOnes
  have hqueue : regWrite p 0x1800 v s = queueLop p (v &&& fieldMask 0x1800) s := rfl
  rw [hqueue, hmask, queueLop, hd]
  rfl

/-- Settles O60: a whole word's write is its register's write; LOP_ENABLE's joins the commands that wait, and that of every other
register leaves the queues. -/
theorem reportingWrites : Obligations.ReportingWrites := by
  unfold Obligations.ReportingWrites
  refine ⟨fun port v s hu hport hd => ?_, fun port a v s hu hport hw ha hne => ?_⟩
  · refine (execRegisterWrite_word port 0x1800 v s hu hport (by decide) (by decide)).trans ?_
    rw [regWrite_lopEnable _ v s hd]
    exact congrArg Host.Outcome.next (keep_ibrSettle rfl rfl)
  · have hkept := regWrite_joinsNoQueue (portCode port) a v s hne
    refine ⟨_, ?_, rfl, (ibrSettle_queue _).trans hkept.queue⟩
    rw [← keep_ibrSettle hkept.pending hkept.otp]
    exact execRegisterWrite_word port a v s hu hport hw ha

end Sys2Proof.Machine
